-- ==== Sys2Proof/Word.lean ====
section
/-! DEFINITION. Word.lean: the widths the spec names (R11, R12): bytes of frames, records and descriptors, and the
32-bit register word. -/

namespace Sys2Proof

/-- A byte of a frame, a record or a descriptor. -/
abbrev Byte := BitVec 8

/-- A register word (R12). -/
abbrev Word := BitVec 32

end Sys2Proof
end

