-- ==== Sys2Proof/Syntax.lean ====
section
/-! DEFINITION. Syntax.lean: the commands of the block, one constructor per row of spec/opcode_table.json, and the
types of their operands.  What a command carries is what comes from outside the block when it happens: the words a host
or firmware writes, the bytes of a frame or a message, a measured value, a verdict of the world outside. -/

namespace Sys2Proof

/-- The world a register access is made from (R15, R295). -/
inductive World where
  /-- A PCIe function or non-secure debug. -/
  | nonSecure
  /-- Service firmware, non-secure, with the call gate of R296. -/
  | service
  /-- The secure monitor, or secure debug. -/
  | secure
  deriving DecidableEq, Repr

/-- Whether the world reaches fields with the S suffix (R15, R295). -/
def World.isSecure : World → Bool
  | .secure => true
  | _ => false

/-- A command descriptor as the T64 fetches it from a function's ring, with the payload bytes it points at (R330), and
how the two DMA transfers that the host serves come out.  The opcode is the row's. -/
structure Desc where
  fn : Fin 64
  flags : Byte
  /-- Byte 3 and bytes 44 to 47, reserved. -/
  rsvd3 : Byte
  rsvd44 : BitVec 32
  sessionId : BitVec 32
  seq : BitVec 64
  tag : BitVec 32
  payAddr : BitVec 64
  rspAddr : BitVec 64
  rspLen : BitVec 32
  mac : BitVec 128
  payload : List Byte
  /-- The payload read completes without error or poison (R331 step 3). -/
  readOk : Bool
  /-- The response buffer write completes (R337, DMA_ERROR). -/
  writeOk : Bool
  /-- The second computation of the command's doubled decisions agrees with the first (R414). -/
  agree : Bool
  deriving DecidableEq, Repr

/-- How a block command reaches its block: a write of the block's command register (the word written, whose OP field is
the row's), or a descriptor (R335), whose INDEX, ARG and window words stand in its payload. -/
inductive Via where
  | reg (world : World) (word : Word)
  | ring (d : Desc)
  deriving DecidableEq, Repr


/-- One set of the measurements that ENV_MEAS shows: rails and VBAT in mV, the reference's deviation in 100 ppm, die
temperatures in 0.25 °C. -/
structure Meas where
  vddCore : BitVec 16
  vddIo : BitVec 16
  refDev : BitVec 16
  temp0 : BitVec 16
  temp1 : BitVec 16
  temp2 : BitVec 16
  temp3 : BitVec 16
  vbat : BitVec 16
  deriving DecidableEq, Repr


/-- A master of Temper (R364); debug says whether JTAG is in the secure world. -/
inductive TMaster where
  | ctxCache | sampler | archiver | parcelEngine | monitor | firmware | dma
  | debug (secure : Bool)
  deriving DecidableEq, Repr

/-- What DDR5 gives back for a line (R356, R359): its DRAM code, a MAC that fails, or a counter block or tree node of that level
above it that fails. -/
inductive Dram where
  | clean | corrected | uncorrectable | forged
  | badNode (level : Fin 4)
  deriving DecidableEq, Repr

/-- What a read of an on-chip word finds (R369, R371), with the syndrome. -/
inductive EccFind where
  | clean
  | correctable (syndrome : Byte)
  | uncorrectable (syndrome : Byte)
  deriving DecidableEq, Repr

/-- What the word that was read holds (R370). -/
inductive EccUse where
  /-- Nothing that is consumed. -/
  | nothing
  /-- Bytes of a frame, by its number, in a staging area or the pool. -/
  | frame (id : Nat)
  | context (sa : BitVec 18)
  | bitmap (sa : BitVec 18) (word : Fin 32)
  | statistics (sa : BitVec 18) (k : Fin 7)
  | rule (i : BitVec 14)
  | heat (id : Nat)
  | queueConfig (q : BitVec 15)
  /-- A link of the frame's chain of cells. -/
  | cellLink (id : Nat)
  /-- An entry of a gate control list, acting or pending. -/
  | gateEntry (port : Fin 64) (pending : Bool)
  | admission (id : Nat)
  | metaClean
  | metaDirty (level : Fin 4) (index : Nat)
  | slot (n : BitVec 12)
  | monitor
  | counter (i : BitVec 13)
  | sample (slot : BitVec 12)
  deriving DecidableEq, Repr

/-- What a reset finds: how many of the queued store commits were written before it and whether the next one was cut short (R250);
whether the HUK's reconstruction passes its check (R231); the faults the march test finds, as memory and word (R377); whether the
doubled verdict on the firmware agrees (R264). -/
structure BootIn where
  written : Fin 33
  torn : Bool
  huk : Bool
  march : List (Fin 10 × BitVec 32)
  agree : Bool
  deriving DecidableEq, Repr

/-- What the firmware finds as it boots: the DDR5 fitted (0 none, else 2^k GiB) and whether its training passes (R348), the anvils
that fail their self-test (R144), whether the certificates match (R294), whether the doubled verdict on the image agrees (R264),
and the bypass slots whose doubled enabling disagrees (R414). -/
structure FwIn where
  ddr : Fin 6
  trained : Bool
  weak : BitVec 40
  certsOk : Bool
  agree : Bool
  capsBad : BitVec 256
  deriving DecidableEq, Repr

/-- Instructions of the JTAG test access port (R292). -/
inductive Jtag where
  | bypass | idcode | samplePreload | extest | intest | clamp
  deriving DecidableEq, Repr

/-- A mark (R387): an association, its direction and a PN. -/
structure Mark where
  sa : BitVec 18
  rx : Bool
  pn : BitVec 64
  deriving DecidableEq, Repr

/-- A mirrored change (R391): the command code, INDEX, ARG and payload of what the active accepted, a key it needs as a blob under
TIE_KEY, and whether the standby's own doubled verdict agrees (R414). -/
structure Mirrored where
  opcode : BitVec 16
  idx : BitVec 32
  arg : BitVec 32
  payload : List Byte
  blob : List Byte
  agree : Bool
  deriving DecidableEq, Repr

/-- A piece of the state of a snapshot (R390): an association's context words with its key as a blob, a Plat entry, or a slot as a
blob with its parcel and parent. -/
inductive TieItem where
  | assoc (sa : BitVec 18) (ctx blob : List Byte)
  | station (e : BitVec 128)
  | slot (n : BitVec 12) (parcel : Fin 64) (blob : List Byte)
  deriving DecidableEq, Repr


/-- The commands of the block: one constructor per row of spec/opcode_table.json, with the row's rule. -/
inductive Instr where
  /-- REGISTER_WRITE (R14): A write to a register field that has no behaviour row of its own sets, clears or triggers the field according to its access type. -/
  | registerWrite (w : World) (a : BitVec 32) (v : Word) (b : BootIn) (good : Bool)
  /-- UNALIGNED_ACCESS (R13): A BAR0 or BAR2 access that is not an aligned 32-bit word completes as unsupported request and is counted in GLB_BADACC_CNT. -/
  | unalignedAccess (f : Fin 64) (bar2 : Bool)
  /-- SECURE_ACCESS_REFUSED (R15): A non-secure access to a field with the S suffix reads zero or is ignored, raises event 0x010 and is recorded in the security log. -/
  | secureAccessRefused (w : World) (a : BitVec 32) (write : Option Word)
  /-- OP_ZERO_WRITE (R505): A write with OP = 0 to a command register sets its other writable fields and starts no command. -/
  | opZeroWrite (w : World) (a : BitVec 32) (v : Word)
  /-- RESERVED_OP_WRITE (R505): A write of a reserved non-zero OP to a command register is refused as the owning chapter states. -/
  | reservedOpWrite (w : World) (a : BitVec 32) (v : Word)
  /-- CLEAR_FRAME_ARRIVAL (R21): A frame starts arriving on a clear port and is taken through the MAC and Traverse towards encryption, bypass, control or drop. -/
  | clearFrameArrival (n : Fin 32) (lag : BitVec 16) (b : List Byte) (bad : Bool)
  /-- LINE_FRAME_ARRIVAL (R42): A frame starts arriving on a line port and is parsed for its SecTAG, classified and checked towards decryption or drop. -/
  | lineFrameArrival (n : Fin 32) (lag : BitVec 16) (b : List Byte) (bad : Bool)
  /-- CONTEXT_FETCH_DONE (R25): A context fetch from DDR5 completes and the waiting frames of the channel proceed to dispatch. -/
  | contextFetchDone (sa : BitVec 18) (good : Bool)
  /-- FRAME_RX_END (R457): The last byte of a received frame arrives with its FCS result, or the frame is cut short by loss of lock. -/
  | frameRxEnd (id : Nat) (got : BitVec 16) (frags : BitVec 8)
  /-- TONGS_DISPATCH (R128): Tongs grants a heat, reads the context, places the frame on an anvil, draws or checks the PN and hands it to a stream. -/
  | tongsDispatch (id : Nat)
  /-- RESERVATION_DURABLE (R111): A static PN reservation commit completes in the Hearth store, or fails in time and exhausts the association. -/
  | reservationDurable (sa : BitVec 18)
  /-- ICV_VERDICT (R127): The anvil delivers a decrypt frame's ICV verdict to the release stage, which settles the frame's pass or failure. -/
  | icvVerdict (id : Nat)
  /-- VERDICT_DEADLINE (R155): t_V passes with no verdict and the frame is stomped or dropped whole and counted in REL_VERDICT_LATE. -/
  | verdictDeadline (id : Nat)
  /-- SPECULATIVE_START (R150): A frame's first byte passes to Bellows before its verdict once order, lead and timing conditions all hold. -/
  | speculativeStart (id : Nat)
  /-- FRAME_PASS (R151): A frame's first byte passes from the release stage to Bellows once its order, lead and, for verify-first, verdict conditions hold. -/
  | framePass (id : Nat)
  /-- HEAT_RELEASE (R30): A frame's last byte passes to Bellows and its heat is freed. -/
  | heatRelease (id : Nat)
  /-- TRANSMIT_SELECT (R170): When a port's transmitter can take a new frame Bellows chooses the class, the parcel queue and the head frame. -/
  | transmitSelect (n : Fin 64) (q : BitVec 16)
  /-- FRAME_TX_END (R37): A frame finishes on the wire or is ended, its cells return and it is accounted as sent or dropped. -/
  | frameTxEnd (n : Fin 64) (hard : BitVec 16)
  /-- CONTROL_FRAME_ORIGINATE (R37): Firmware originates an MKA or PTP frame from the control port for transmission and counts it in TRV_CTL_ORIG. -/
  | controlFrameOriginate (n : Fin 64) (c : Fin 8) (b : List Byte)
  /-- BYPASS_BUCKET_REFILL (R55): Every 1.024 µs each bypass bucket gains its rate increment up to its depth. -/
  | bypassBucketRefill
  /-- POLICER_REFILL (R176): Every 1.024 µs each policer bucket gains its frame increment up to BURST. -/
  | policerRefill
  /-- QUEUE_SAMPLE (R178): Once per 1.024 µs each queue's depth and head-of-line delay are sampled and event 0x28A raised over threshold. -/
  | queueSample
  /-- HOLD_OFF_EXPIRY (R39): An event number's 1 ms hold-off ends and it posts one further message or becomes quiet. -/
  | holdOffExpiry (num : BitVec 10)
  /-- RULE_READ (R62): TRV_RULE_CMD READ moves a rule's 20 words into the data window. -/
  | ruleRead (v : Via)
  /-- RULE_WRITE (R62): TRV_RULE_CMD WRITE writes a rule from the window and zeroes its hit count, or is refused for owner mismatch. -/
  | ruleWrite (v : Via)
  /-- RULE_INVALIDATE (R62): TRV_RULE_CMD INVALIDATE clears a rule and its poison. -/
  | ruleInvalidate (v : Via)
  /-- RULE_READ_CLEAR (R62): TRV_RULE_CMD READ and clear hit count reads a rule and zeroes its hit count. -/
  | ruleReadClear (v : Via)
  /-- GENERATION_SWAP (R46): Writing TRV_GEN.SWAP inverts the active rule generation between two frames with event 0x103. -/
  | generationSwap (w : World)
  /-- BYPASS_CAP_WRITE (R55): A write to TRV_BYP_CAP sets the slot's cap and refills its bucket to the new depth. -/
  | bypassCapWrite (w : World) (slot : BitVec 8) (second : Bool) (v : Word)
  /-- LEARN_REQUEST (R70): The learn engine serves a queued REFRESH, LEARN, MOVE or CONFLICT request against the entry as it stands. -/
  | learnRequest
  /-- HOLD_DOWN_EXPIRY (R71): A hold-down record expires and the entry's HOLD is cleared if its HOLD_TAG still matches. -/
  | holdDownExpiry (n : BitVec 12)
  /-- AGING_SWEEP (R74): The sweeper visits a bucket, clearing HIT, setting AGE or removing unused dynamic entries. -/
  | agingSweep
  /-- SWEEP_PASS_END (R75): At the end of a sweeper pass the live occupancy counts take the tallies. -/
  | sweepPassEnd
  /-- REBUILD_START (R76): Setting PLT_REBUILD.START begins or resumes a rebuild under new seeds, or is refused while one is active. -/
  | rebuildStart (w : World)
  /-- REBUILD_MIGRATE (R76): The rebuild walker visits a bucket or stash entry and migrates old-generation entries under the new seeds. -/
  | rebuildMigrate
  /-- STASH_THRESHOLD (R78): Firmware starts a rebuild when STASH_USED reaches AUTO_THRESH and none is active. -/
  | stashThreshold
  /-- LOOKUP (R80): PLT_CMD LOOKUP returns the entry of the window's key or NOT_FOUND. -/
  | pltLookup (v : Via)
  /-- INSERT (R80): PLT_CMD INSERT adds the window entry under R73 or returns EXISTS, DENIED, QUOTA or FULL. -/
  | pltInsert (v : Via)
  /-- REPLACE (R80): PLT_CMD REPLACE rewrites the present entry of that key whole from the window. -/
  | pltReplace (v : Via)
  /-- DELETE (R80): PLT_CMD DELETE removes the entry of the key and releases its charge. -/
  | pltDelete (v : Via)
  /-- READ_ADDR (R80): PLT_CMD READ_ADDR reads the way at BANK, BUCKET, WAY. -/
  | pltReadAddr (v : Via)
  /-- READ_STASH (R80): PLT_CMD READ_STASH reads one stash entry. -/
  | pltReadStash (v : Via)
  /-- FLUSH (R81): PLT_CMD FLUSH starts removing entries matching the selector while holding matching learns. -/
  | pltFlush (v : Via)
  /-- FLUSH_DONE (R81): A flush finishes and the held learn requests are served. -/
  | pltFlushDone
  /-- SC_READ (R121): SEC_CMD SC_READ places a channel entry in the window. -/
  | scRead (v : Via)
  /-- SC_WRITE (R91): SEC_CMD SC_WRITE writes a channel entry subject to the checks of R91, R93 and R302. -/
  | scWrite (v : Via)
  /-- SA_READ (R118): SEC_CMD SA_READ places an association context in the window without key material. -/
  | saRead (v : Via)
  /-- SA_INSTALL (R101): SEC_CMD SA_INSTALL installs a context with the key from a handoff into an EMPTY association. -/
  | saInstall (v : Via)
  /-- SA_DELETE (R96): SEC_CMD SA_DELETE returns an inactive association to EMPTY and retires its key. -/
  | saDelete (v : Via)
  /-- SA_ENABLE (R96): SEC_CMD SA_ENABLE moves a receive association from INSTALLED to ACTIVE. -/
  | saEnable (v : Via)
  /-- SA_RETIRE (R96): SEC_CMD SA_RETIRE moves an active receive association to DRAINING for a drain time, or to INSTALLED. -/
  | saRetire (v : Via)
  /-- SC_SWITCH (R97): SEC_CMD SC_SWITCH switches a channel's transmit AN to an INSTALLED target within 1 µs. -/
  | scSwitch (v : Via)
  /-- SC_SCHEDULE (R98): SEC_CMD SC_SCHEDULE records a switch at a Datum time or returns PAST or UNSYNC. -/
  | scSchedule (v : Via)
  /-- SC_CANCEL (R98): SEC_CMD SC_CANCEL clears a pending scheduled switch. -/
  | scCancel (v : Via)
  /-- SA_RAISE_PN (R105): SEC_CMD SA_RAISE_PN raises NEXT_PN to the larger value between dispatches, exhausting it above PN_LIMIT. -/
  | saRaisePn (v : Via)
  /-- SA_REVOKE (R96): SEC_CMD SA_REVOKE makes an association REVOKED at the next frame boundary. -/
  | saRevoke (v : Via)
  /-- SA_STATS (R119): SEC_CMD SA_STATS reads the association's statistics block as one snapshot. -/
  | saStats (v : Via)
  /-- SA_PN (R102): SEC_CMD SA_PN returns the PN state and STATE in one consistent read. -/
  | saPn (v : Via)
  /-- SCHEDULED_SWITCH_DUE (R99): A pending switch time arrives while Datum is unsynchronised or its target is not INSTALLED and is cancelled with event 0x18A. -/
  | scheduledSwitchDue (sc : BitVec 16)
  /-- DRAIN_EXPIRY (R96): A draining receive association's DRAIN_UNTIL passes and it returns to INSTALLED. -/
  | drainExpiry (sa : BitVec 18)
  /-- QUARANTINE_EXPIRY (R96): A quarantined association's QUAR_UNTIL passes and it returns to ACTIVE, DRAINING or INSTALLED. -/
  | quarantineExpiry (sa : BitVec 18)
  /-- KNOWN_ANSWER_TEST (R142): An anvil's periodic known-answer test falls due and is run in idle or non-express cycles. -/
  | knownAnswerTest (a : Fin 40) (good : Bool)
  /-- ANVIL_FAULT (R143): A parity error, failed known-answer test or KEY_GEN mismatch takes the anvil out of service and drops its frames. -/
  | anvilFault (a : Fin 40) (cause : Fin 4)
  /-- SHADOW_RESTORE (R137): A shadow-saved frame is restored to a free stream of its anvil once room reaches GMIN. -/
  | shadowRestore (a : Fin 40)
  /-- RETURN (R144): ANV_CTL RETURN starts the full self-test of an out-of-service anvil, or is refused for an anvil in service. -/
  | anvReturn (w : World) (a : Fin 40)
  /-- RETURN_SELF_TEST_DONE (R144): The RETURN self-test ends and the anvil returns to service with event 0x212 or stays out with cause 0b011. -/
  | anvReturnSelfTestDone (a : Fin 40) (good : Bool)
  /-- REMOVE (R144): ANV_CTL REMOVE stops new placements on an in-service anvil, or is refused for one out of service. -/
  | anvRemove (w : World) (a : Fin 40)
  /-- REMOVE_DRAINED (R144): A removed anvil's streams and shadow slots complete and it leaves service with event 0x211 cause 0b000. -/
  | anvRemoveDrained (a : Fin 40)
  /-- POWER_GATE (R141): A general anvil idle for IDLE_US is power-gated while MIN_AWAKE stay awake. -/
  | powerGate
  /-- ANVIL_WAKE (R141): The lowest-numbered gated anvil is woken when an ordinary frame waits or utilisation exceeds WAKE_PCT. -/
  | anvilWake
  /-- ANVIL_WAKE_DONE (R141): A woken anvil finishes its 2 µs wake and accepts placements. -/
  | anvilWakeDone (a : Fin 40)
  /-- HWM_CLR (R135): Writing ANV_HEAT_USE.HWM_CLR sets the heat high-water mark to the current use. -/
  | hwmClr
  /-- STOMP_WINDOW_END (R159): A 1 s port-guard window of the free-running clock ends and the port's stomp count restarts. -/
  | stompWindowEnd
  /-- SUSPENSION_END (R159): QUAR_MS after the last counted stomp, a port's speculation suspension ends with event 0x242. -/
  | suspensionEnd (n : Fin 32)
  /-- RESUME (R159): Writing SEC_REL_PORT.RESUME ends a port's speculation suspension at once. -/
  | relResume (w : World) (n : Fin 32)
  /-- Q_READ (R181): BLW_QCMD Q_READ places a queue record in the window as one snapshot. -/
  | qRead (v : Via)
  /-- Q_WRITE (R181): BLW_QCMD Q_WRITE writes a queue's configuration words from the secure world, or is refused with DENIED or BAD_INDEX. -/
  | qWrite (v : Via)
  /-- Q_CLR_MAX (R181): BLW_QCMD Q_CLR_MAX sets the queue's maxima to the current sample. -/
  | qClrMax (v : Via)
  /-- GATE_BOUNDARY (R187): A laid-out gate boundary is reached and the port's gate vector, guard bands and preemptable closings change. -/
  | gateBoundary (n : Fin 64)
  /-- HORIZON_APPLY (R190): A pending gate configuration change takes effect at the first boundary beyond the 65,536 ns layout horizon. -/
  | horizonApply (n : Fin 64)
  /-- LIST_SWAP (R191): An armed pending list becomes active at its qualifying instant with event 0x283. -/
  | listSwap (n : Fin 64)
  /-- READ_ACT (R205): GAT_GCL_CMD READ_ACT reads an active list entry. -/
  | gatReadAct (v : Via)
  /-- READ_PEND (R205): GAT_GCL_CMD READ_PEND reads a pending list entry. -/
  | gatReadPend (v : Via)
  /-- WRITE_PEND (R205): GAT_GCL_CMD WRITE_PEND writes a pending list entry unless a swap is armed. -/
  | gatWritePend (v : Via)
  /-- ARM (R191): GAT_GCL_CMD ARM checks the pending list and arms its swap. -/
  | gatArm (v : Via)
  /-- DISARM (R191): GAT_GCL_CMD DISARM cancels an armed swap before its instant enters the horizon, or returns LATE. -/
  | gatDisarm (v : Via)
  /-- MERGE_VERIFY_DONE (R196): The IEEE 802.3br verify process ends and MM_STATE becomes ACTIVE or FAILED with event 0x285. -/
  | mergeVerifyDone (n : Fin 64) (good : Bool)
  /-- SET (R228): DAT_CMD SET loads Datum with the operand as a step while SRC is FREE. -/
  | datSet (v : Via)
  /-- STEP (R212): DAT_CMD STEP moves Datum by the operand, carrying the step into quarantine, gate, Meridian and stake times. -/
  | datStep (v : Via)
  /-- SLEW (R212): DAT_CMD SLEW starts a slew of the operand, replacing any remaining offset. -/
  | datSlew (v : Via)
  /-- REPORT (R216): DAT_CMD REPORT hands a PTP offset measurement to the Datum state machine. -/
  | datReport (v : Via)
  /-- SLEW_ABORT (R228): DAT_CMD SLEW_ABORT cancels the remaining slew. -/
  | datSlewAbort (v : Via)
  /-- SLEW_DONE (R212): A slew's offset is consumed and SLEWING clears. -/
  | datSlewDone
  /-- PPS_IN_EDGE (R215): A PPS_IN edge of the selected polarity is captured in Datum. -/
  | ppsInEdge (rise : Bool) (q : BitVec 8)
  /-- TOD_MESSAGE (R215): A TOD_IN message is received and paired with its edge to make a measurement or counted in DAT_TOD_ERR. -/
  | todMessage (b : List Byte)
  /-- SOURCE_LOST (R215): 1.5 s without a measurement or REPORT, or the PTP announce timeout, marks the time source lost. -/
  | sourceLost (announce : Bool)
  /-- DATUM_HOLDOVER_EXPIRY (R213): HOLDOVER_S seconds pass in HOLDOVER and Datum returns to FREERUN. -/
  | datumHoldoverExpiry
  /-- FREQ_WRITE (R212): A write to DAT_FREQ sets the rate offset, clamped to 200 ppm with event 0x304. -/
  | freqWrite (w : World) (v : Word)
  /-- SOURCE_CHANGE (R213): A write to DAT_CFG.SRC moves Datum to FREERUN, ACQUIRING or HOLDOVER. -/
  | sourceChange (w : World) (v : Word)
  /-- NOW_LATCH (R210): A read of DAT_NOW_FRAC latches Datum, DAT_CYC and Meridian phase in one core cycle. -/
  | nowLatch
  /-- PPS_OUT_SECOND (R219): Datum reaches a whole second and PPS_OUT rises, followed 10 ms later by the TOD_OUT message. -/
  | ppsOutSecond
  /-- MERID_IN_EDGE (R220): A MERID_IN edge is timestamped, range-checked and used to track phase and Meridian state. -/
  | meridInEdge (rise : Bool) (q : BitVec 8) (us : BitVec 32)
  /-- MERIDIAN_EDGE_MISSING (R221): No accepted edge within 1.5 predicted periods moves LOCKED Meridian into HOLDOVER. -/
  | meridianEdgeMissing
  /-- MERIDIAN_HOLD_EXPIRY (R221): HOLD_CYCLES predicted cycles pass in HOLDOVER and Meridian becomes UNLOCKED. -/
  | meridianHoldExpiry
  /-- BENCH_CAPTURE (R223): A BENCH_IN edge captures Datum into its FIFO or is counted in DAT_BENCH_OVF. -/
  | benchCapture (ix : Fin 8) (rise : Bool) (q : BitVec 8)
  /-- BENCH_POP (R223): A read of DAT_BENCH_LO pops the oldest capture and latches its other words. -/
  | benchPop (ix : Fin 8)
  /-- STAKE_ARM (R224): Writing a stake's ARM checks and arms its configuration or refuses it with PAST or INVALID. -/
  | stakeArm (w : World) (k : Fin 8) (v : Word)
  /-- STAKE_DISARM (R224): Writing a stake's DISARM stops it after any fixed firing. -/
  | stakeDisarm (w : World) (k : Fin 8) (v : Word)
  /-- STAKE_FIRING (R225): A stake firing time arrives and the stake fires, or the firing is suppressed or skipped. -/
  | stakeFiring (k : Fin 8)
  /-- SLOT_ATTR (R234): Hearth SLOT_ATTR reads a slot's attributes into HRT_DATA. -/
  | slotAttr (v : Via)
  /-- SLOT_IMPORT (R237): Hearth SLOT_IMPORT unwraps a blob into a slot subject to format, authentication and sequence checks. -/
  | slotImport (v : Via)
  /-- SLOT_GENERATE (R506): Hearth SLOT_GENERATE creates a slot with a random key under a parent. -/
  | slotGenerate (v : Via)
  /-- SLOT_DERIVE (R506): Hearth SLOT_DERIVE derives a child slot from its parent with the given label. -/
  | slotDerive (v : Via)
  /-- SLOT_EXPORT (R240): Hearth SLOT_EXPORT wraps an EXPORTABLE slot under a WRAP slot as a MODE 0 blob. -/
  | slotExport (v : Via)
  /-- SLOT_REVOKE (R244): Hearth SLOT_REVOKE makes a slot tree REVOKED, marks it for Tongs and starts the association sweep. -/
  | slotRevoke (v : Via)
  /-- REVOCATION_SWEEP_DONE (R244): The background revocation sweep over contexts ends with event 0x342. -/
  | revocationSweepDone
  /-- SLOT_DELETE (R246): Hearth SLOT_DELETE makes a childless slot RETIRING and erases its store record. -/
  | slotDelete (v : Via)
  /-- ATTR_SET (R234): Hearth ATTR_SET clears a slot's EXPORTABLE attribute. -/
  | attrSet (v : Via)
  /-- SAK_UNWRAP (R241): Hearth SAK_UNWRAP unwraps a SAK blob into a handoff. -/
  | sakUnwrap (v : Via)
  /-- SAK_FROM_SLOT (R507): Hearth SAK_FROM_SLOT places a slot's key, with an optional salt, in a handoff. -/
  | sakFromSlot (v : Via)
  /-- MKA_KDF (R242): Hearth MKA_KDF derives the hidden ICK and KEK from a CAK slot. -/
  | mkaKdf (v : Via)
  /-- MKA_ICV (R242): Hearth MKA_ICV computes or checks an MKPDU ICV under the hidden ICK. -/
  | mkaIcv (v : Via)
  /-- MKA_SAK_WRAP (R242): Hearth MKA_SAK_WRAP draws a SAK into a handoff and returns it wrapped under the KEK. -/
  | mkaSakWrap (v : Via)
  /-- MKA_SAK_UNWRAP (R242): Hearth MKA_SAK_UNWRAP unwraps a distributed SAK into a handoff. -/
  | mkaSakUnwrap (v : Via)
  /-- MAC_GEN (R260): Hearth MAC_GEN computes an AES-CMAC under a SIGN slot. -/
  | macGen (v : Via)
  /-- MAC_VERIFY (R260): Hearth MAC_VERIFY checks an AES-CMAC under a SIGN slot. -/
  | macVerify (v : Via)
  /-- SIGN (R260): Hearth SIGN produces an ECDSA P-384 signature under a SIGN slot. -/
  | hrtSign (v : Via)
  /-- HANDOFF_DROP (R254): Hearth HANDOFF_DROP zeroizes a handoff entry. -/
  | handoffDrop (v : Via)
  /-- IMPORT_PUBKEY (R239): Hearth IMPORT_PUBKEY returns a parcel's hybrid import public keys. -/
  | importPubkey (v : Via)
  /-- QUENCH_SLOT (R254): Hearth QUENCH scope SLOT deletes and zeroizes a slot's material. -/
  | quenchSlot (v : Via)
  /-- QUENCH_PARCEL (R254): Hearth QUENCH scope PARCEL zeroizes every key of a parcel and its root. -/
  | quenchParcel (v : Via)
  /-- QUENCH_ERASE (R254): Hearth QUENCH scope ERASE zeroizes all datapath keys and Temper keys. -/
  | quenchErase (v : Via)
  /-- QUENCH_PURGE (R254): Hearth QUENCH scope PURGE zeroizes every key, root, the HUK register and BBRAM_KEK. -/
  | quenchPurge (v : Via)
  /-- QUENCH_COMPLETE (R255): A Quench scope finishes its read-back, raising event 0x34B or applying HOLD on a second failure. -/
  | quenchComplete (good : Bool)
  /-- HANDOFF_EXPIRY (R241): A handoff unused for 1 s expires, is zeroized and counted in HRT_HANDOFF_EXP. -/
  | handoffExpiry (e : BitVec 6)
  /-- STORE_COMMIT_DONE (R249): A Hearth store commit is written and read back, freeing the older copy or retrying once. -/
  | storeCommitDone (good : Bool)
  /-- RANDOM_READ (R257): A read of HRT_RANDOM returns 32 DRBG bits, or zero when the TRNG is not OK. -/
  | randomRead (w : World)
  /-- TRNG_HEALTH_FAIL (R257): A TRNG health test fails and the DRBG stops serving with event 0x341. -/
  | trngHealthFail
  /-- TRNG_RECOVER (R257): After 1,024 consecutive passing samples the DRBG resumes serving. -/
  | trngRecover (n : BitVec 16)
  /-- DRBG_RESEED (R257): The DRBG is reseeded every 1 s or 2^20 requests, and the response engine's LFSR every 1 ms. -/
  | drbgReseed
  /-- LOCKSTEP_DIVERGENCE (R258): The two Hearth cores diverge and Hearth stops, raising event 0x34F and applying HOLD. -/
  | lockstepDivergence
  /-- RECOVERY_ERASE (R268): GLB_RECOVERY_CTL ERASE erases firmware slot A in NO_FW. -/
  | recoveryErase (good : Bool)
  /-- RECOVERY_WRITE (R268): GLB_RECOVERY_CTL WRITE programs a chunk of slot A from the data window. -/
  | recoveryWrite (good : Bool)
  /-- RECOVERY_BOOT (R268): GLB_RECOVERY_CTL BOOT verifies slot A and boots it, rewriting the boot record, or reports VERIFY_FAIL. -/
  | recoveryBoot (agree : Bool)
  /-- FIRMWARE_BOOT (R269): Verified firmware mounts the store, verifies and applies the configuration image and brings ports up closed. -/
  | firmwareBoot (x : FwIn)
  /-- IMAGE_STAGE (R275): IMAGE_STAGE writes a chunk of a configuration image into the staging slot. -/
  | imageStage (d : Desc)
  /-- IMAGE_VERIFY (R273): IMAGE_VERIFY runs the verification steps on the staged image and returns its measurement. -/
  | imageVerify (d : Desc)
  /-- COMMIT (R276): COMMIT starts the commit of the verified image at once. -/
  | commit (d : Desc)
  /-- COMMIT_AT (R279): COMMIT_AT schedules the commit at Datum time T or is refused with TOO_LATE or UNSYNC. -/
  | commitAt (d : Desc)
  /-- COMMIT_CANCEL (R275): COMMIT_CANCEL cancels a scheduled commit before its prestage begins. -/
  | commitCancel (d : Desc)
  /-- PRESTAGE (R276): A commit's PRESTAGE begins, creating everything the new image adds out of reach of the active generation. -/
  | prestage
  /-- COMMIT_SWITCH (R276): At T, or when PRESTAGE ends, the commit swaps generation and applies register writes, or aborts LATE. -/
  | commitSwitch (capsBad : BitVec 256)
  /-- SCHEDULED_COMMIT_UNSYNC (R226): A scheduled commit falls due while Datum is unsynchronised and is not performed, with event 0x305. -/
  | scheduledCommitUnsync
  /-- POSTSTAGE (R276): From 1 ms after SWITCH the commit removes what the new image no longer names and raises the IMAGE_SEQ floor. -/
  | poststage
  /-- SESSION_OPEN (R280): SESSION_OPEN starts a session exchange and returns SESSION_ACCEPT. -/
  | sessionOpen (d : Desc)
  /-- SESSION_CONFIRM (R280): SESSION_CONFIRM completes the exchange and derives the session keys, or is refused. -/
  | sessionConfirm (d : Desc)
  /-- SESSION_CLOSE (R282): SESSION_CLOSE closes the function's session and zeroizes its keys. -/
  | sessionClose (d : Desc)
  /-- SESSION_IDLE_TIMEOUT (R282): IDLE_S seconds pass without a command and the session closes with event 0x00B. -/
  | sessionIdleTimeout (f : Fin 64)
  /-- NOP (R334): NOP returns OK and changes nothing. -/
  | cmdNop (d : Desc)
  /-- CHALLENGE (R284): CHALLENGE returns a 32-byte nonce bound to the function, discarding the oldest beyond 16. -/
  | challenge (d : Desc)
  /-- ATTEST (R293): ATTEST returns a statement of the device's condition signed by the identity key. -/
  | attest (d : Desc)
  /-- CERT_GET (R294): CERT_GET returns the device identity certificates and CA chain. -/
  | certGet (d : Desc)
  /-- FW_STAGE (R287): FW_STAGE writes a chunk of new firmware into the slot not running. -/
  | fwStage (d : Desc)
  /-- FW_UPDATE (R287): FW_UPDATE verifies the staged firmware and hands over to it hitlessly into TRIAL. -/
  | fwUpdate (d : Desc) (agree : Bool)
  /-- FW_CONFIRM (R288): FW_CONFIRM in TRIAL rewrites the boot record, raises the SVN floor and programs revocations. -/
  | fwConfirm (d : Desc)
  /-- TRIAL_EXPIRY (R288): CONFIRM_S seconds pass in TRIAL without FW_CONFIRM and the firmware hands back with event 0x009. -/
  | trialExpiry
  /-- TAKE_OWNERSHIP (R289): TAKE_OWNERSHIP moves MANUFACTURE to OWNED with the proposed owner keys. -/
  | takeOwnership (d : Desc) (agree : Bool) (b : BootIn)
  /-- TRANSFER (R289): TRANSFER writes the next owner record and advances OWNER_EPOCH. -/
  | transferOwner (d : Desc) (agree : Bool) (b : BootIn)
  /-- SEAL (R289): SEAL moves OWNED to SEALED, closing debug permanently. -/
  | sealDevice (d : Desc) (agree : Bool) (b : BootIn)
  /-- RETIRE (R289): RETIRE moves the device to RETIRED. -/
  | retireDevice (d : Desc) (agree : Bool) (b : BootIn)
  /-- REVOKE_AUTH_KEY (R289): REVOKE_AUTH_KEY sets an owner key's revocation bit unless it is the last unrevoked one. -/
  | revokeAuthKey (d : Desc)
  /-- DEBUG_UNLOCK (R291): DEBUG_UNLOCK opens JTAG at OBSERVE or FULL scope under a signed token. -/
  | debugUnlock (d : Desc)
  /-- JTAG_INSTRUCTION (R292): Loading EXTEST, INTEST or CLAMP places every port in HOLD until a CHIP reset. -/
  | jtagInstruction (ix : Jtag)
  /-- CALL_GATE_REQUEST (R296): Service firmware asks the secure monitor's call gate for a secure operation, which is performed or refused with event 0x010. -/
  | callGateRequest (a : BitVec 24) (v : Word)
  /-- SERVICE_WATCHDOG_EXPIRY (R297): Service firmware misses its 1 s watchdog and is restarted without stopping the data path. -/
  | serviceWatchdogExpiry
  /-- PARCEL_ASSIGN (R304): PARCEL_ASSIGN assigns an UNASSIGNED parcel to a tenant and advances its epoch. -/
  | parcelAssign (d : Desc)
  /-- PARCEL_RELEASE (R315): PARCEL_RELEASE HARD-resets a parcel, deletes its objects, quenches it and makes it UNASSIGNED. -/
  | parcelRelease (d : Desc)
  /-- PARCEL_RESET (R311): PARCEL_RESET starts a SOFT or HARD reset of a parcel at a boundary. -/
  | parcelReset (d : Desc)
  /-- PARCEL_RESET_DONE (R312): No frame from before the boundary holds parcel resources and the reset completes with event 0x022. -/
  | parcelResetDone (p : Fin 64)
  /-- PARCEL_RESET_TIMEOUT (R312): 10 µs after the boundary any remaining frame of a SOFT reset is squashed and counted LATE. -/
  | parcelResetTimeout (p : Fin 64)
  /-- PARCEL_FREEZE (R314): PARCEL_FREEZE closes a parcel's admission and starts its drain. -/
  | parcelFreeze (d : Desc)
  /-- PARCEL_FROZEN (R314): A freezing parcel's frames are gone and it becomes FROZEN with event 0x023. -/
  | parcelFrozen (p : Fin 64)
  /-- FREEZE_TIMEOUT (R314): FREEZE_MS passes and queued frames of a freezing parcel are discarded. -/
  | freezeTimeout (p : Fin 64)
  /-- PARCEL_THAW (R316): PARCEL_THAW returns a FROZEN parcel to RUNNING. -/
  | parcelThaw (d : Desc)
  /-- PARCEL_SAVE (R317): PARCEL_SAVE builds an encrypted image of a frozen parcel with guarded PN ranges and writes it to the host. -/
  | parcelSave (d : Desc)
  /-- PARCEL_RESTORE (R319): PARCEL_RESTORE checks and loads a saved parcel image into an empty frozen parcel. -/
  | parcelRestore (d : Desc) (img : List Byte) (readOk : Bool)
  /-- PARCEL_WINDOW_WRITE (R323): A write to a mirror in a parcel window is performed with parcel fields forced, or ignored with event 0x026. -/
  | parcelWindowWrite (p : Fin 64) (off : BitVec 16) (v : Word)
  /-- REG_READ (R334): REG_READ reads words of the function's BAR0 view with non-secure rights. -/
  | regRead (d : Desc)
  /-- REG_WRITE (R334): REG_WRITE writes non-secure fields of the function's view or is refused whole. -/
  | regWrite (d : Desc)
  /-- COUNTER_READ (R438): COUNTER_READ reads up to 1,024 consecutive counters with the cycle counts of the first and last reads. -/
  | counterRead (d : Desc)
  /-- COUNTER_CLEAR (R439): COUNTER_CLEAR zeroes a range of counters and records the clear. -/
  | counterClear (d : Desc)
  /-- FB_READ (R445): FB_READ returns log, life block, histogram, period or sample records. -/
  | fbRead (d : Desc)
  /-- FB_CLEAR (R434): FB_CLEAR records its clear in the security log and then clears the selected field-book parts. -/
  | fbClear (d : Desc)
  /-- BAD_OPCODE (R331): A descriptor whose opcode is outside the catalogue is refused with BAD_OPCODE. -/
  | badOpcode (d : Desc) (op : BitVec 16)
  /-- CMD_TAIL_WRITE (R329): A write to CMD_TAIL hands commands to the device or stops the ring on a tail overrun. -/
  | cmdTailWrite (f : Fin 64) (v : BitVec 13)
  /-- CMD_ERR_CLEAR (R329): Writing 1 to CMD_ERR restarts a stopped command ring at CMD_HEAD. -/
  | cmdErrClear (f : Fin 64) (v : Word)
  /-- RING_ENABLE (R328): Setting CMD_EN or MSG_EN enables a ring or leaves it disabled for an invalid size. -/
  | ringEnable (f : Fin 64) (v : Word)
  /-- MSG_HEAD_WRITE (R329): A write to MSG_HEAD hands message entries back or sets MSG_ERR on over-return. -/
  | msgHeadWrite (f : Fin 64) (v : BitVec 13)
  /-- FUNCTION_LEVEL_RESET (R327): An FLR resets the function's rings and session and starts a SOFT reset of a running VF parcel. -/
  | functionLevelReset (f : Fin 64)
  /-- LINK_STATE_CHANGE (R327): The PCIe link changes state, and loss of L0 resets every function's host state. -/
  | linkStateChange (speed : BitVec 4) (width : BitVec 4) (l0 : Bool) (aspm : Bool)
  /-- CONVENTIONAL_RESET (R327): PCIE_PERST_N asserted resets every function's host state and nothing else. -/
  | conventionalReset
  /-- MSIX_UNMASK (R342): An unmasked MSI-X vector with pending unconsumed entries sends its message. -/
  | msixUnmask (f : Fin 64) (v : Fin 4) (mask : Bool)
  /-- COALESCING_EXPIRY (R342): A vector's coalescing time after its first unsignalled entry ends and its MSI-X message is sent. -/
  | coalescingExpiry (f : Fin 64) (v : Fin 2)
  /-- TEMPER_READ (R356): A master reads a DDR5 line through Temper with ECC, MAC and rights checks. -/
  | temperRead (m : TMaster) (line : BitVec 32) (dram : Dram)
  /-- TEMPER_WRITE (R358): A master writes a DDR5 line through Temper, whole or by read-merge-write. -/
  | temperWrite (m : TMaster) (line : BitVec 32) (off : Fin 64) (b : List Byte) (dram : Dram)
  /-- PATROL_SCRUB_LINE (R365): The patrol scrub reads and checks one DDR5 line, correcting or poisoning it. -/
  | patrolScrubLine (line : BitVec 32) (dram : Dram)
  /-- TMP_SCRUB_START (R365): Writing TMP_SCRUB.START begins a patrol scrub pass at once. -/
  | tmpScrubStart (w : World) (v : Word)
  /-- ECC_SCRUB_WORD (R374): The on-chip scrubber reads a word, rewriting corrected words and poisoning uncorrectable ones. -/
  | eccScrubWord (mem : Fin 10) (addr : Word) (find : EccFind) (use : EccUse)
  /-- ECC_SCRUB_START (R374): Writing ECC_SCRUB.START begins an on-chip scrub pass at once. -/
  | eccScrubStart (w : World) (v : Word)
  /-- ECC_LOG_CLEAR (R372): Writing ECC_LOG_CTL.CLEAR empties the error table and zeroes OVERFLOW. -/
  | eccLogClear (w : World) (v : Word)
  /-- ECC_INJECT_ARM (R379): Arming ECC_INJECT plants check-bit errors in the next write to the chosen word. -/
  | eccInjectArm (w : World) (v : Word) (addr : Word)
  /-- HELLO (R390): A HELLO message from the partner is checked for formation. -/
  | tieHello (seq : BitVec 32) (serial : BitVec 64) (strap : Bool) (fw : List Byte) (cfg : List Byte) (kcv : List Byte)
  /-- HEARTBEAT (R387): A HEARTBEAT message from the partner carries role, health and marks. -/
  | tieHeartbeat (seq : BitVec 32) (role : Fin 8) (sync : Bool) (ovf : Bool) (done : Bool) (marks : List Mark)
  /-- BLOCK (R393): A BLOCK message carries the partner's digest for comparison and the active's marks. -/
  | tieBlock (seq : BitVec 32) (n : Fin 64) (c : Fin 8) (num : BitVec 32) (digest : BitVec 64) (marks : List Mark)
  /-- MIRROR (R391): A MIRROR message is executed on the standby, which re-forms if its result differs. -/
  | tieMirror (seq : BitVec 32) (m : Mirrored)
  /-- SNAPSHOT (R390): A SNAPSHOT chunk is installed by the joining standby. -/
  | tieSnapshot (seq : BitVec 32) (items : List TieItem) (last : Bool)
  /-- FAULT (R398): A FAULT message reports the partner's self-reported fault. -/
  | tieFault (seq : BitVec 32) (cause : Byte)
  /-- SELFCHECK (R395): A SELFCHECK message requests or reports a self-check result. -/
  | tieSelfcheck (seq : BitVec 32) (pass : Option Bool) (ago : BitVec 32)
  /-- SWAP (R403): A SWAP message from the active names the swap time and puts the standby in SWAPPING. -/
  | tieSwap (seq : BitVec 32) (t : BitVec 64)
  /-- REALIGN (R393): A REALIGN message names the Datum time at which sequences restart numbering. -/
  | tieRealign (seq : BitVec 32) (which : Option (Fin 64 × Fin 8)) (t : BitVec 64)
  /-- PTP (R391): A PTP message forwards the active's REPORT for the standby to apply. -/
  | tiePtp (seq : BitVec 32) (e : BitVec 64)
  /-- TIE_MESSAGE_ERROR (R388): A Tie message with bad CRC, code or length is discarded and a SEQ gap sets MARK_OVF. -/
  | tieMessageError (lane : Option (Fin 4))
  /-- HEARTBEAT_SEND (R387): Every 500 ns each chip sends a HEARTBEAT with pending marks. -/
  | heartbeatSend
  /-- HEARTBEAT_LOSS (R398): No HEARTBEAT for 2 µs moves the chip to an isolated role or starts takeover recognition. -/
  | heartbeatLoss
  /-- TIE_HOLD_IN_CHANGE (R384): TIE_HOLD_IN changes level, resolving conflicts, squelching a driver or allowing takeover. -/
  | tieHoldInChange (asserted : Bool)
  /-- HOLD_WAIT_DONE (R384): TIE_HOLD_IN has read deasserted for 100 ns after asserting TIE_HOLD_OUT and the chip may drive. -/
  | holdWaitDone
  /-- HOLD_TIMER_EXPIRY (R385): The transmit hold timer expires 2 µs after its last refresh and the chip squelches and releases the interlock. -/
  | holdTimerExpiry
  /-- TIE_LINK_CHANGE (R386): The Tie link comes up or goes down on lane alignment, with event 0x3C4. -/
  | tieLinkChange (sync : BitVec 4) (aligned : BitVec 4) (skews : BitVec 24)
  /-- FORMATION_TIMEOUT (R389): No formation within 1 s or 2 s of CONFIG_APPLIED moves a forming chip to an isolated role. -/
  | formationTimeout
  /-- DIGEST_TIMEOUT (R393): The partner's digest for a closed block is missing after 1 ms and the block is a MISSING mismatch. -/
  | digestTimeout (n : Fin 64) (c : Fin 8)
  /-- REALIGN_TIME (R393): The named realign time arrives and each sequence restarts block numbering. -/
  | realignTime
  /-- SELF_CHECK_DONE (R395): A chip finishes its self-check and the pair acts on both results. -/
  | selfCheckDone (weak : BitVec 40)
  /-- TAKEOVER_COMPLETE (R399): The new active's first frame starts at the MAC and its role becomes ACTIVE_ISOLATED. -/
  | takeoverComplete
  /-- TIE_CTL_SWAP (R403): Writing TIE_CTL.SWAP on the active requests a planned swap, accepted or refused with event 0x3CD. -/
  | tieCtlSwap (w : World)
  /-- AUTO_SWAP (R402): SWAP_DAYS of operating time pass and a planned swap starts automatically. -/
  | autoSwap
  /-- SWAP_INSTANT (R403): At swap time T the active squelches and releases the interlock behind the gate closure. -/
  | swapInstant
  /-- SWAP_COMPLETE (R403): The standby drives after acquiring the hold, gates reopen and the roles are exchanged. -/
  | swapComplete
  /-- TIE_CTL_REALIGN (R393): Writing TIE_CTL.REALIGN realigns every sequence. -/
  | tieCtlRealign (w : World)
  /-- FAIL_OVER_RESTART (R404): A chip that reported its own fault performs a CHIP reset to re-form as standby, or stays squelched on repeat. -/
  | failOverRestart (b : BootIn)
  /-- MONITOR_ALARM (R408): A monitor's condition lasts its filter time beyond an alarm threshold and its response is applied. -/
  | monitorAlarm (ix : Fin 11) (v : BitVec 16) (crossing : Bool)
  /-- MONITOR_WARNING (R407): A monitor value crosses a warning threshold and LOG or ALERT is applied. -/
  | monitorWarning (ix : Fin 11) (v : BitVec 16)
  /-- MONITOR_RETURN (R407): A monitor value returns inside both thresholds with event 0x3D2. -/
  | monitorReturn (ix : Fin 11) (v : BitVec 16)
  /-- RESPONSE_REQUEST (R411): A block requests a response level, which the engine applies as source 12. -/
  | responseRequest
  /-- DOUBLED_DECISION_SECOND (R414): The second computation of a doubled decision completes after its random delay and is compared with the first. -/
  | doubledDecisionSecond (agree : Bool)
  /-- EVIDENCE_PROGRAMMED (R415): An evidence bit finishes programming in OTP and its battery entry is cleared. -/
  | evidenceProgrammed
  /-- BATTERY_ALARM (R418): A battery-domain alarm on cell power zeroizes BBRAM_KEK and writes a battery register entry. -/
  | batteryAlarm (k : Fin 5) (lapse : BitVec 32)
  /-- VBAT_LOSS (R18): VBAT is lost while main power is off and the BATTERY domain resets. -/
  | vbatLoss
  /-- HOURLY_COMMIT (R427): Each operating hour the field book merges increments into the life block and writes a period record. -/
  | hourlyCommit (good : Bool)
  /-- OPERATING_MINUTE (R432): Each operating minute advances operating time and writes pending log repeat counts. -/
  | operatingMinute
  /-- ENVIRONMENT_SAMPLE (R423): Once per second the temperature and supply histograms take an ENV_MEAS sample. -/
  | environmentSample (m : Meas)
  /-- SAMPLE_PAIR_TIMEOUT (R443): A sample record without a partner for 1 µs is written with a zeroed second half. -/
  | samplePairTimeout
  /-- ONE_SHOT_ARM (R441): Writing FBK_SMP_ONE.ARM requests a sample of the next frame on the named port. -/
  | oneShotArm (w : World) (v : Word)
  /-- SAMPLER_RESTART (R443): Writing FBK_SMP_CFG.RESTART empties the sample store and clears SMP_STOPPED. -/
  | samplerRestart (w : World) (v : Word)
  /-- HSEL_WRITE (R424): A write to FBK_HSEL clears the latency histogram and its extreme and sets its selector. -/
  | hselWrite (w : World) (h : Fin 32) (v : Word)
  /-- BANDWIDTH_WINDOW_END (R444): A bandwidth window ends and every port's counts are latched into FBK_BW. -/
  | bandwidthWindowEnd
  /-- WINDOW_US_WRITE (R444): A write to WINDOW_US discards the partial window and starts a new one on every port. -/
  | windowUsWrite (w : World) (v : Word)
  /-- COUNTER_LOW_READ (R437): A read of a counter's low word latches its high word for the reading master. -/
  | counterLowRead (m : Fin 66) (ix : BitVec 13)
  /-- BANDWIDTH_READ (R444): A read of FBK_BW word 0 latches words 1 to 7. -/
  | bandwidthRead (n : Fin 64)
  /-- LANE_SIGNAL_CHANGE (R453): A lane gains or loses signal or CDR lock, moving its port between DOWN and TRAINING or ALIGNING. -/
  | laneSignalChange (ix : Fin 64) (sig : Bool) (cdr : Bool)
  /-- TRAINING_DONE (R453): Every lane of a trained port completes link training and the port enters ALIGNING. -/
  | trainingDone (n : Fin 64)
  /-- TRAINING_TIMEOUT (R454): Training does not complete in 500 ms and is abandoned and retried with event 0x043. -/
  | trainingTimeout (n : Fin 64)
  /-- ALIGNMENT_DONE (R453): Block lock, deskew and FEC sync are reached and the port becomes UP with event 0x040. -/
  | alignmentDone (n : Fin 64)
  /-- ALIGNMENT_TIMEOUT (R453): ALIGNING does not reach UP in 100 ms and the port returns to DOWN and retries. -/
  | alignmentTimeout (n : Fin 64)
  /-- LINK_DOWN (R453): An UP port loses lock, FEC sync or enters high bit-error state and goes DOWN. -/
  | linkDown (n : Fin 64) (cause : Fin 3)
  /-- REMOTE_FAULT_CHANGE (R455): A remote fault is received or clears, changing the port's transmit availability. -/
  | remoteFaultChange (n : Fin 64) (on : Bool)
  /-- LANE_WAKE_DONE (R460): A lane transmitter or receiver finishes waking with event 0x048. -/
  | laneWakeDone (ix : Fin 64) (rx : Bool)
  /-- LANE_SLEEP_WRITE (R460): A write to TX_SLEEP or RX_SLEEP puts a lane to sleep after any frame in progress or starts its wake. -/
  | laneSleepWrite (w : World) (ix : Fin 64) (v : Word)
  /-- TEST_FIELD_WRITE (R462): A write to a loop or PRBS enable takes the port into or out of TEST, or is ignored with event 0x049. -/
  | testFieldWrite (w : World) (ix : Fin 64) (prbs : Bool) (v : Word)
  /-- PRBS_LOCK_CHANGE (R463): A PRBS checker takes lock or loses it with event 0x046. -/
  | prbsLockChange (ix : Fin 64) (lock : Bool)
  /-- INJ (R464): Writing INJ flips one transmitted bit at the next boundary. -/
  | prbsInj (ix : Fin 64)
  /-- PRBS_CLR (R463): Writing CLR zeroes the lane's PRBS counters and QUAL. -/
  | prbsClr (ix : Fin 64)
  /-- QUAL_UPDATE (R465): Every 1.024 ms QUAL is recomputed from the PRBS counters. -/
  | qualUpdate (ix : Fin 64) (err : BitVec 32)
  /-- PORT_RESTART (R453): Writing PRT_PORT.RESTART returns the port to DOWN to re-acquire. -/
  | portRestart (w : World) (n : Fin 64)
  /-- FEC_INTERVAL (R459): At the end of each 1.024 µs interval DEGRADED is set or cleared against DEG_SYM. -/
  | fecInterval (n : Fin 64) (corr : BitVec 16) (uncorr : BitVec 16) (sym : BitVec 16) (bad : BitVec 16)
  /-- PORT_OPEN (R479): A port's opening conditions all hold and it opens with event 0x011. -/
  | portOpen (k : Fin 32)
  /-- POWER_ON_RESET (R474): PORST_N is asserted or VDD_CORE falls below threshold and every domain but BATTERY resets. -/
  | powerOnReset (written : Fin 33) (torn : Bool)
  /-- CHIP_RESET (R474): Writing GLB_RST.CHIP resets the CHIP and PARCEL domains and reboots the device. -/
  | chipReset (w : World) (b : BootIn)
  /-- WATCHDOG_RESET (R474): The secure monitor's 1 s watchdog expires and performs a chip reset. -/
  | watchdogReset (b : BootIn)
  /-- PORST_N_RELEASE (R477): PORST_N is deasserted, TIE_ROLE is sampled and the boot sequence begins. -/
  | porstNRelease (strap : Bool) (refclk : Bool) (b : BootIn)
  /-- SMBUS_READ (R493): An SMBus Read Byte or Read Word returns board telemetry, or a write is NACKed. -/
  | smbusRead (cmd : Byte) (word : Bool) (write : Bool)
  /-- POLICER_WRITE (R176): A write to BLW_POLICE sets the parcel policer's rate, burst or enable and refills its bucket to the new BURST. -/
  | policerWrite (w : World) (p : Fin 64) (line : Bool) (second : Bool) (v : Word)
  /-- TAKEOVER_DECISION_RETRY (R414): While the cause of a takeover persists after a disagreeing doubled decision, the standby decides again every 10 µs. -/
  | takeoverDecisionRetry
  /-- CONTROL_QUEUE_DEQUEUE (R59): Service firmware takes an MKA or PTP frame from the control port's 1,024-frame queue, which frees a place in that queue. -/
  | controlQueueDequeue
  /-- DESCRIPTOR_READ_ERROR (R328): A DMA read of a command descriptor completes with an error and the command ring stops with CMD_ERR and ERR_CODE 2. -/
  | descriptorReadError (f : Fin 64)
  /-- MESSAGE_WRITE_ERROR (R328): A message entry write to host memory fails and the message ring stops with MSG_ERR and ERR_CODE 3, with event 0x030. -/
  | messageWriteError (f : Fin 64)
  /-- AER_UNCORRECTABLE_ERROR (R344): An uncorrectable PCIe error is logged in AER and event 0x032 is raised for the function. -/
  | aerUncorrectableError (f : Fin 64) (status : Word)
  /-- SERDES_REFERENCE_CHANGE (R472): An SRD_REFCLK is found absent, so its lanes cannot wake and event 0x04A is raised, or it returns and those lanes can wake. -/
  | serdesReferenceChange (r : Fin 4) (present : Bool)
  /-- CORE_PLL_LOCK (R472): SYS_REFCLK arrives on a device held in reset for lack of it, the core PLL locks and the boot proceeds. -/
  | corePllLock (b : BootIn)
  /-- STAKE_PULSE_END (R224): WIDTH_NS after a firing, the stake output returns to its inactive level. -/
  | stakePulseEnd (k : Fin 8)
  /-- PPS_OUT_PULSE_END (R219): PPS_WIDTH_MS after each rising edge, PPS_OUT falls. -/
  | ppsOutPulseEnd
  deriving DecidableEq, Repr

end Sys2Proof
end

