-- ==== Sys2Proof/Decode.lean ====
section
/-! DEFINITION. Decode.lean: commands that a word of spec/opcode_table.json spells.  The table gives no row any bits: a command
comes as what happens at a register, a ring, a pin or a lane. -/

namespace Sys2Proof

/-- The command that `w` spells in `nbits` bits: none of the table's rows has bits. -/
def decodeTableWord (_nbits _w : Nat) : Option Instr := none

end Sys2Proof
end

