-- ==== Sys2Proof/Config.lean ====
section
/-! DEFINITION. Config.lean: what the spec leaves to a standard or leaves open, as constants without a body, so that no
proof can rest on a value of theirs.  The cryptographic functions are those of the standards the spec names; the
model needs only that they are functions.  The others are free values: the model applies them to a counter in the
state (`free`) or to the operands they depend on. -/

namespace Sys2Proof.Config

/-! Cryptographic functions of the standards named (log entry 2). -/

/-- SHA-384 (R264, R266, R274). -/
opaque sha384 : List Byte → List Byte
/-- KMAC256 of a key, data, output length in bits and customisation (R280, R281). -/
opaque kmac256 : List Byte → List Byte → Nat → List Byte → List Byte
/-- AES-CMAC under a key (R260, R430). -/
opaque aesCmac : List Byte → List Byte → Nat
/-- AES-GCM: the ICV of (key, IV, additional data, ciphertext). -/
opaque gcmTag : List Byte → List Byte → List Byte → List Byte → List Byte
/-- AES-GCM counter-mode keystream applied to a text, under (key, IV). -/
opaque gcmCrypt : List Byte → List Byte → List Byte → List Byte
/-- AES key wrap of (ALG, KEK, plaintext) and its inverse, which fails on a wrong check value (R237). -/
opaque keyWrap : Nat → List Byte → List Byte → List Byte
opaque keyUnwrap : Nat → List Byte → List Byte → Option (List Byte)
/-- The KDF of R232 on (parent key, label, context): 48 bytes, of which the first are used. -/
opaque kdf : List Byte → List Byte → List Byte → List Byte
/-- ICK and KEK of IEEE 802.1X-2020 from (CAK, CKN), and the salt it derives from member identifiers and key number
(R242). -/
opaque mkaIck : List Byte → List Byte → List Byte
opaque mkaKek : List Byte → List Byte → List Byte
opaque mkaSalt : List Byte → List Byte
/-- The two import public keys of a seed, 97 and 1,568 bytes (R239). -/
opaque importPub : List Byte → List Byte
/-- ECDSA P-384 and ML-DSA-87 verification of (public key, message digest, signature) (R264). -/
opaque ecdsaVerify : List Byte → List Byte → List Byte → Bool
opaque mldsaVerify : List Byte → List Byte → List Byte → Bool
/-- Signing with a private key named by a seed. -/
opaque ecdsaSign : List Byte → List Byte → List Byte
opaque mldsaSign : List Byte → List Byte → List Byte
/-- Public keys of a private seed: EC_PUB followed by MLDSA_PUB. -/
opaque hybridPub : List Byte → List Byte
/-- The ephemeral public keys of a session exchange drawn from a random value: the P-384 key and the ML-KEM-1024
encapsulation key (R280). -/
opaque ephemeralPub : Nat → List Byte × List Byte
/-- Z_ecdh and Z_mlkem of (ephemeral secret, peer P-384 key, ciphertext) (R280). -/
opaque kemSecret : Nat → List Byte → List Byte → List Byte
/-- Hybrid decapsulation of an import blob under a parcel's import key: the shared secret (R239). -/
opaque importSecret : List Byte → List Byte → List Byte
/-- Encapsulation of a random value to a parcel's import public keys: EPK and KEMCT as the blob or image carries them, and the
shared secret (R239, R318). -/
opaque kemEncap : Nat → List Byte → List Byte × List Byte
/-- CRC-32C of bytes (R265). -/
opaque crc32c : List Byte → Nat

/-! Free values. -/

/-- The n-th random value of the DRBG or of an LFSR (R257). -/
opaque random : Nat → Nat
/-- The n-th value that the spec leaves open. -/
opaque openValue : Nat → Nat

/-! What a device is made with. -/

/-- Silicon serial number (R270). -/
opaque serial : BitVec 64
/-- The hardware-unique key when its reconstruction succeeds (R231). -/
opaque huk : List Byte
/-- Repair fuse entries programmed at manufacture (R375). -/
opaque factoryFuses : Nat
/-- Spares of a macro used at manufacture (R375). -/
opaque factorySpares : Nat → Nat
/-- Hashes of vendor firmware key 0 and the vendor manufacturing key in ROM (R263). -/
opaque romFwKeyHash : List Byte
opaque romMfgKeyHash : List Byte
/-- Hashes of vendor firmware keys 1 to 3 in OTP (R263). -/
opaque otpFwKeyHash : Nat → List Byte
/-- The device certificates and CA chain in flash at 0x0001_0000 (R294). -/
opaque certificates : List Byte

end Sys2Proof.Config
end

