-- ==== Sys2Proof/Machine/Counters.lean ====
section
/-! DEFINITION. Machine/Counters.lean: the index of every device counter, in the order and with the scopes
of R435 and R436 (spec/18_field_book_and_counters.md).  `C.NAME i` is the index of member `i` of the scope. -/

namespace Sys2Proof.Machine.C

def GLB_BADACC_CNT : Nat := 0x0
def GLB_PARCEL_DROP (i : Nat) : Nat := 0x1 + i
def GLB_CMD_REFUSED (i : Nat) : Nat := 0x41 + i
def PRT_RX_FRAMES (i : Nat) : Nat := 0x100 + i
def PRT_RX_OCTETS (i : Nat) : Nat := 0x140 + i
def PRT_TX_FRAMES (i : Nat) : Nat := 0x180 + i
def PRT_TX_OCTETS (i : Nat) : Nat := 0x1C0 + i
def PRT_RX_CLOSED (i : Nat) : Nat := 0x200 + i
def PRT_RX_FCS_ERR (i : Nat) : Nat := 0x240 + i
def PRT_RX_LEN_ERR (i : Nat) : Nat := 0x280 + i
def PRT_TX_ABORT (i : Nat) : Nat := 0x2C0 + i
def PRT_TX_PREEMPT (i : Nat) : Nat := 0x300 + i
def PRT_RX_FRAG (i : Nat) : Nat := 0x340 + i
def PRT_TX_FRAG (i : Nat) : Nat := 0x380 + i
def PRT_MM_VERIFY_FAIL (i : Nat) : Nat := 0x3C0 + i
def PRT_FEC_CORR (i : Nat) : Nat := 0x400 + i
def PRT_FEC_UNCORR (i : Nat) : Nat := 0x440 + i
def PRT_FEC_SYMBOLS (i : Nat) : Nat := 0x480 + i
def PRT_LINK_DOWN (i : Nat) : Nat := 0x4C0 + i
def PRT_BAD_BLOCK (i : Nat) : Nat := 0x500 + i
def TRV_POLICY_DROP (port : Nat) : Nat := 0x900 + port
/-- The parcel members follow the 64 port members (R436). -/
def TRV_POLICY_DROP_P (parcel : Nat) : Nat := 0x940 + parcel
def TRV_BYPASS_CAP (i : Nat) : Nat := 0x980 + i
def TRV_FLOOD (i : Nat) : Nat := 0xA80 + i
def TRV_CTL_FRAMES : Nat := 0xAC0
/-- The listing of R436 gives TRV one member more than its range 0x0900 to 0x0AFF holds (R435): port 63 of this
counter has no index of its own and is kept beside the 8,192 indices, at 0x2000 (log entry 10). -/
def TRV_CTL_ORIG (port : Nat) : Nat := if port = 63 then 0x2000 else 0xAC1 + port
def PLT_UNKNOWN_DROP (i : Nat) : Nat := 0xB00 + i
def PLT_LEARN_DROP (i : Nat) : Nat := 0xB40 + i
def PLT_MOVE_CONFLICT (i : Nat) : Nat := 0xB80 + i
def PLT_PARITY_ERR : Nat := 0xBC0
def PLT_LEARN_FULL (i : Nat) : Nat := 0xBC1 + i
def PLT_LEARNED (i : Nat) : Nat := 0xC01 + i
def PLT_MOVED (i : Nat) : Nat := 0xC41 + i
def PLT_AGED (i : Nat) : Nat := 0xC81 + i
def PLT_LEARN_LIMIT (i : Nat) : Nat := 0xCC1 + i
def PLT_LEARN_SKIP : Nat := 0xD01
def PLT_RELOC : Nat := 0xD02
def SEC_RX_BADTAG (i : Nat) : Nat := 0xE00 + i
def SEC_RX_NOSA (i : Nat) : Nat := 0xE40 + i
def SEC_CTX_MISS_DROP : Nat := 0xE80
def REL_SPEC_FRAMES (i : Nat) : Nat := 0xF00 + i
def REL_STOMP (i : Nat) : Nat := 0xF20 + i
def REL_STOMP_BYTES (i : Nat) : Nat := 0xF40 + i
def REL_DEMOTE_CMD (i : Nat) : Nat := 0xF60 + i
def REL_DEMOTE_QUAR (i : Nat) : Nat := 0xF80 + i
def REL_DEMOTE_PORT (i : Nat) : Nat := 0xFA0 + i
def REL_DEMOTE_STORED (i : Nat) : Nat := 0xFC0 + i
def REL_QUAR_EXTEND (i : Nat) : Nat := 0xFE0 + i
def REL_VERDICT_LATE : Nat := 0x1000
def ANV_HEAT_DROP (i : Nat) : Nat := 0x1100 + i
def ANV_FAULT_DROP (i : Nat) : Nat := 0x1140 + i
def ANV_SHADOW_SAVE (i : Nat) : Nat := 0x1168 + i
def ANV_PLACE_WAIT (i : Nat) : Nat := 0x1190 + i
def ANV_XWAIT (i : Nat) : Nat := 0x11D0 + i
def ANV_SLOTS (i : Nat) : Nat := 0x1210 + i
def ANV_KAT_RUN (i : Nat) : Nat := 0x1238 + i
def BLW_POLICE_DROP (i : Nat) : Nat := 0x1300 + i
def GAT_OVERSIZE (i : Nat) : Nat := 0x1340 + i
def GAT_REFUSED (i : Nat) : Nat := 0x1540 + i
def GAT_BREACH (i : Nat) : Nat := 0x1740 + i
def GAT_ADMITTED (i : Nat) : Nat := 0x1940 + i
def DAT_STEPS : Nat := 0x1B40
def DAT_TOD_ERR : Nat := 0x1B41
def MER_RANGE_ERR : Nat := 0x1B42
def MER_SPURIOUS : Nat := 0x1B43
def DAT_BENCH_OVF (i : Nat) : Nat := 0x1B44 + i
def DAT_STAKE_FIRED (i : Nat) : Nat := 0x1B4C + i
def DAT_STAKE_MISSED (i : Nat) : Nat := 0x1B54 + i
def DAT_STAKE_SUPP (i : Nat) : Nat := 0x1B5C + i
def HRT_UNWRAP_FAIL (i : Nat) : Nat := 0x1B80 + i
def HRT_REPLAY (i : Nat) : Nat := 0x1BC0 + i
def HRT_HANDOFF_EXP : Nat := 0x1C00
def HRT_TORN (i : Nat) : Nat := 0x1C01 + i
def HRT_SLOT_RETIRED (i : Nat) : Nat := 0x1C06 + i
def HRT_COMMITS (i : Nat) : Nat := 0x1C0B + i
def HRT_TRNG_FAIL : Nat := 0x1C10
def TMP_MAC_FAIL : Nat := 0x1C80
def TMP_PART_REFUSED (i : Nat) : Nat := 0x1C81 + i
def TMP_META_FAIL : Nat := 0x1C89
def TMP_UE (i : Nat) : Nat := 0x1C8A + i
def TMP_CE (i : Nat) : Nat := 0x1C8C + i
def TMP_REENC : Nat := 0x1C8E
def TMP_ACCESS_DENY (i : Nat) : Nat := 0x1C8F + i
def TMP_RO_WRITE : Nat := 0x1C97
def TMP_POISON_READ (i : Nat) : Nat := 0x1C98 + i
def ECC_CE (i : Nat) : Nat := 0x1CC0 + i
def ECC_UE (i : Nat) : Nat := 0x1CD0 + i
def ECC_POISON_STOMP (i : Nat) : Nat := 0x1CE0 + i
def ECC_PART_POISON (i : Nat) : Nat := 0x1D20 + i
def ECC_HARD (i : Nat) : Nat := 0x1D30 + i
def ECC_REPAIR_SKIP : Nat := 0x1D40
def ECC_CELL_WITHDRAWN : Nat := 0x1D41
def TIE_BLOCKS : Nat := 0x1D80
def TIE_MISMATCH : Nat := 0x1D81
def TIE_MISMATCH_EXCUSED : Nat := 0x1D82
def TIE_MSG_ERR : Nat := 0x1D83
def TIE_TAKEOVERS : Nat := 0x1D84
def TIE_SWAPS : Nat := 0x1D85
def TIE_SELFCHK_RUN : Nat := 0x1D86
def ENV_DD_MISMATCH : Nat := 0x1D90
def FBK_SMP_RECORDS : Nat := 0x1DA0
def FBK_SMP_LOST : Nat := 0x1DA1

end Sys2Proof.Machine.C
end

