-- ==== Sys2Proof/Machine/Tab.lean ====
section
/-! DEFINITION. Machine/Tab.lean: sparse tables.  A table of the spec (registers, rules, contexts, queues, DDR5 lines, …)
is a list of (index, content) pairs in one canonical form: indices strictly rising and no entry equal to what an
unlisted index reads as, so that equal tables are equal lists. -/

namespace Sys2Proof.Machine

/-- A sparse table: an unlisted index reads as the table's default. -/
abbrev Tab (α : Type) := List (Nat × α)

/-- Entry `n`, or `d` where nothing is listed. -/
def tabGet {α : Type} (d : α) : Tab α → Nat → α
  | [], _ => d
  | (k, v) :: t, n => if n = k then v else tabGet d t n

/-- Entry `n` taken out. -/
def tabDel {α : Type} : Tab α → Nat → Tab α
  | [], _ => []
  | (k, v) :: t, n => if n = k then tabDel t n else (k, v) :: tabDel t n

/-- Entry `n` put in its place, or replaced. -/
def tabPut {α : Type} : Tab α → Nat → α → Tab α
  | [], n, v => [(n, v)]
  | (k, w) :: t, n, v =>
    if n < k then (n, v) :: (k, w) :: t
    else if n = k then (k, v) :: t
    else (k, w) :: tabPut t n v

/-- Entry `n` set to `v`; setting the default `d` takes the entry out. -/
def tabSet {α : Type} [DecidableEq α] (d : α) (t : Tab α) (n : Nat) (v : α) : Tab α :=
  if v = d then tabDel t n else tabPut t n v

/-- Entry `n` changed by `f`. -/
def tabMod {α : Type} [DecidableEq α] (d : α) (t : Tab α) (n : Nat) (f : α → α) : Tab α :=
  tabSet d t n (f (tabGet d t n))

/-- Every index listed is at least `lo`, indices rise strictly, and no entry equals its default `d`. -/
def tabWfFrom {α : Type} [DecidableEq α] (d : Nat → α) : Nat → Tab α → Bool
  | _, [] => true
  | lo, (k, v) :: t => decide (lo ≤ k) && decide (v ≠ d k) && tabWfFrom d (k + 1) t

/-- The canonical form of a table. -/
def tabWf {α : Type} [DecidableEq α] (d : Nat → α) (t : Tab α) : Bool := tabWfFrom d 0 t

/-- The listed entries that `f` keeps, each changed by it, kept canonical: an entry that becomes the default of
its index goes, and with it whatever a list out of canonical form holds of that index later on. -/
def tabMapKeep {α : Type} [DecidableEq α] (d : Nat → α) (f : Nat → α → α) : Tab α → Tab α
  | [] => []
  | (k, v) :: t => if f k v = d k then tabDel (tabMapKeep d f t) k else (k, f k v) :: tabMapKeep d f t

/-- The lowest listed index whose entry meets `p`. -/
def tabFind {α : Type} (p : Nat → α → Bool) : Tab α → Option (Nat × α)
  | [] => none
  | (k, v) :: t => if p k v then some (k, v) else tabFind p t

/-- How many listed entries meet `p`. -/
def tabCount {α : Type} (p : Nat → α → Bool) : Tab α → Nat
  | [] => 0
  | (k, v) :: t => (if p k v then 1 else 0) + tabCount p t

end Sys2Proof.Machine
end

