-- ==== Sys2Proof/Machine/Reg.lean ====
section
/-! DEFINITION. Machine/Reg.lean: how registers are described: access types (R14, R15), reset domains (R18),
fields, and the rule by which a write of a whole word reaches each field. -/

namespace Sys2Proof.Machine

/-- Access types of R14; the suffix S is `FieldD.sec` (R15). -/
inductive Acc where
  | ro | rw | rw1c | w1s | wo
  deriving DecidableEq, Repr

/-- Reset domains of R18. -/
inductive Dom where
  | power | chip | parcel | battery
  deriving DecidableEq, Repr

/-- One field of a register table: bits [hi:lo], access, S suffix, reset value and domain. -/
structure FieldD where
  hi : Nat
  lo : Nat
  acc : Acc
  sec : Bool
  rst : Nat
  dom : Dom
  deriving DecidableEq, Repr

/-- One register table: the key of its first copy, the stride and number of copies, and its fields. -/
structure RegD where
  base : Nat
  stride : Nat
  count : Nat
  fields : List FieldD
  deriving DecidableEq, Repr

/-- A field as a reader names it: key of the word, lowest bit, width. -/
structure Fld where
  addr : Nat
  lo : Nat
  width : Nat
  deriving DecidableEq, Repr

/-- Whether key `a` is a copy of the register. -/
def RegD.covers (d : RegD) (a : Nat) : Bool :=
  decide (d.base ≤ a) && decide ((a - d.base) % d.stride = 0) && decide ((a - d.base) / d.stride < d.count)

/-- Which copy key `a` is. -/
def RegD.index (d : RegD) (a : Nat) : Nat := (a - d.base) / d.stride

/-- Bits [lo + width - 1 : lo] of a word, as a number. -/
def bitsOf (w : Word) (lo width : Nat) : Nat := (w.toNat / 2 ^ lo) % 2 ^ width

/-- The word with bits [lo + width - 1 : lo] replaced by `v` (taken modulo their number). -/
def putBits (w : Word) (lo width v : Nat) : Word :=
  BitVec.ofNat 32 (w.toNat - bitsOf w lo width * 2 ^ lo + (v % 2 ^ width) * 2 ^ lo)

def FieldD.width (f : FieldD) : Nat := f.hi - f.lo + 1

/-- A field's new value when `v` is written over `old` (R14); `secure` is the world of the writer (R15). -/
def FieldD.written (f : FieldD) (secure : Bool) (old v : Nat) : Nat :=
  if f.sec && !secure then old else
  match f.acc with
  | .ro => old
  | .rw => v
  | .rw1c => Nat.land old (2 ^ f.width - 1 - v % 2 ^ f.width)
  | .w1s => Nat.lor old v
  | .wo => v

/-- What the field shows to a reader of the given world (R14, R15). -/
def FieldD.shown (f : FieldD) (secure : Bool) (v : Nat) : Nat :=
  if f.sec && !secure then 0 else
  match f.acc with
  | .wo => 0
  | _ => v

/-- The word a table's reset values make. -/
def RegD.resetWord (d : RegD) : Word :=
  d.fields.foldl (fun w f => putBits w f.lo f.width f.rst) 0

/-- A whole word written: every field by its own rule; reserved bits stay as they are (R16). -/
def RegD.writeWord (d : RegD) (secure : Bool) (old v : Word) : Word :=
  d.fields.foldl (fun w f => putBits w f.lo f.width (f.written secure (bitsOf old f.lo f.width) (bitsOf v f.lo f.width))) old

/-- The word as a reader of the given world sees it; bits of no field read zero (R16). -/
def RegD.readWord (d : RegD) (secure : Bool) (w : Word) : Word :=
  d.fields.foldl (fun r f => putBits r f.lo f.width (f.shown secure (bitsOf w f.lo f.width))) 0

/-- The word after a reset that restores the domains `hit`: fields of those domains take their reset values. -/
def RegD.resetBy (d : RegD) (hit : Dom → Bool) (w : Word) : Word :=
  d.fields.foldl (fun r f => if hit f.dom then putBits r f.lo f.width f.rst else r) w

/-- Whether the register has a field that only the secure world reaches (R15). -/
def RegD.hasSecure (d : RegD) : Bool := d.fields.any (·.sec)

end Sys2Proof.Machine
end

