-- ==== Sys2Proof/Machine/RegMap.lean ====
section
/-! DEFINITION. Machine/RegMap.lean: the register map of the block, read off the register tables of the spec
(each `regs<BLOCK>` follows the tables of the chapter named above it): for every register its BAR0 offset
(R12), how many copies stand at which stride, and for every field its bits, access type (R14, R15), reset
value and reset domain (R18).  Reserved bits (R16) belong to no field.  The ring registers of BAR2 (R347)
have keys of the model's own above BAR0: function `f`, offset `o` is key `0x10000000 + 0x1000 * f + o`, and
EVT_MASK word `w` of function `f` is key `0x10100000 + 0x80 * f + 4 * w`. -/

namespace Sys2Proof.Machine

/-- GLB registers (spec/11_signed_control.md, spec/12_parcels.md, spec/20_power_reset_bringup.md). -/
def regsGLB_0 : List RegD := [
  /- GLB_BOOT -/ ⟨0x200, 4, 1, [⟨31, 28, .ro, false, 0, .chip⟩, ⟨27, 27, .ro, false, 0, .chip⟩, ⟨26, 26, .ro, false, 0, .chip⟩, ⟨25, 25, .ro, false, 0, .chip⟩, ⟨24, 24, .ro, false, 0, .chip⟩, ⟨23, 22, .ro, false, 0, .chip⟩, ⟨15, 8, .ro, false, 0, .chip⟩, ⟨7, 0, .ro, false, 0, .chip⟩]⟩,
  /- GLB_FW_MEASURE -/ ⟨0x210, 4, 12, [⟨31, 0, .ro, false, 0, .chip⟩]⟩,
  /- GLB_CFG_MEASURE -/ ⟨0x240, 4, 12, [⟨31, 0, .ro, false, 0, .chip⟩]⟩,
  /- GLB_COMMIT -/ ⟨0x270, 4, 1, [⟨31, 29, .ro, false, 0, .chip⟩, ⟨28, 21, .ro, false, 0, .chip⟩, ⟨15, 0, .rw, true, 50, .chip⟩]⟩,
  /- GLB_COMMIT_AT_LO -/ ⟨0x274, 4, 1, [⟨31, 0, .ro, false, 0, .chip⟩]⟩,
  /- GLB_COMMIT_AT_HI -/ ⟨0x278, 4, 1, [⟨31, 0, .ro, false, 0, .chip⟩]⟩,
  /- GLB_IMAGE_SEQ -/ ⟨0x27C, 4, 1, [⟨31, 0, .ro, false, 0, .chip⟩]⟩,
  /- GLB_SESSION -/ ⟨0x280, 4, 1, [⟨31, 16, .rw, true, 600, .chip⟩, ⟨6, 0, .ro, false, 0, .chip⟩]⟩,
  /- GLB_FW -/ ⟨0x284, 4, 1, [⟨31, 16, .rw, true, 600, .chip⟩]⟩,
  /- GLB_RECOVERY_CTL -/ ⟨0x300, 4, 1, [⟨31, 31, .w1s, false, 0, .chip⟩, ⟨30, 30, .w1s, false, 0, .chip⟩, ⟨29, 29, .w1s, false, 0, .chip⟩, ⟨28, 28, .ro, false, 0, .chip⟩, ⟨27, 25, .ro, false, 0, .chip⟩]⟩,
  /- GLB_RECOVERY_OFS -/ ⟨0x304, 4, 1, [⟨31, 0, .rw, false, 0, .chip⟩]⟩,
  /- GLB_RECOVERY_LEN -/ ⟨0x308, 4, 1, [⟨12, 0, .rw, false, 0, .chip⟩]⟩,
  /- GLB_RECOVERY_DATA -/ ⟨0x4000, 4, 1024, [⟨31, 0, .rw, false, 0, .chip⟩]⟩,
  /- GLB_PARCEL_W0 -/ ⟨0x1000, 16, 1, [⟨31, 29, .ro, false, 1, .chip⟩, ⟨28, 28, .ro, false, 0, .chip⟩, ⟨27, 27, .ro, false, 0, .chip⟩, ⟨26, 26, .ro, false, 0, .chip⟩, ⟨13, 0, .ro, false, 0, .chip⟩]⟩]

/-- GLB registers, continued. -/
def regsGLB_1 : List RegD := [
  /- GLB_PARCEL_W0 -/ ⟨0x1010, 16, 63, [⟨31, 29, .ro, false, 0, .chip⟩, ⟨28, 28, .ro, false, 0, .chip⟩, ⟨27, 27, .ro, false, 0, .chip⟩, ⟨26, 26, .ro, false, 0, .chip⟩, ⟨13, 0, .ro, false, 0, .chip⟩]⟩,
  /- GLB_PARCEL_W1 -/ ⟨0x1004, 16, 64, [⟨31, 0, .rw, true, 0, .chip⟩]⟩,
  /- GLB_PARCEL_W2 -/ ⟨0x1008, 16, 64, [⟨31, 0, .ro, true, 0, .chip⟩]⟩,
  /- GLB_PARCEL_W3 -/ ⟨0x100C, 16, 64, [⟨31, 0, .ro, true, 0, .chip⟩]⟩,
  /- GLB_PARCEL_LIM_W0 -/ ⟨0x1400, 8, 1, [⟨16, 0, .rw, true, 65536, .chip⟩]⟩,
  /- GLB_PARCEL_LIM_W0 -/ ⟨0x1408, 8, 63, [⟨16, 0, .rw, true, 0, .chip⟩]⟩,
  /- GLB_PARCEL_LIM_W1 -/ ⟨0x1404, 8, 1, [⟨28, 16, .rw, true, 4096, .chip⟩, ⟨12, 0, .rw, true, 4096, .chip⟩]⟩,
  /- GLB_PARCEL_LIM_W1 -/ ⟨0x140C, 8, 63, [⟨28, 16, .rw, true, 0, .chip⟩, ⟨12, 0, .rw, true, 0, .chip⟩]⟩,
  /- GLB_PARCEL_USE_W0 -/ ⟨0x1800, 8, 64, [⟨16, 0, .ro, false, 0, .chip⟩]⟩,
  /- GLB_PARCEL_USE_W1 -/ ⟨0x1804, 8, 64, [⟨28, 16, .ro, false, 0, .chip⟩, ⟨12, 0, .ro, false, 0, .chip⟩]⟩,
  /- GLB_PARCEL_CTL -/ ⟨0x1C00, 4, 1, [⟨21, 16, .rw, true, 20, .chip⟩, ⟨15, 0, .rw, true, 100, .chip⟩]⟩,
  /- GLB_ID -/ ⟨0x0, 4, 1, [⟨31, 0, .ro, false, 1514624100, .power⟩]⟩,
  /- GLB_REV -/ ⟨0x4, 4, 1, [⟨7, 0, .ro, false, 16, .power⟩]⟩,
  /- GLB_RST -/ ⟨0x10, 4, 1, [⟨31, 31, .w1s, true, 0, .chip⟩]⟩]

/-- GLB registers, continued. -/
def regsGLB_2 : List RegD := [
  /- GLB_RST_CAUSE -/ ⟨0x14, 4, 1, [⟨4, 4, .rw1c, false, 0, .power⟩, ⟨3, 3, .rw1c, false, 0, .power⟩, ⟨2, 2, .rw1c, false, 0, .power⟩, ⟨1, 1, .rw1c, false, 0, .power⟩, ⟨0, 0, .rw1c, false, 1, .power⟩]⟩,
  /- GLB_LIFE_W0 -/ ⟨0x18, 4, 1, [⟨31, 0, .ro, false, 0, .chip⟩]⟩,
  /- GLB_LIFE_W1 -/ ⟨0x1C, 4, 1, [⟨31, 0, .ro, false, 0, .chip⟩]⟩,
  /- GLB_OPEN_LO -/ ⟨0x20, 4, 1, [⟨31, 0, .ro, false, 0, .chip⟩]⟩,
  /- GLB_OPEN_HI -/ ⟨0x24, 4, 1, [⟨31, 0, .ro, false, 0, .chip⟩]⟩,
  /- GLB_OPEN_CFG -/ ⟨0x28, 4, 1, [⟨31, 0, .rw, true, 0, .chip⟩]⟩]

/-- All GLB registers. -/
def regsGLB : List RegD := regsGLB_0 ++ regsGLB_1 ++ regsGLB_2

/-- SRD registers (spec/19_lanes_and_ports.md). -/
def regsSRD : List RegD := [
  /- SRD_SWAP_W0 -/ ⟨0x100100, 8, 8, [⟨23, 0, .rw, true, 16434824, .chip⟩]⟩,
  /- SRD_SWAP_W1 -/ ⟨0x100104, 8, 8, [⟨23, 0, .rw, true, 16434824, .chip⟩]⟩,
  /- SRD_LANE_W0 -/ ⟨0x101000, 64, 64, [⟨31, 30, .rw, true, 3, .chip⟩, ⟨29, 29, .rw, true, 0, .chip⟩, ⟨28, 28, .rw, true, 0, .chip⟩, ⟨27, 27, .rw, true, 0, .chip⟩]⟩,
  /- SRD_LANE_W1 -/ ⟨0x101004, 64, 64, [⟨31, 31, .rw, true, 1, .chip⟩, ⟨30, 30, .rw, true, 1, .chip⟩, ⟨29, 28, .rw, false, 0, .chip⟩, ⟨27, 27, .rw, false, 0, .chip⟩]⟩,
  /- SRD_LANE_W2 -/ ⟨0x101008, 64, 64, [⟨31, 31, .ro, false, 0, .chip⟩, ⟨30, 30, .ro, false, 0, .chip⟩, ⟨29, 29, .ro, false, 0, .chip⟩, ⟨28, 28, .ro, false, 0, .chip⟩, ⟨27, 27, .ro, false, 0, .chip⟩, ⟨26, 26, .ro, false, 0, .chip⟩]⟩,
  /- SRD_LANE_W3 -/ ⟨0x10100C, 64, 64, [⟨31, 31, .rw, false, 0, .chip⟩, ⟨30, 30, .rw, false, 0, .chip⟩, ⟨29, 27, .rw, false, 0, .chip⟩, ⟨26, 26, .w1s, false, 0, .chip⟩, ⟨25, 21, .rw, false, 0, .chip⟩, ⟨20, 20, .w1s, false, 0, .chip⟩]⟩,
  /- SRD_LANE_W4 -/ ⟨0x101010, 64, 64, [⟨31, 31, .ro, false, 0, .chip⟩, ⟨30, 30, .rw1c, false, 0, .chip⟩, ⟨7, 0, .ro, false, 0, .chip⟩]⟩,
  /- SRD_LANE_W5 -/ ⟨0x101014, 64, 64, [⟨31, 0, .ro, false, 0, .chip⟩]⟩,
  /- SRD_LANE_W6 -/ ⟨0x101018, 64, 64, [⟨31, 0, .ro, false, 0, .chip⟩]⟩,
  /- SRD_LANE_W7 -/ ⟨0x10101C, 64, 64, [⟨31, 0, .ro, false, 0, .chip⟩]⟩,
  /- SRD_LANE_W8 -/ ⟨0x101020, 64, 64, [⟨29, 24, .rw, true, 0, .chip⟩, ⟨23, 18, .rw, true, 0, .chip⟩, ⟨17, 12, .rw, true, 0, .chip⟩, ⟨11, 6, .rw, true, 0, .chip⟩]⟩,
  /- SRD_LANE_W9 -/ ⟨0x101024, 64, 64, []⟩]

/-- PRT registers (spec/19_lanes_and_ports.md). -/
def regsPRT : List RegD := [
  /- PRT_PORT_W0 -/ ⟨0x200100, 16, 64, [⟨31, 31, .rw, true, 0, .chip⟩, ⟨30, 28, .rw, true, 0, .chip⟩, ⟨27, 26, .rw, true, 0, .chip⟩, ⟨25, 24, .rw, true, 0, .chip⟩, ⟨23, 23, .rw, true, 0, .chip⟩, ⟨13, 0, .rw, true, 9248, .chip⟩]⟩,
  /- PRT_PORT_W1 -/ ⟨0x200104, 16, 64, [⟨31, 31, .w1s, true, 0, .chip⟩]⟩,
  /- PRT_PORT_W2 -/ ⟨0x200108, 16, 64, [⟨31, 29, .ro, false, 0, .chip⟩, ⟨28, 28, .ro, false, 0, .chip⟩, ⟨27, 27, .ro, false, 0, .chip⟩, ⟨26, 26, .ro, false, 0, .chip⟩, ⟨25, 25, .ro, false, 0, .chip⟩, ⟨24, 24, .ro, false, 0, .chip⟩, ⟨23, 23, .ro, false, 0, .chip⟩]⟩,
  /- PRT_PORT_W3 -/ ⟨0x20010C, 16, 64, [⟨15, 0, .rw, true, 0, .chip⟩]⟩,
  /- PRT_MAP -/ ⟨0x200800, 4, 32, [⟨31, 31, .rw, true, 0, .chip⟩, ⟨5, 0, .rw, true, 0, .chip⟩]⟩]

/-- TRV registers (spec/02_traverse_classification.md). -/
def regsTRV_0 : List RegD := [
  /- TRV_STATUS -/ ⟨0x300000, 4, 1, [⟨14, 0, .ro, false, 0, .chip⟩]⟩,
  /- TRV_GEN -/ ⟨0x300004, 4, 1, [⟨1, 1, .w1s, true, 0, .chip⟩, ⟨0, 0, .ro, true, 0, .chip⟩]⟩,
  /- TRV_TPID -/ ⟨0x300008, 4, 1, [⟨15, 0, .rw, true, 37120, .chip⟩]⟩,
  /- TRV_POISON -/ ⟨0x30000C, 4, 1, [⟨31, 31, .rw1c, true, 0, .chip⟩, ⟨13, 0, .ro, true, 0, .chip⟩]⟩,
  /- TRV_RULE_CMD -/ ⟨0x300010, 4, 1, [⟨31, 31, .ro, true, 0, .chip⟩, ⟨18, 16, .wo, true, 0, .chip⟩, ⟨13, 0, .rw, true, 0, .chip⟩]⟩,
  /- TRV_RULE_STAT -/ ⟨0x300014, 4, 1, [⟨2, 2, .ro, true, 0, .chip⟩, ⟨1, 1, .rw1c, true, 0, .chip⟩, ⟨0, 0, .rw1c, true, 0, .chip⟩]⟩,
  /- TRV_RULE_DATA -/ ⟨0x300040, 4, 19, [⟨31, 0, .rw, true, 0, .chip⟩]⟩,
  /- TRV_RULE_DATA -/ ⟨0x30008C, 4, 1, [⟨31, 0, .ro, true, 0, .chip⟩]⟩,
  /- TRV_RANGE -/ ⟨0x300100, 4, 64, [⟨30, 16, .rw, true, 0, .chip⟩, ⟨13, 0, .rw, true, 0, .chip⟩]⟩,
  /- TRV_PARCEL_CFG -/ ⟨0x300200, 4, 64, [⟨3, 3, .rw, true, 0, .chip⟩, ⟨2, 2, .rw, true, 0, .chip⟩, ⟨1, 1, .rw, true, 0, .chip⟩, ⟨0, 0, .rw, true, 0, .chip⟩]⟩,
  /- TRV_PARCEL_SC -/ ⟨0x300300, 4, 64, [⟨31, 16, .rw, true, 0, .chip⟩, ⟨15, 0, .rw, true, 0, .chip⟩]⟩,
  /- TRV_PORT_CFG -/ ⟨0x300400, 4, 64, [⟨31, 31, .rw, true, 0, .chip⟩, ⟨30, 30, .rw, true, 0, .chip⟩, ⟨5, 0, .rw, true, 0, .chip⟩]⟩,
  /- TRV_PCP_MAP -/ ⟨0x300500, 4, 64, [⟨23, 0, .rw, true, 16434824, .chip⟩]⟩,
  /- TRV_BYP_CAP_W0 -/ ⟨0x300600, 8, 256, [⟨19, 0, .rw, true, 0, .chip⟩]⟩]

/-- TRV registers, continued. -/
def regsTRV_1 : List RegD := [
  /- TRV_BYP_CAP_W1 -/ ⟨0x300604, 8, 256, [⟨11, 0, .rw, true, 0, .chip⟩]⟩,
  /- TRV_VMAP -/ ⟨0x301000, 4, 4096, [⟨6, 6, .rw, true, 0, .chip⟩, ⟨5, 0, .rw, true, 0, .chip⟩]⟩]

/-- All TRV registers. -/
def regsTRV : List RegD := regsTRV_0 ++ regsTRV_1

/-- PLT registers (spec/03_plat_station_table.md). -/
def regsPLT_0 : List RegD := [
  /- PLT_OCC -/ ⟨0x400000, 4, 1, [⟨18, 0, .ro, false, 0, .chip⟩]⟩,
  /- PLT_STATUS -/ ⟨0x400004, 4, 1, [⟨9, 3, .ro, false, 0, .chip⟩, ⟨2, 2, .ro, false, 0, .chip⟩, ⟨1, 1, .ro, false, 0, .chip⟩, ⟨0, 0, .ro, false, 0, .chip⟩]⟩,
  /- PLT_SEED_NEXT0 -/ ⟨0x400008, 4, 1, [⟨31, 0, .wo, true, 0, .chip⟩]⟩,
  /- PLT_SEED_NEXT1 -/ ⟨0x40000C, 4, 1, [⟨31, 0, .wo, true, 0, .chip⟩]⟩,
  /- PLT_REBUILD -/ ⟨0x400010, 4, 1, [⟨0, 0, .w1s, true, 0, .chip⟩]⟩,
  /- PLT_AGE -/ ⟨0x400014, 4, 1, [⟨31, 16, .rw, true, 300, .chip⟩, ⟨0, 0, .rw, true, 1, .chip⟩]⟩,
  /- PLT_CMD -/ ⟨0x400020, 4, 1, [⟨31, 31, .ro, false, 0, .chip⟩, ⟨30, 28, .ro, false, 0, .chip⟩, ⟨27, 24, .wo, false, 0, .chip⟩, ⟨19, 18, .rw, false, 0, .chip⟩, ⟨17, 4, .rw, false, 0, .chip⟩, ⟨3, 2, .rw, false, 0, .chip⟩]⟩,
  /- PLT_FLUSH -/ ⟨0x400024, 4, 1, [⟨31, 31, .rw, false, 0, .chip⟩, ⟨30, 28, .rw, false, 0, .chip⟩, ⟨27, 22, .rw, false, 0, .chip⟩, ⟨21, 16, .rw, false, 0, .chip⟩, ⟨15, 0, .rw, false, 0, .chip⟩]⟩,
  /- PLT_STASH_CFG -/ ⟨0x400028, 4, 1, [⟨6, 0, .rw, true, 48, .chip⟩]⟩,
  /- PLT_DATA -/ ⟨0x400030, 4, 4, [⟨31, 0, .rw, false, 0, .chip⟩]⟩,
  /- PLT_PERR -/ ⟨0x400040, 4, 1, [⟨31, 31, .rw1c, false, 0, .chip⟩, ⟨30, 30, .ro, false, 0, .chip⟩, ⟨19, 18, .ro, false, 0, .chip⟩, ⟨17, 4, .ro, false, 0, .chip⟩, ⟨3, 2, .ro, false, 0, .chip⟩]⟩,
  /- PLT_PARCEL_CFG -/ ⟨0x400100, 4, 64, [⟨31, 31, .rw, true, 0, .chip⟩, ⟨30, 30, .rw, true, 0, .chip⟩, ⟨29, 29, .rw, true, 1, .chip⟩, ⟨18, 0, .rw, true, 0, .chip⟩]⟩,
  /- PLT_PARCEL_OCC -/ ⟨0x400200, 4, 64, [⟨18, 0, .ro, false, 0, .chip⟩]⟩,
  /- PLT_PORT_LIMIT -/ ⟨0x400380, 4, 32, [⟨18, 0, .rw, true, 0, .chip⟩]⟩]

/-- PLT registers, continued. -/
def regsPLT_1 : List RegD := [
  /- PLT_PORT_OCC -/ ⟨0x400480, 4, 32, [⟨18, 0, .ro, false, 0, .chip⟩]⟩]

/-- All PLT registers. -/
def regsPLT : List RegD := regsPLT_0 ++ regsPLT_1

/-- SEC registers (spec/04_macsec_associations.md, spec/06_speculative_release.md). -/
def regsSEC : List RegD := [
  /- SEC_STATUS -/ ⟨0x500000, 4, 1, [⟨30, 20, .ro, false, 0, .chip⟩, ⟨19, 11, .ro, false, 0, .chip⟩, ⟨10, 2, .ro, false, 0, .chip⟩, ⟨1, 1, .ro, false, 0, .chip⟩]⟩,
  /- SEC_CFG -/ ⟨0x500004, 4, 1, [⟨0, 0, .rw, true, 0, .chip⟩]⟩,
  /- SEC_CMD -/ ⟨0x500008, 4, 1, [⟨31, 31, .ro, true, 0, .chip⟩, ⟨30, 27, .ro, true, 0, .chip⟩, ⟨23, 20, .wo, true, 0, .chip⟩, ⟨17, 0, .rw, true, 0, .chip⟩]⟩,
  /- SEC_HANDOFF -/ ⟨0x50000C, 4, 1, [⟨15, 0, .wo, true, 0, .chip⟩]⟩,
  /- SEC_PN_SOFT32 -/ ⟨0x500010, 4, 1, [⟨31, 0, .rw, true, 3221225472, .chip⟩]⟩,
  /- SEC_PN_SOFT64_LO -/ ⟨0x500014, 4, 1, [⟨31, 0, .rw, true, 0, .chip⟩]⟩,
  /- SEC_PN_SOFT64_HI -/ ⟨0x500018, 4, 1, [⟨31, 0, .rw, true, 3221225472, .chip⟩]⟩,
  /- SEC_PIN -/ ⟨0x50001C, 4, 1, [⟨12, 0, .ro, false, 0, .chip⟩]⟩,
  /- SEC_LPORT -/ ⟨0x500100, 4, 32, [⟨31, 31, .rw, true, 0, .chip⟩, ⟨15, 0, .rw, true, 0, .chip⟩]⟩,
  /- SEC_DATA -/ ⟨0x500200, 4, 32, [⟨31, 0, .rw, true, 0, .chip⟩]⟩,
  /- SEC_REL_STATUS -/ ⟨0x500280, 4, 1, [⟨31, 0, .ro, false, 0, .chip⟩]⟩,
  /- SEC_REL_LAST -/ ⟨0x500284, 4, 1, [⟨31, 31, .rw1c, false, 0, .chip⟩, ⟨23, 18, .ro, false, 0, .chip⟩, ⟨17, 0, .ro, false, 0, .chip⟩]⟩,
  /- SEC_REL_PORT -/ ⟨0x500300, 4, 32, [⟨31, 24, .rw, true, 16, .chip⟩, ⟨16, 16, .w1s, true, 0, .chip⟩, ⟨15, 0, .rw, true, 1000, .chip⟩]⟩]

/-- ANV registers (spec/05_anvil_cipher_complex.md). -/
def regsANV : List RegD := [
  /- ANV_STATUS -/ ⟨0x600000, 4, 1, [⟨13, 8, .ro, false, 0, .chip⟩, ⟨5, 0, .ro, false, 0, .chip⟩]⟩,
  /- ANV_HEAT_USE -/ ⟨0x600004, 4, 1, [⟨31, 31, .w1s, false, 0, .chip⟩, ⟨29, 16, .ro, false, 0, .chip⟩, ⟨13, 0, .ro, false, 0, .chip⟩]⟩,
  /- ANV_HEAT_RSV -/ ⟨0x600008, 4, 1, [⟨12, 0, .rw, true, 512, .chip⟩]⟩,
  /- ANV_XRES -/ ⟨0x60000C, 4, 1, [⟨15, 8, .rw, true, 192, .chip⟩, ⟨3, 0, .rw, true, 0, .chip⟩]⟩,
  /- ANV_PLACE -/ ⟨0x600010, 4, 1, [⟨7, 0, .rw, true, 24, .chip⟩]⟩,
  /- ANV_PWR -/ ⟨0x600014, 4, 1, [⟨31, 31, .rw, true, 0, .chip⟩, ⟨21, 16, .rw, true, 40, .chip⟩, ⟨15, 8, .rw, true, 75, .chip⟩, ⟨7, 0, .rw, true, 100, .chip⟩]⟩,
  /- ANV_KAT -/ ⟨0x600018, 4, 1, [⟨31, 31, .rw, true, 1, .chip⟩, ⟨15, 0, .rw, true, 1000, .chip⟩]⟩,
  /- ANV_FAULT -/ ⟨0x60001C, 4, 1, [⟨31, 31, .rw1c, true, 0, .chip⟩, ⟨10, 8, .ro, true, 0, .chip⟩, ⟨5, 0, .ro, true, 0, .chip⟩]⟩,
  /- ANV_MIN_SVC -/ ⟨0x600020, 4, 1, [⟨5, 0, .rw, true, 39, .chip⟩]⟩,
  /- ANV_SVC0 -/ ⟨0x600024, 4, 1, [⟨31, 0, .ro, false, 0, .chip⟩]⟩,
  /- ANV_SVC1 -/ ⟨0x600028, 4, 1, [⟨31, 0, .ro, false, 0, .chip⟩]⟩,
  /- ANV_CTL -/ ⟨0x600100, 4, 40, [⟨31, 31, .w1s, true, 0, .chip⟩, ⟨30, 30, .w1s, true, 0, .chip⟩, ⟨7, 5, .ro, false, 0, .chip⟩, ⟨4, 4, .ro, false, 0, .chip⟩, ⟨3, 3, .ro, false, 0, .chip⟩, ⟨2, 2, .ro, false, 0, .chip⟩, ⟨1, 1, .ro, false, 0, .chip⟩, ⟨0, 0, .ro, false, 0, .chip⟩]⟩,
  /- ANV_LOAD -/ ⟨0x600200, 4, 40, [⟨23, 16, .ro, false, 0, .chip⟩, ⟨15, 8, .ro, false, 0, .chip⟩, ⟨4, 0, .ro, false, 0, .chip⟩]⟩]

/-- BLW registers (spec/07_bellows_scheduler.md). -/
def regsBLW : List RegD := [
  /- BLW_STATUS -/ ⟨0x700000, 4, 1, [⟨18, 0, .ro, false, 458752, .chip⟩]⟩,
  /- BLW_POOL -/ ⟨0x700004, 4, 1, [⟨18, 0, .rw, true, 4096, .chip⟩]⟩,
  /- BLW_CFG -/ ⟨0x700008, 4, 1, [⟨0, 0, .rw, true, 1, .chip⟩]⟩,
  /- BLW_QCMD -/ ⟨0x700010, 4, 1, [⟨31, 31, .ro, false, 0, .chip⟩, ⟨30, 28, .ro, false, 0, .chip⟩, ⟨27, 24, .wo, false, 0, .chip⟩, ⟨15, 0, .rw, false, 0, .chip⟩]⟩,
  /- BLW_QDATA -/ ⟨0x700020, 4, 3, [⟨31, 0, .rw, false, 0, .chip⟩]⟩,
  /- BLW_QDATA -/ ⟨0x70002C, 4, 9, [⟨31, 0, .ro, false, 0, .chip⟩]⟩,
  /- BLW_WEIGHT_W0 -/ ⟨0x700100, 8, 64, [⟨31, 24, .rw, true, 16, .chip⟩, ⟨23, 16, .rw, true, 16, .chip⟩, ⟨15, 8, .rw, true, 16, .chip⟩, ⟨7, 0, .rw, true, 16, .chip⟩]⟩,
  /- BLW_WEIGHT_W1 -/ ⟨0x700104, 8, 64, [⟨31, 24, .rw, true, 16, .chip⟩, ⟨23, 16, .rw, true, 16, .chip⟩, ⟨15, 8, .rw, true, 16, .chip⟩, ⟨7, 0, .rw, true, 16, .chip⟩]⟩,
  /- BLW_DELAY_THRESH -/ ⟨0x700300, 4, 64, [⟨23, 0, .rw, true, 0, .chip⟩]⟩,
  /- BLW_PARCEL_CFG -/ ⟨0x700500, 4, 64, [⟨25, 19, .rw, true, 0, .chip⟩, ⟨18, 0, .rw, true, 458752, .chip⟩]⟩,
  /- BLW_PARCEL_OCC -/ ⟨0x700600, 4, 64, [⟨18, 0, .ro, false, 0, .parcel⟩]⟩,
  /- BLW_POLICE_W0 -/ ⟨0x700800, 8, 128, [⟨31, 31, .rw, true, 0, .chip⟩, ⟨22, 0, .rw, true, 0, .chip⟩]⟩,
  /- BLW_POLICE_W1 -/ ⟨0x700804, 8, 128, [⟨15, 0, .rw, true, 0, .chip⟩]⟩]

/-- GAT registers (spec/08_gates_and_deadlines.md). -/
def regsGAT_0 : List RegD := [
  /- GAT_CFG -/ ⟨0x800000, 4, 1, [⟨1, 0, .rw, true, 1, .chip⟩]⟩,
  /- GAT_REFUSE_LAST -/ ⟨0x800004, 4, 1, [⟨31, 31, .rw1c, false, 0, .chip⟩, ⟨30, 27, .ro, false, 0, .chip⟩, ⟨8, 6, .ro, false, 0, .chip⟩, ⟨5, 0, .ro, false, 0, .chip⟩]⟩,
  /- GAT_BREACH_LAST -/ ⟨0x800008, 4, 1, [⟨31, 31, .rw1c, false, 0, .chip⟩, ⟨30, 30, .ro, false, 0, .chip⟩, ⟨29, 27, .ro, false, 0, .chip⟩, ⟨26, 21, .ro, false, 0, .chip⟩, ⟨20, 0, .ro, false, 0, .chip⟩]⟩,
  /- GAT_GCL_CMD -/ ⟨0x800010, 4, 1, [⟨31, 31, .ro, true, 0, .chip⟩, ⟨30, 28, .ro, true, 0, .chip⟩, ⟨27, 24, .wo, true, 0, .chip⟩, ⟨21, 16, .rw, true, 0, .chip⟩, ⟨9, 0, .rw, true, 0, .chip⟩]⟩,
  /- GAT_GCL_DATA0 -/ ⟨0x800014, 4, 1, [⟨31, 0, .rw, true, 0, .chip⟩]⟩,
  /- GAT_GCL_DATA1 -/ ⟨0x800018, 4, 1, [⟨31, 0, .rw, true, 0, .chip⟩]⟩,
  /- GAT_PORT_CFG -/ ⟨0x800100, 4, 64, [⟨31, 31, .rw, true, 0, .chip⟩, ⟨30, 30, .rw, true, 1, .chip⟩, ⟨29, 29, .rw, true, 0, .chip⟩, ⟨28, 27, .rw, true, 0, .chip⟩, ⟨26, 26, .rw, true, 0, .chip⟩, ⟨25, 18, .rw, true, 10, .chip⟩, ⟨17, 10, .rw, true, 255, .chip⟩]⟩,
  /- GAT_PORT_TXD -/ ⟨0x800200, 4, 64, [⟨11, 0, .rw, true, 280, .chip⟩]⟩,
  /- GAT_PORT_STATUS -/ ⟨0x800300, 4, 64, [⟨31, 30, .ro, false, 0, .chip⟩, ⟨29, 29, .ro, false, 0, .chip⟩, ⟨28, 28, .ro, false, 0, .chip⟩, ⟨27, 26, .ro, false, 0, .chip⟩, ⟨25, 19, .ro, false, 0, .chip⟩, ⟨18, 8, .ro, false, 0, .chip⟩, ⟨7, 0, .ro, false, 255, .chip⟩]⟩,
  /- GAT_PEND_W0 -/ ⟨0x800400, 16, 64, [⟨31, 0, .rw, true, 0, .chip⟩]⟩,
  /- GAT_PEND_W1 -/ ⟨0x800404, 16, 64, [⟨31, 0, .rw, true, 0, .chip⟩]⟩,
  /- GAT_PEND_W2 -/ ⟨0x800408, 16, 64, [⟨31, 0, .rw, true, 0, .chip⟩]⟩,
  /- GAT_PEND_W3 -/ ⟨0x80040C, 16, 64, [⟨31, 31, .rw, true, 0, .chip⟩, ⟨10, 0, .rw, true, 0, .chip⟩]⟩,
  /- GAT_ACT_W0 -/ ⟨0x800800, 16, 64, [⟨31, 0, .ro, true, 0, .chip⟩]⟩]

/-- GAT registers, continued. -/
def regsGAT_1 : List RegD := [
  /- GAT_ACT_W1 -/ ⟨0x800804, 16, 64, [⟨31, 0, .ro, true, 0, .chip⟩]⟩,
  /- GAT_ACT_W2 -/ ⟨0x800808, 16, 64, [⟨31, 0, .ro, true, 0, .chip⟩]⟩,
  /- GAT_ACT_W3 -/ ⟨0x80080C, 16, 64, [⟨31, 31, .ro, true, 0, .chip⟩, ⟨10, 0, .ro, true, 0, .chip⟩]⟩,
  /- GAT_CLASS_CFG_W0 -/ ⟨0x801000, 8, 512, [⟨31, 31, .rw, true, 0, .chip⟩, ⟨30, 30, .rw, true, 0, .chip⟩, ⟨29, 29, .rw, true, 0, .chip⟩, ⟨13, 0, .rw, true, 9248, .chip⟩]⟩,
  /- GAT_CLASS_CFG_W1 -/ ⟨0x801004, 8, 512, [⟨15, 0, .rw, true, 800, .chip⟩]⟩]

/-- All GAT registers. -/
def regsGAT : List RegD := regsGAT_0 ++ regsGAT_1

/-- DAT registers (spec/09_datum_meridian_time.md). -/
def regsDAT_0 : List RegD := [
  /- DAT_STATUS -/ ⟨0x900000, 4, 1, [⟨31, 30, .ro, false, 0, .chip⟩, ⟨29, 29, .ro, false, 0, .chip⟩, ⟨28, 28, .ro, false, 0, .power⟩]⟩,
  /- DAT_CFG -/ ⟨0x900004, 4, 1, [⟨31, 30, .rw, true, 0, .chip⟩, ⟨29, 29, .rw, true, 1, .chip⟩, ⟨28, 28, .rw, true, 0, .chip⟩, ⟨27, 27, .rw, true, 0, .chip⟩, ⟨26, 26, .rw, true, 0, .chip⟩, ⟨25, 25, .rw, true, 0, .chip⟩, ⟨23, 16, .rw, true, 16, .chip⟩, ⟨15, 8, .rw, true, 50, .chip⟩, ⟨7, 0, .rw, true, 100, .chip⟩]⟩,
  /- DAT_SYNC -/ ⟨0x900008, 4, 1, [⟨31, 16, .rw, true, 1000, .chip⟩, ⟨15, 0, .rw, true, 100, .chip⟩]⟩,
  /- DAT_HOLD -/ ⟨0x90000C, 4, 1, [⟨31, 28, .rw, true, 4, .chip⟩, ⟨19, 0, .rw, true, 300, .chip⟩]⟩,
  /- DAT_NOW_FRAC -/ ⟨0x900010, 4, 1, [⟨31, 0, .ro, false, 0, .power⟩]⟩,
  /- DAT_NOW_LO -/ ⟨0x900014, 4, 1, [⟨31, 0, .ro, false, 0, .power⟩]⟩,
  /- DAT_NOW_HI -/ ⟨0x900018, 4, 1, [⟨31, 0, .ro, false, 0, .power⟩]⟩,
  /- DAT_CYC_LO -/ ⟨0x90001C, 4, 1, [⟨31, 0, .ro, false, 0, .power⟩]⟩,
  /- DAT_CYC_HI -/ ⟨0x900020, 4, 1, [⟨31, 0, .ro, false, 0, .power⟩]⟩,
  /- DAT_FREQ -/ ⟨0x900024, 4, 1, [⟨31, 0, .rw, true, 0, .power⟩]⟩,
  /- DAT_OPND_LO -/ ⟨0x900028, 4, 1, [⟨31, 0, .rw, true, 0, .chip⟩]⟩,
  /- DAT_OPND_HI -/ ⟨0x90002C, 4, 1, [⟨31, 0, .rw, true, 0, .chip⟩]⟩,
  /- DAT_CMD -/ ⟨0x900030, 4, 1, [⟨31, 31, .ro, true, 0, .chip⟩, ⟨30, 28, .ro, true, 0, .chip⟩, ⟨27, 24, .wo, true, 0, .chip⟩]⟩,
  /- DAT_ERR -/ ⟨0x900034, 4, 1, [⟨31, 0, .ro, false, 0, .chip⟩]⟩]

/-- DAT registers, continued. -/
def regsDAT_1 : List RegD := [
  /- DAT_PTP -/ ⟨0x900038, 4, 1, [⟨31, 31, .rw, true, 0, .chip⟩, ⟨23, 16, .rw, true, 0, .chip⟩, ⟨5, 0, .rw, true, 0, .chip⟩]⟩,
  /- DAT_UTC -/ ⟨0x90003C, 4, 1, [⟨17, 16, .rw, true, 0, .chip⟩, ⟨15, 0, .rw, true, 0, .chip⟩]⟩,
  /- DAT_PORT_ADJ -/ ⟨0x900100, 4, 64, [⟨31, 16, .rw, true, 0, .chip⟩, ⟨15, 0, .rw, true, 0, .chip⟩]⟩,
  /- MER_STATUS -/ ⟨0x900200, 4, 1, [⟨31, 30, .ro, false, 0, .chip⟩, ⟨15, 0, .ro, false, 0, .chip⟩]⟩,
  /- MER_CFG -/ ⟨0x900204, 4, 1, [⟨31, 31, .rw, true, 0, .chip⟩, ⟨30, 30, .rw, true, 0, .chip⟩, ⟨23, 16, .rw, true, 50, .chip⟩, ⟨15, 12, .rw, true, 8, .chip⟩, ⟨11, 6, .rw, true, 8, .chip⟩]⟩,
  /- MER_RANGE -/ ⟨0x900208, 4, 1, [⟨31, 16, .rw, true, 65, .chip⟩, ⟨15, 0, .rw, true, 45, .chip⟩]⟩,
  /- MER_LOCK_THRESH -/ ⟨0x90020C, 4, 1, [⟨31, 0, .rw, true, 1048576, .chip⟩]⟩,
  /- MER_HOLD -/ ⟨0x900210, 4, 1, [⟨31, 16, .rw, true, 50, .chip⟩]⟩,
  /- MER_PHASE_OFFSET -/ ⟨0x900214, 4, 1, [⟨31, 0, .rw, true, 0, .chip⟩]⟩,
  /- MER_FREQ -/ ⟨0x900218, 4, 1, [⟨31, 0, .ro, false, 0, .chip⟩]⟩,
  /- MER_PHASE -/ ⟨0x90021C, 4, 1, [⟨31, 0, .ro, false, 0, .chip⟩]⟩,
  /- DAT_BENCH_W0 -/ ⟨0x900300, 16, 8, [⟨31, 31, .rw, true, 0, .chip⟩, ⟨30, 29, .rw, true, 0, .chip⟩, ⟨4, 0, .ro, false, 0, .chip⟩]⟩,
  /- DAT_BENCH_W1 -/ ⟨0x900304, 16, 8, [⟨31, 0, .ro, false, 0, .chip⟩]⟩,
  /- DAT_BENCH_W2 -/ ⟨0x900308, 16, 8, [⟨31, 0, .ro, false, 0, .chip⟩]⟩]

/-- DAT registers, continued. -/
def regsDAT_2 : List RegD := [
  /- DAT_BENCH_W3 -/ ⟨0x90030C, 16, 8, [⟨31, 31, .ro, false, 0, .chip⟩, ⟨30, 30, .ro, false, 0, .chip⟩, ⟨29, 29, .ro, false, 0, .chip⟩, ⟨28, 28, .ro, false, 0, .chip⟩, ⟨17, 16, .ro, false, 0, .chip⟩, ⟨15, 0, .ro, false, 0, .chip⟩]⟩,
  /- DAT_STAKE_W0 -/ ⟨0x900400, 32, 8, [⟨31, 31, .w1s, true, 0, .chip⟩, ⟨30, 30, .w1s, true, 0, .chip⟩, ⟨29, 29, .ro, false, 0, .chip⟩, ⟨28, 26, .ro, false, 0, .chip⟩, ⟨25, 24, .rw, true, 0, .chip⟩, ⟨23, 23, .rw, true, 0, .chip⟩, ⟨22, 22, .rw, true, 1, .chip⟩]⟩,
  /- DAT_STAKE_W1 -/ ⟨0x900404, 32, 8, [⟨31, 0, .rw, true, 0, .chip⟩]⟩,
  /- DAT_STAKE_W2 -/ ⟨0x900408, 32, 8, [⟨31, 0, .rw, true, 0, .chip⟩]⟩,
  /- DAT_STAKE_W3 -/ ⟨0x90040C, 32, 8, [⟨31, 0, .rw, true, 0, .chip⟩]⟩,
  /- DAT_STAKE_W4 -/ ⟨0x900410, 32, 8, [⟨31, 0, .rw, true, 0, .chip⟩]⟩,
  /- DAT_STAKE_W5 -/ ⟨0x900414, 32, 8, [⟨15, 0, .rw, true, 1, .chip⟩]⟩,
  /- DAT_STAKE_W6 -/ ⟨0x900418, 32, 8, [⟨23, 0, .rw, true, 1000, .chip⟩]⟩,
  /- DAT_STAKE_W7 -/ ⟨0x90041C, 32, 8, [⟨31, 0, .ro, false, 0, .chip⟩]⟩]

/-- All DAT registers. -/
def regsDAT : List RegD := regsDAT_0 ++ regsDAT_1 ++ regsDAT_2

/-- HRT registers (spec/10_hearth_keys.md). -/
def regsHRT : List RegD := [
  /- HRT_STATUS -/ ⟨0xA00000, 4, 1, [⟨31, 30, .ro, true, 0, .power⟩, ⟨29, 29, .ro, true, 0, .power⟩, ⟨28, 28, .ro, true, 0, .battery⟩, ⟨27, 27, .ro, true, 0, .chip⟩, ⟨26, 26, .ro, true, 0, .chip⟩, ⟨25, 25, .ro, true, 0, .chip⟩, ⟨22, 16, .ro, true, 0, .power⟩, ⟨12, 0, .ro, true, 0, .chip⟩]⟩,
  /- HRT_CMD -/ ⟨0xA00004, 4, 1, [⟨31, 31, .ro, true, 0, .chip⟩, ⟨30, 27, .ro, true, 0, .chip⟩, ⟨23, 16, .wo, true, 0, .chip⟩, ⟨11, 0, .rw, true, 0, .chip⟩]⟩,
  /- HRT_CMD_ARG -/ ⟨0xA00008, 4, 1, [⟨31, 0, .rw, true, 0, .chip⟩]⟩,
  /- HRT_CMD_RESULT -/ ⟨0xA0000C, 4, 1, [⟨15, 0, .ro, true, 0, .chip⟩]⟩,
  /- HRT_RANDOM -/ ⟨0xA00010, 4, 1, [⟨31, 0, .ro, true, 0, .chip⟩]⟩,
  /- HRT_USE -/ ⟨0xA00014, 4, 1, [⟨22, 16, .ro, true, 0, .chip⟩, ⟨10, 0, .ro, true, 0, .chip⟩]⟩,
  /- HRT_HANDOFF -/ ⟨0xA00018, 4, 1, [⟨6, 0, .ro, true, 0, .chip⟩]⟩,
  /- HRT_QUENCH -/ ⟨0xA00020, 4, 1, [⟨31, 31, .ro, true, 0, .chip⟩, ⟨30, 30, .rw1c, true, 0, .chip⟩, ⟨29, 27, .ro, true, 0, .chip⟩, ⟨15, 0, .ro, true, 0, .chip⟩]⟩,
  /- HRT_ERR -/ ⟨0xA00024, 4, 1, [⟨31, 31, .rw1c, true, 0, .chip⟩, ⟨25, 16, .ro, true, 0, .chip⟩, ⟨11, 0, .ro, true, 0, .chip⟩]⟩,
  /- HRT_STORE_AREA_W0 -/ ⟨0xA00100, 8, 5, [⟨31, 31, .ro, true, 0, .chip⟩, ⟨26, 0, .ro, true, 0, .chip⟩]⟩,
  /- HRT_STORE_AREA_W1 -/ ⟨0xA00104, 8, 5, [⟨31, 16, .ro, true, 0, .chip⟩, ⟨15, 0, .ro, true, 0, .chip⟩]⟩,
  /- HRT_DATA -/ ⟨0xA01000, 4, 512, [⟨31, 0, .rw, true, 0, .chip⟩]⟩]

/-- TMP registers (spec/14_temper_external_memory.md). -/
def regsTMP : List RegD := [
  /- TMP_STATUS -/ ⟨0xB00000, 4, 1, [⟨31, 31, .ro, false, 0, .chip⟩, ⟨30, 30, .ro, false, 0, .chip⟩, ⟨29, 29, .ro, true, 0, .chip⟩, ⟨28, 28, .ro, false, 0, .chip⟩, ⟨27, 27, .ro, false, 0, .chip⟩, ⟨22, 16, .ro, false, 0, .chip⟩, ⟨15, 0, .ro, false, 0, .chip⟩]⟩,
  /- TMP_CFG -/ ⟨0xB00004, 4, 1, [⟨31, 31, .rw, true, 0, .chip⟩, ⟨30, 30, .rw, true, 1, .chip⟩, ⟨23, 16, .rw, true, 16, .chip⟩, ⟨15, 8, .rw, true, 24, .chip⟩]⟩,
  /- TMP_LAYOUT -/ ⟨0xB00008, 4, 1, [⟨31, 16, .ro, false, 0, .chip⟩, ⟨6, 0, .rw, true, 0, .chip⟩]⟩,
  /- TMP_FAIL_LAST_W0 -/ ⟨0xB00010, 4, 1, [⟨31, 31, .rw1c, true, 0, .chip⟩, ⟨30, 28, .ro, true, 0, .chip⟩, ⟨27, 25, .ro, true, 0, .chip⟩, ⟨3, 0, .ro, true, 0, .chip⟩]⟩,
  /- TMP_FAIL_LAST_W1 -/ ⟨0xB00014, 4, 1, [⟨31, 0, .ro, true, 0, .chip⟩]⟩,
  /- TMP_SCRUB -/ ⟨0xB00018, 4, 1, [⟨31, 31, .w1s, true, 0, .chip⟩, ⟨6, 0, .ro, false, 0, .chip⟩]⟩,
  /- TMP_REGION_W0 -/ ⟨0xB00100, 16, 8, [⟨31, 31, .rw, true, 0, .chip⟩, ⟨30, 30, .rw, true, 0, .chip⟩, ⟨29, 29, .rw, true, 0, .chip⟩, ⟨15, 0, .rw, true, 0, .chip⟩]⟩,
  /- TMP_REGION_W1 -/ ⟨0xB00104, 16, 8, [⟨15, 0, .rw, true, 0, .chip⟩]⟩,
  /- TMP_REGION_W2 -/ ⟨0xB00108, 16, 8, [⟨5, 4, .rw, true, 0, .chip⟩, ⟨3, 2, .rw, true, 0, .chip⟩, ⟨1, 0, .rw, true, 0, .chip⟩]⟩,
  /- TMP_REGION_W3 -/ ⟨0xB0010C, 16, 8, []⟩]

/-- ECC registers (spec/15_stored_data_protection.md). -/
def regsECC : List RegD := [
  /- ECC_STATUS -/ ⟨0xC00000, 4, 1, [⟨31, 31, .ro, false, 0, .chip⟩, ⟨27, 16, .ro, false, 0, .chip⟩, ⟨11, 0, .ro, false, 0, .chip⟩]⟩,
  /- ECC_CFG -/ ⟨0xC00004, 4, 1, [⟨31, 31, .rw, true, 1, .chip⟩, ⟨27, 16, .rw, true, 60, .chip⟩, ⟨15, 0, .rw, true, 0, .chip⟩]⟩,
  /- ECC_LOG_CTL -/ ⟨0xC00008, 4, 1, [⟨31, 31, .w1s, false, 0, .chip⟩, ⟨21, 16, .ro, false, 0, .chip⟩, ⟨15, 0, .ro, false, 0, .chip⟩]⟩,
  /- ECC_REPAIR -/ ⟨0xC0000C, 4, 1, [⟨22, 16, .ro, false, 0, .chip⟩, ⟨11, 0, .ro, false, 0, .chip⟩]⟩,
  /- ECC_REPAIR_LAST -/ ⟨0xC00010, 4, 1, [⟨31, 31, .rw1c, false, 0, .chip⟩, ⟨30, 30, .ro, false, 0, .chip⟩, ⟨26, 16, .ro, false, 0, .chip⟩, ⟨9, 0, .ro, false, 0, .chip⟩]⟩,
  /- ECC_SCRUB -/ ⟨0xC00014, 4, 1, [⟨31, 31, .w1s, false, 0, .chip⟩, ⟨6, 0, .ro, false, 0, .chip⟩]⟩,
  /- ECC_INJECT_W0 -/ ⟨0xC00018, 4, 1, [⟨31, 31, .rw, true, 0, .chip⟩, ⟨30, 30, .rw, true, 0, .chip⟩, ⟨29, 27, .rw, true, 0, .chip⟩, ⟨3, 0, .rw, true, 0, .chip⟩]⟩,
  /- ECC_INJECT_W1 -/ ⟨0xC0001C, 4, 1, [⟨31, 0, .rw, true, 0, .chip⟩]⟩,
  /- ECC_LOG_W0 -/ ⟨0xC00100, 16, 32, [⟨31, 31, .ro, false, 0, .chip⟩, ⟨30, 30, .ro, false, 0, .chip⟩, ⟨29, 29, .ro, false, 0, .chip⟩, ⟨28, 24, .ro, false, 0, .chip⟩, ⟨23, 16, .ro, false, 0, .chip⟩, ⟨15, 0, .ro, false, 0, .chip⟩]⟩,
  /- ECC_LOG_W1 -/ ⟨0xC00104, 16, 32, [⟨31, 0, .ro, false, 0, .chip⟩]⟩,
  /- ECC_LOG_W2 -/ ⟨0xC00108, 16, 32, [⟨31, 0, .ro, false, 0, .chip⟩]⟩,
  /- ECC_LOG_W3 -/ ⟨0xC0010C, 16, 32, [⟨31, 30, .ro, false, 0, .chip⟩]⟩]

/-- TIE registers (spec/16_tie_pair.md). -/
def regsTIE : List RegD := [
  /- TIE_STATUS -/ ⟨0xD00000, 4, 1, [⟨31, 28, .ro, false, 0, .chip⟩, ⟨27, 27, .ro, false, 0, .chip⟩, ⟨26, 26, .ro, false, 0, .chip⟩, ⟨25, 25, .ro, false, 0, .chip⟩, ⟨24, 24, .ro, false, 0, .chip⟩, ⟨23, 23, .ro, false, 0, .chip⟩, ⟨22, 22, .ro, false, 0, .chip⟩, ⟨12, 0, .ro, false, 0, .chip⟩]⟩,
  /- TIE_CFG -/ ⟨0xD00004, 4, 1, [⟨31, 31, .rw, true, 0, .chip⟩, ⟨30, 30, .rw, true, 1, .chip⟩, ⟨29, 24, .rw, true, 20, .chip⟩, ⟨23, 16, .rw, true, 0, .chip⟩, ⟨15, 0, .rw, true, 100, .chip⟩]⟩,
  /- TIE_KEY -/ ⟨0xD00008, 4, 1, [⟨11, 0, .rw, true, 0, .chip⟩]⟩,
  /- TIE_PAIR_A_LO -/ ⟨0xD00010, 4, 1, [⟨31, 0, .rw, true, 0, .chip⟩]⟩,
  /- TIE_PAIR_A_HI -/ ⟨0xD00014, 4, 1, [⟨31, 0, .rw, true, 0, .chip⟩]⟩,
  /- TIE_PAIR_B_LO -/ ⟨0xD00018, 4, 1, [⟨31, 0, .rw, true, 0, .chip⟩]⟩,
  /- TIE_PAIR_B_HI -/ ⟨0xD0001C, 4, 1, [⟨31, 0, .rw, true, 0, .chip⟩]⟩,
  /- TIE_CTL -/ ⟨0xD00020, 4, 1, [⟨31, 31, .w1s, false, 0, .chip⟩, ⟨30, 30, .w1s, false, 0, .chip⟩]⟩,
  /- TIE_SWAP_AT_LO -/ ⟨0xD00024, 4, 1, [⟨31, 0, .ro, false, 0, .chip⟩]⟩,
  /- TIE_SWAP_AT_HI -/ ⟨0xD00028, 4, 1, [⟨31, 0, .ro, false, 0, .chip⟩]⟩,
  /- TIE_LAST_MISMATCH -/ ⟨0xD00030, 4, 1, [⟨31, 31, .rw1c, false, 0, .chip⟩, ⟨30, 28, .ro, false, 0, .chip⟩, ⟨27, 27, .ro, false, 0, .chip⟩, ⟨26, 21, .ro, false, 0, .chip⟩, ⟨20, 18, .ro, false, 0, .chip⟩, ⟨17, 0, .ro, false, 0, .chip⟩]⟩,
  /- TIE_LAST_TAKEOVER -/ ⟨0xD00034, 4, 1, [⟨31, 31, .rw1c, false, 0, .chip⟩, ⟨30, 28, .ro, false, 0, .chip⟩, ⟨27, 27, .ro, false, 0, .chip⟩, ⟨12, 0, .ro, false, 0, .chip⟩]⟩,
  /- TIE_SELFCHK -/ ⟨0xD00038, 4, 1, [⟨31, 31, .rw1c, false, 0, .chip⟩, ⟨30, 30, .ro, false, 0, .chip⟩, ⟨29, 29, .ro, false, 0, .chip⟩, ⟨6, 0, .ro, false, 0, .chip⟩]⟩,
  /- TIE_LANE -/ ⟨0xD00100, 4, 4, [⟨31, 31, .ro, false, 0, .chip⟩, ⟨30, 30, .ro, false, 0, .chip⟩, ⟨29, 24, .ro, false, 0, .chip⟩, ⟨15, 0, .ro, false, 0, .chip⟩]⟩]

/-- ENV registers (spec/17_environment_tamper.md). -/
def regsENV_0 : List RegD := [
  /- ENV_STATUS -/ ⟨0xE00000, 4, 1, [⟨31, 29, .ro, true, 0, .chip⟩, ⟨28, 28, .rw1c, true, 0, .chip⟩, ⟨12, 0, .ro, true, 0, .chip⟩]⟩,
  /- ENV_LAST -/ ⟨0xE00004, 4, 1, [⟨31, 31, .rw1c, true, 0, .chip⟩, ⟨30, 28, .ro, true, 0, .chip⟩, ⟨19, 16, .ro, true, 0, .chip⟩, ⟨15, 0, .ro, true, 0, .chip⟩]⟩,
  /- ENV_EVIDENCE -/ ⟨0xE00008, 4, 1, [⟨31, 31, .ro, true, 0, .power⟩, ⟨11, 0, .ro, true, 0, .power⟩]⟩,
  /- ENV_DD -/ ⟨0xE0000C, 4, 1, [⟨31, 31, .rw1c, true, 0, .chip⟩, ⟨18, 16, .ro, true, 0, .chip⟩, ⟨15, 0, .ro, true, 0, .chip⟩]⟩,
  /- ENV_MEAS -/ ⟨0xE00040, 4, 8, [⟨15, 0, .ro, true, 0, .chip⟩]⟩,
  /- ENV_SRC_W0 -/ ⟨0xE00100, 16, 1, [⟨31, 31, .rw, true, 1, .chip⟩, ⟨30, 28, .rw, true, 2, .chip⟩, ⟨27, 27, .rw, true, 0, .chip⟩, ⟨26, 26, .rw, true, 0, .chip⟩, ⟨25, 25, .rw, true, 0, .chip⟩, ⟨21, 16, .rw, true, 0, .chip⟩]⟩,
  /- ENV_SRC_W0 -/ ⟨0xE00110, 16, 1, [⟨31, 31, .rw, true, 1, .chip⟩, ⟨30, 28, .rw, true, 2, .chip⟩, ⟨27, 27, .rw, true, 0, .chip⟩, ⟨26, 26, .rw, true, 0, .chip⟩, ⟨25, 25, .rw, true, 0, .chip⟩, ⟨21, 16, .rw, true, 0, .chip⟩]⟩,
  /- ENV_SRC_W0 -/ ⟨0xE00120, 16, 1, [⟨31, 31, .rw, true, 1, .chip⟩, ⟨30, 28, .rw, true, 2, .chip⟩, ⟨27, 27, .rw, true, 0, .chip⟩, ⟨26, 26, .rw, true, 0, .chip⟩, ⟨25, 25, .rw, true, 0, .chip⟩, ⟨21, 16, .rw, true, 0, .chip⟩]⟩,
  /- ENV_SRC_W0 -/ ⟨0xE00130, 16, 1, [⟨31, 31, .rw, true, 1, .chip⟩, ⟨30, 28, .rw, true, 2, .chip⟩, ⟨27, 27, .rw, true, 1, .chip⟩, ⟨26, 26, .rw, true, 0, .chip⟩, ⟨25, 25, .rw, true, 0, .chip⟩, ⟨21, 16, .rw, true, 0, .chip⟩]⟩,
  /- ENV_SRC_W0 -/ ⟨0xE00140, 16, 1, [⟨31, 31, .rw, true, 1, .chip⟩, ⟨30, 28, .rw, true, 2, .chip⟩, ⟨27, 27, .rw, true, 0, .chip⟩, ⟨26, 26, .rw, true, 0, .chip⟩, ⟨25, 25, .rw, true, 0, .chip⟩, ⟨21, 16, .rw, true, 0, .chip⟩]⟩,
  /- ENV_SRC_W0 -/ ⟨0xE00150, 16, 1, [⟨31, 31, .rw, true, 1, .chip⟩, ⟨30, 28, .rw, true, 2, .chip⟩, ⟨27, 27, .rw, true, 0, .chip⟩, ⟨26, 26, .rw, true, 0, .chip⟩, ⟨25, 25, .rw, true, 0, .chip⟩, ⟨21, 16, .rw, true, 0, .chip⟩]⟩,
  /- ENV_SRC_W0 -/ ⟨0xE00160, 16, 1, [⟨31, 31, .rw, true, 1, .chip⟩, ⟨30, 28, .rw, true, 2, .chip⟩, ⟨27, 27, .rw, true, 0, .chip⟩, ⟨26, 26, .rw, true, 0, .chip⟩, ⟨25, 25, .rw, true, 0, .chip⟩, ⟨21, 16, .rw, true, 0, .chip⟩]⟩,
  /- ENV_SRC_W0 -/ ⟨0xE00170, 16, 1, [⟨31, 31, .rw, true, 1, .chip⟩, ⟨30, 28, .rw, true, 2, .chip⟩, ⟨27, 27, .rw, true, 0, .chip⟩, ⟨26, 26, .rw, true, 0, .chip⟩, ⟨25, 25, .rw, true, 0, .chip⟩, ⟨21, 16, .rw, true, 0, .chip⟩]⟩,
  /- ENV_SRC_W0 -/ ⟨0xE00180, 16, 1, [⟨31, 31, .rw, true, 1, .chip⟩, ⟨30, 28, .rw, true, 0, .chip⟩, ⟨27, 27, .rw, true, 0, .chip⟩, ⟨26, 26, .rw, true, 0, .chip⟩, ⟨25, 25, .rw, true, 0, .chip⟩, ⟨21, 16, .rw, true, 0, .chip⟩]⟩]

/-- ENV registers, continued. -/
def regsENV_1 : List RegD := [
  /- ENV_SRC_W0 -/ ⟨0xE00190, 16, 1, [⟨31, 31, .rw, true, 0, .chip⟩, ⟨30, 28, .rw, true, 3, .chip⟩, ⟨27, 27, .rw, true, 1, .chip⟩, ⟨26, 26, .rw, true, 0, .chip⟩, ⟨25, 25, .rw, true, 0, .chip⟩, ⟨21, 16, .rw, true, 0, .chip⟩]⟩,
  /- ENV_SRC_W0 -/ ⟨0xE001A0, 16, 1, [⟨31, 31, .rw, true, 0, .chip⟩, ⟨30, 28, .rw, true, 3, .chip⟩, ⟨27, 27, .rw, true, 1, .chip⟩, ⟨26, 26, .rw, true, 0, .chip⟩, ⟨25, 25, .rw, true, 0, .chip⟩, ⟨21, 16, .rw, true, 0, .chip⟩]⟩,
  /- ENV_SRC_W0 -/ ⟨0xE001B0, 16, 1, [⟨31, 31, .rw, true, 1, .chip⟩, ⟨30, 28, .rw, true, 1, .chip⟩, ⟨27, 27, .rw, true, 1, .chip⟩, ⟨26, 26, .rw, true, 0, .chip⟩, ⟨25, 25, .rw, true, 0, .chip⟩, ⟨21, 16, .rw, true, 0, .chip⟩]⟩,
  /- ENV_SRC_W0 -/ ⟨0xE001C0, 16, 1, [⟨31, 31, .rw, true, 1, .chip⟩, ⟨30, 28, .rw, true, 0, .chip⟩, ⟨27, 27, .rw, true, 0, .chip⟩, ⟨26, 26, .rw, true, 0, .chip⟩, ⟨25, 25, .rw, true, 0, .chip⟩, ⟨21, 16, .rw, true, 0, .chip⟩]⟩,
  /- ENV_SRC_W1 -/ ⟨0xE00104, 16, 1, [⟨31, 16, .rw, true, 825, .chip⟩, ⟨15, 0, .rw, true, 690, .chip⟩]⟩,
  /- ENV_SRC_W1 -/ ⟨0xE00114, 16, 1, [⟨31, 16, .rw, true, 1980, .chip⟩, ⟨15, 0, .rw, true, 1620, .chip⟩]⟩,
  /- ENV_SRC_W1 -/ ⟨0xE00124, 16, 1, [⟨31, 16, .rw, true, 500, .chip⟩, ⟨15, 0, .rw, true, 0, .chip⟩]⟩,
  /- ENV_SRC_W1 -/ ⟨0xE00134, 16, 1, [⟨31, 16, .rw, true, 0, .chip⟩, ⟨15, 0, .rw, true, 14, .chip⟩]⟩,
  /- ENV_SRC_W1 -/ ⟨0xE00144, 16, 1, [⟨31, 16, .rw, true, 480, .chip⟩, ⟨15, 0, .rw, true, 65336, .chip⟩]⟩,
  /- ENV_SRC_W1 -/ ⟨0xE00154, 16, 1, [⟨31, 16, .rw, true, 480, .chip⟩, ⟨15, 0, .rw, true, 65336, .chip⟩]⟩,
  /- ENV_SRC_W1 -/ ⟨0xE00164, 16, 1, [⟨31, 16, .rw, true, 480, .chip⟩, ⟨15, 0, .rw, true, 65336, .chip⟩]⟩,
  /- ENV_SRC_W1 -/ ⟨0xE00174, 16, 1, [⟨31, 16, .rw, true, 480, .chip⟩, ⟨15, 0, .rw, true, 65336, .chip⟩]⟩,
  /- ENV_SRC_W1 -/ ⟨0xE00184, 16, 1, [⟨31, 16, .rw, true, 0, .chip⟩, ⟨15, 0, .rw, true, 2150, .chip⟩]⟩,
  /- ENV_SRC_W1 -/ ⟨0xE00194, 16, 1, [⟨31, 16, .rw, true, 0, .chip⟩, ⟨15, 0, .rw, true, 0, .chip⟩]⟩]

/-- ENV registers, continued. -/
def regsENV_2 : List RegD := [
  /- ENV_SRC_W1 -/ ⟨0xE001A4, 16, 1, [⟨31, 16, .rw, true, 0, .chip⟩, ⟨15, 0, .rw, true, 0, .chip⟩]⟩,
  /- ENV_SRC_W1 -/ ⟨0xE001B4, 16, 1, [⟨31, 16, .rw, true, 0, .chip⟩, ⟨15, 0, .rw, true, 0, .chip⟩]⟩,
  /- ENV_SRC_W1 -/ ⟨0xE001C4, 16, 1, [⟨31, 16, .rw, true, 0, .chip⟩, ⟨15, 0, .rw, true, 0, .chip⟩]⟩,
  /- ENV_SRC_W2 -/ ⟨0xE00108, 16, 1, [⟨31, 16, .rw, true, 790, .chip⟩, ⟨15, 0, .rw, true, 720, .chip⟩]⟩,
  /- ENV_SRC_W2 -/ ⟨0xE00118, 16, 1, [⟨31, 16, .rw, true, 1910, .chip⟩, ⟨15, 0, .rw, true, 1690, .chip⟩]⟩,
  /- ENV_SRC_W2 -/ ⟨0xE00128, 16, 1, [⟨31, 16, .rw, true, 200, .chip⟩, ⟨15, 0, .rw, true, 0, .chip⟩]⟩,
  /- ENV_SRC_W2 -/ ⟨0xE00138, 16, 1, [⟨31, 16, .rw, true, 0, .chip⟩, ⟨15, 0, .rw, true, 0, .chip⟩]⟩,
  /- ENV_SRC_W2 -/ ⟨0xE00148, 16, 1, [⟨31, 16, .rw, true, 432, .chip⟩, ⟨15, 0, .rw, true, 65364, .chip⟩]⟩,
  /- ENV_SRC_W2 -/ ⟨0xE00158, 16, 1, [⟨31, 16, .rw, true, 432, .chip⟩, ⟨15, 0, .rw, true, 65364, .chip⟩]⟩,
  /- ENV_SRC_W2 -/ ⟨0xE00168, 16, 1, [⟨31, 16, .rw, true, 432, .chip⟩, ⟨15, 0, .rw, true, 65364, .chip⟩]⟩,
  /- ENV_SRC_W2 -/ ⟨0xE00178, 16, 1, [⟨31, 16, .rw, true, 432, .chip⟩, ⟨15, 0, .rw, true, 65364, .chip⟩]⟩,
  /- ENV_SRC_W2 -/ ⟨0xE00188, 16, 1, [⟨31, 16, .rw, true, 0, .chip⟩, ⟨15, 0, .rw, true, 2300, .chip⟩]⟩,
  /- ENV_SRC_W2 -/ ⟨0xE00198, 16, 1, [⟨31, 16, .rw, true, 0, .chip⟩, ⟨15, 0, .rw, true, 0, .chip⟩]⟩,
  /- ENV_SRC_W2 -/ ⟨0xE001A8, 16, 1, [⟨31, 16, .rw, true, 0, .chip⟩, ⟨15, 0, .rw, true, 0, .chip⟩]⟩]

/-- ENV registers, continued. -/
def regsENV_3 : List RegD := [
  /- ENV_SRC_W2 -/ ⟨0xE001B8, 16, 1, [⟨31, 16, .rw, true, 0, .chip⟩, ⟨15, 0, .rw, true, 0, .chip⟩]⟩,
  /- ENV_SRC_W2 -/ ⟨0xE001C8, 16, 1, [⟨31, 16, .rw, true, 0, .chip⟩, ⟨15, 0, .rw, true, 0, .chip⟩]⟩,
  /- ENV_SRC_W3 -/ ⟨0xE0010C, 16, 1, []⟩,
  /- ENV_SRC_W3 -/ ⟨0xE0011C, 16, 1, []⟩,
  /- ENV_SRC_W3 -/ ⟨0xE0012C, 16, 1, []⟩,
  /- ENV_SRC_W3 -/ ⟨0xE0013C, 16, 1, []⟩,
  /- ENV_SRC_W3 -/ ⟨0xE0014C, 16, 1, []⟩,
  /- ENV_SRC_W3 -/ ⟨0xE0015C, 16, 1, []⟩,
  /- ENV_SRC_W3 -/ ⟨0xE0016C, 16, 1, []⟩,
  /- ENV_SRC_W3 -/ ⟨0xE0017C, 16, 1, []⟩,
  /- ENV_SRC_W3 -/ ⟨0xE0018C, 16, 1, []⟩,
  /- ENV_SRC_W3 -/ ⟨0xE0019C, 16, 1, []⟩,
  /- ENV_SRC_W3 -/ ⟨0xE001AC, 16, 1, []⟩,
  /- ENV_SRC_W3 -/ ⟨0xE001BC, 16, 1, []⟩]

/-- ENV registers, continued. -/
def regsENV_4 : List RegD := [
  /- ENV_SRC_W3 -/ ⟨0xE001CC, 16, 1, []⟩,
  /- ENV_BAT_CFG -/ ⟨0xE00400, 4, 1, [⟨31, 31, .rw, true, 0, .battery⟩, ⟨30, 30, .rw, true, 0, .battery⟩, ⟨29, 29, .rw, true, 0, .battery⟩, ⟨28, 28, .rw, true, 0, .battery⟩, ⟨27, 27, .rw, true, 1, .battery⟩, ⟨26, 26, .rw, true, 1, .battery⟩, ⟨23, 16, .rw, true, 125, .battery⟩, ⟨15, 8, .rw, true, 211, .battery⟩, ⟨7, 0, .rw, true, 60, .battery⟩]⟩,
  /- ENV_BAT_CTL -/ ⟨0xE00404, 4, 1, [⟨20, 16, .ro, true, 0, .battery⟩, ⟨15, 0, .ro, true, 0, .battery⟩]⟩,
  /- ENV_BAT_SEC -/ ⟨0xE00408, 4, 1, [⟨31, 0, .ro, true, 0, .battery⟩]⟩,
  /- ENV_BAT_W0 -/ ⟨0xE00440, 8, 16, [⟨31, 31, .ro, true, 0, .battery⟩, ⟨30, 30, .ro, true, 0, .battery⟩, ⟨4, 0, .ro, true, 0, .battery⟩]⟩,
  /- ENV_BAT_W1 -/ ⟨0xE00444, 8, 16, [⟨31, 0, .ro, true, 0, .battery⟩]⟩]

/-- All ENV registers. -/
def regsENV : List RegD := regsENV_0 ++ regsENV_1 ++ regsENV_2 ++ regsENV_3 ++ regsENV_4

/-- FBK registers (spec/18_field_book_and_counters.md). -/
def regsFBK_0 : List RegD := [
  /- FBK_STATUS -/ ⟨0xF00000, 4, 1, [⟨31, 31, .ro, false, 0, .chip⟩, ⟨30, 30, .ro, false, 0, .chip⟩, ⟨29, 29, .ro, false, 0, .chip⟩, ⟨12, 0, .ro, false, 0, .chip⟩]⟩,
  /- FBK_SEC_OVF -/ ⟨0xF00004, 4, 1, [⟨31, 0, .ro, false, 0, .chip⟩]⟩,
  /- FBK_CFG -/ ⟨0xF00008, 4, 1, [⟨31, 31, .rw, true, 1, .chip⟩, ⟨30, 30, .rw, true, 1, .chip⟩]⟩,
  /- FBK_SMP_CFG -/ ⟨0xF00010, 4, 1, [⟨31, 31, .rw, true, 0, .chip⟩, ⟨30, 30, .rw, true, 0, .chip⟩, ⟨29, 29, .rw, true, 0, .chip⟩, ⟨28, 28, .w1s, true, 0, .chip⟩, ⟨27, 27, .rw, true, 1, .chip⟩, ⟨26, 23, .rw, true, 0, .chip⟩, ⟨22, 22, .rw, true, 0, .chip⟩, ⟨4, 0, .rw, true, 31, .chip⟩]⟩,
  /- FBK_SMP_LAT -/ ⟨0xF00014, 4, 1, [⟨31, 0, .rw, true, 0, .chip⟩]⟩,
  /- FBK_SMP_PORTS -/ ⟨0xF00018, 4, 2, [⟨31, 0, .rw, true, 0, .chip⟩]⟩,
  /- FBK_SMP_SEQ -/ ⟨0xF00020, 4, 1, [⟨31, 0, .ro, false, 0, .chip⟩]⟩,
  /- FBK_SMP_ONE -/ ⟨0xF00024, 4, 1, [⟨31, 31, .w1s, false, 0, .chip⟩, ⟨5, 0, .rw, false, 0, .chip⟩]⟩,
  /- FBK_SMP_RD -/ ⟨0xF00028, 4, 1, [⟨11, 0, .rw, false, 0, .chip⟩]⟩,
  /- FBK_SMP_WIN -/ ⟨0xF00040, 4, 8, [⟨31, 0, .ro, false, 0, .chip⟩]⟩,
  /- FBK_HSEL -/ ⟨0xF00100, 4, 1, [⟨31, 31, .rw, true, 1, .chip⟩, ⟨15, 14, .rw, true, 1, .chip⟩, ⟨13, 8, .rw, true, 0, .chip⟩, ⟨2, 0, .rw, true, 0, .chip⟩]⟩,
  /- FBK_HSEL -/ ⟨0xF00104, 4, 1, [⟨31, 31, .rw, true, 1, .chip⟩, ⟨15, 14, .rw, true, 1, .chip⟩, ⟨13, 8, .rw, true, 0, .chip⟩, ⟨2, 0, .rw, true, 1, .chip⟩]⟩,
  /- FBK_HSEL -/ ⟨0xF00108, 4, 1, [⟨31, 31, .rw, true, 1, .chip⟩, ⟨15, 14, .rw, true, 1, .chip⟩, ⟨13, 8, .rw, true, 0, .chip⟩, ⟨2, 0, .rw, true, 2, .chip⟩]⟩,
  /- FBK_HSEL -/ ⟨0xF0010C, 4, 1, [⟨31, 31, .rw, true, 1, .chip⟩, ⟨15, 14, .rw, true, 1, .chip⟩, ⟨13, 8, .rw, true, 0, .chip⟩, ⟨2, 0, .rw, true, 3, .chip⟩]⟩]

/-- FBK registers, continued. -/
def regsFBK_1 : List RegD := [
  /- FBK_HSEL -/ ⟨0xF00110, 4, 1, [⟨31, 31, .rw, true, 1, .chip⟩, ⟨15, 14, .rw, true, 1, .chip⟩, ⟨13, 8, .rw, true, 0, .chip⟩, ⟨2, 0, .rw, true, 4, .chip⟩]⟩,
  /- FBK_HSEL -/ ⟨0xF00114, 4, 1, [⟨31, 31, .rw, true, 1, .chip⟩, ⟨15, 14, .rw, true, 1, .chip⟩, ⟨13, 8, .rw, true, 0, .chip⟩, ⟨2, 0, .rw, true, 5, .chip⟩]⟩,
  /- FBK_HSEL -/ ⟨0xF00118, 4, 1, [⟨31, 31, .rw, true, 1, .chip⟩, ⟨15, 14, .rw, true, 1, .chip⟩, ⟨13, 8, .rw, true, 0, .chip⟩, ⟨2, 0, .rw, true, 6, .chip⟩]⟩,
  /- FBK_HSEL -/ ⟨0xF0011C, 4, 1, [⟨31, 31, .rw, true, 1, .chip⟩, ⟨15, 14, .rw, true, 1, .chip⟩, ⟨13, 8, .rw, true, 0, .chip⟩, ⟨2, 0, .rw, true, 7, .chip⟩]⟩,
  /- FBK_HSEL -/ ⟨0xF00120, 4, 1, [⟨31, 31, .rw, true, 1, .chip⟩, ⟨15, 14, .rw, true, 2, .chip⟩, ⟨13, 8, .rw, true, 0, .chip⟩, ⟨2, 0, .rw, true, 0, .chip⟩]⟩,
  /- FBK_HSEL -/ ⟨0xF00124, 4, 1, [⟨31, 31, .rw, true, 1, .chip⟩, ⟨15, 14, .rw, true, 2, .chip⟩, ⟨13, 8, .rw, true, 0, .chip⟩, ⟨2, 0, .rw, true, 1, .chip⟩]⟩,
  /- FBK_HSEL -/ ⟨0xF00128, 4, 1, [⟨31, 31, .rw, true, 1, .chip⟩, ⟨15, 14, .rw, true, 2, .chip⟩, ⟨13, 8, .rw, true, 0, .chip⟩, ⟨2, 0, .rw, true, 2, .chip⟩]⟩,
  /- FBK_HSEL -/ ⟨0xF0012C, 4, 1, [⟨31, 31, .rw, true, 1, .chip⟩, ⟨15, 14, .rw, true, 2, .chip⟩, ⟨13, 8, .rw, true, 0, .chip⟩, ⟨2, 0, .rw, true, 3, .chip⟩]⟩,
  /- FBK_HSEL -/ ⟨0xF00130, 4, 1, [⟨31, 31, .rw, true, 1, .chip⟩, ⟨15, 14, .rw, true, 2, .chip⟩, ⟨13, 8, .rw, true, 0, .chip⟩, ⟨2, 0, .rw, true, 4, .chip⟩]⟩,
  /- FBK_HSEL -/ ⟨0xF00134, 4, 1, [⟨31, 31, .rw, true, 1, .chip⟩, ⟨15, 14, .rw, true, 2, .chip⟩, ⟨13, 8, .rw, true, 0, .chip⟩, ⟨2, 0, .rw, true, 5, .chip⟩]⟩,
  /- FBK_HSEL -/ ⟨0xF00138, 4, 1, [⟨31, 31, .rw, true, 1, .chip⟩, ⟨15, 14, .rw, true, 2, .chip⟩, ⟨13, 8, .rw, true, 0, .chip⟩, ⟨2, 0, .rw, true, 6, .chip⟩]⟩,
  /- FBK_HSEL -/ ⟨0xF0013C, 4, 1, [⟨31, 31, .rw, true, 1, .chip⟩, ⟨15, 14, .rw, true, 2, .chip⟩, ⟨13, 8, .rw, true, 0, .chip⟩, ⟨2, 0, .rw, true, 7, .chip⟩]⟩,
  /- FBK_HSEL -/ ⟨0xF00140, 4, 1, [⟨31, 31, .rw, true, 0, .chip⟩, ⟨15, 14, .rw, true, 0, .chip⟩, ⟨13, 8, .rw, true, 0, .chip⟩, ⟨2, 0, .rw, true, 0, .chip⟩]⟩,
  /- FBK_HSEL -/ ⟨0xF00144, 4, 1, [⟨31, 31, .rw, true, 0, .chip⟩, ⟨15, 14, .rw, true, 0, .chip⟩, ⟨13, 8, .rw, true, 0, .chip⟩, ⟨2, 0, .rw, true, 0, .chip⟩]⟩]

/-- FBK registers, continued. -/
def regsFBK_2 : List RegD := [
  /- FBK_HSEL -/ ⟨0xF00148, 4, 1, [⟨31, 31, .rw, true, 0, .chip⟩, ⟨15, 14, .rw, true, 0, .chip⟩, ⟨13, 8, .rw, true, 0, .chip⟩, ⟨2, 0, .rw, true, 0, .chip⟩]⟩,
  /- FBK_HSEL -/ ⟨0xF0014C, 4, 1, [⟨31, 31, .rw, true, 0, .chip⟩, ⟨15, 14, .rw, true, 0, .chip⟩, ⟨13, 8, .rw, true, 0, .chip⟩, ⟨2, 0, .rw, true, 0, .chip⟩]⟩,
  /- FBK_HSEL -/ ⟨0xF00150, 4, 1, [⟨31, 31, .rw, true, 0, .chip⟩, ⟨15, 14, .rw, true, 0, .chip⟩, ⟨13, 8, .rw, true, 0, .chip⟩, ⟨2, 0, .rw, true, 0, .chip⟩]⟩,
  /- FBK_HSEL -/ ⟨0xF00154, 4, 1, [⟨31, 31, .rw, true, 0, .chip⟩, ⟨15, 14, .rw, true, 0, .chip⟩, ⟨13, 8, .rw, true, 0, .chip⟩, ⟨2, 0, .rw, true, 0, .chip⟩]⟩,
  /- FBK_HSEL -/ ⟨0xF00158, 4, 1, [⟨31, 31, .rw, true, 0, .chip⟩, ⟨15, 14, .rw, true, 0, .chip⟩, ⟨13, 8, .rw, true, 0, .chip⟩, ⟨2, 0, .rw, true, 0, .chip⟩]⟩,
  /- FBK_HSEL -/ ⟨0xF0015C, 4, 1, [⟨31, 31, .rw, true, 0, .chip⟩, ⟨15, 14, .rw, true, 0, .chip⟩, ⟨13, 8, .rw, true, 0, .chip⟩, ⟨2, 0, .rw, true, 0, .chip⟩]⟩,
  /- FBK_HSEL -/ ⟨0xF00160, 4, 1, [⟨31, 31, .rw, true, 0, .chip⟩, ⟨15, 14, .rw, true, 0, .chip⟩, ⟨13, 8, .rw, true, 0, .chip⟩, ⟨2, 0, .rw, true, 0, .chip⟩]⟩,
  /- FBK_HSEL -/ ⟨0xF00164, 4, 1, [⟨31, 31, .rw, true, 0, .chip⟩, ⟨15, 14, .rw, true, 0, .chip⟩, ⟨13, 8, .rw, true, 0, .chip⟩, ⟨2, 0, .rw, true, 0, .chip⟩]⟩,
  /- FBK_HSEL -/ ⟨0xF00168, 4, 1, [⟨31, 31, .rw, true, 0, .chip⟩, ⟨15, 14, .rw, true, 0, .chip⟩, ⟨13, 8, .rw, true, 0, .chip⟩, ⟨2, 0, .rw, true, 0, .chip⟩]⟩,
  /- FBK_HSEL -/ ⟨0xF0016C, 4, 1, [⟨31, 31, .rw, true, 0, .chip⟩, ⟨15, 14, .rw, true, 0, .chip⟩, ⟨13, 8, .rw, true, 0, .chip⟩, ⟨2, 0, .rw, true, 0, .chip⟩]⟩,
  /- FBK_HSEL -/ ⟨0xF00170, 4, 1, [⟨31, 31, .rw, true, 0, .chip⟩, ⟨15, 14, .rw, true, 0, .chip⟩, ⟨13, 8, .rw, true, 0, .chip⟩, ⟨2, 0, .rw, true, 0, .chip⟩]⟩,
  /- FBK_HSEL -/ ⟨0xF00174, 4, 1, [⟨31, 31, .rw, true, 0, .chip⟩, ⟨15, 14, .rw, true, 0, .chip⟩, ⟨13, 8, .rw, true, 0, .chip⟩, ⟨2, 0, .rw, true, 0, .chip⟩]⟩,
  /- FBK_HSEL -/ ⟨0xF00178, 4, 1, [⟨31, 31, .rw, true, 0, .chip⟩, ⟨15, 14, .rw, true, 0, .chip⟩, ⟨13, 8, .rw, true, 0, .chip⟩, ⟨2, 0, .rw, true, 0, .chip⟩]⟩,
  /- FBK_HSEL -/ ⟨0xF0017C, 4, 1, [⟨31, 31, .rw, true, 0, .chip⟩, ⟨15, 14, .rw, true, 0, .chip⟩, ⟨13, 8, .rw, true, 0, .chip⟩, ⟨2, 0, .rw, true, 0, .chip⟩]⟩]

/-- FBK registers, continued. -/
def regsFBK_3 : List RegD := [
  /- FBK_BW_CFG -/ ⟨0xF00200, 4, 1, [⟨23, 0, .rw, true, 1000000, .chip⟩]⟩,
  /- FBK_BW -/ ⟨0xF01000, 4, 512, [⟨31, 0, .ro, false, 0, .chip⟩]⟩]

/-- All FBK registers. -/
def regsFBK : List RegD := regsFBK_0 ++ regsFBK_1 ++ regsFBK_2 ++ regsFBK_3

/-- BAR2 ring registers (spec/13_host_link.md). -/
def regsR2_0 : List RegD := [
  /- R2_RING_CTL -/ ⟨0x10000000, 4096, 64, [⟨31, 31, .rw, false, 0, .chip⟩, ⟨30, 30, .rw, false, 0, .chip⟩]⟩,
  /- R2_RING_STATUS -/ ⟨0x10000004, 4096, 64, [⟨31, 31, .rw1c, false, 0, .chip⟩, ⟨30, 30, .rw1c, false, 0, .chip⟩, ⟨27, 24, .ro, false, 0, .chip⟩, ⟨20, 16, .ro, false, 0, .chip⟩]⟩,
  /- R2_CMD_BASE_LO -/ ⟨0x10000008, 4096, 64, [⟨31, 12, .rw, false, 0, .chip⟩]⟩,
  /- R2_CMD_BASE_HI -/ ⟨0x1000000C, 4096, 64, [⟨31, 0, .rw, false, 0, .chip⟩]⟩,
  /- R2_CMD_SIZE -/ ⟨0x10000010, 4096, 64, [⟨12, 0, .rw, false, 0, .chip⟩]⟩,
  /- R2_CMD_TAIL -/ ⟨0x10000014, 4096, 64, [⟨12, 0, .rw, false, 0, .chip⟩]⟩,
  /- R2_CMD_HEAD -/ ⟨0x10000018, 4096, 64, [⟨12, 0, .ro, false, 0, .chip⟩]⟩,
  /- R2_MSG_BASE_LO -/ ⟨0x10000020, 4096, 64, [⟨31, 12, .rw, false, 0, .chip⟩]⟩,
  /- R2_MSG_BASE_HI -/ ⟨0x10000024, 4096, 64, [⟨31, 0, .rw, false, 0, .chip⟩]⟩,
  /- R2_MSG_SIZE -/ ⟨0x10000028, 4096, 64, [⟨12, 0, .rw, false, 0, .chip⟩]⟩,
  /- R2_MSG_HEAD -/ ⟨0x1000002C, 4096, 64, [⟨12, 0, .rw, false, 0, .chip⟩]⟩,
  /- R2_MSG_TAIL -/ ⟨0x10000030, 4096, 64, [⟨12, 0, .ro, false, 0, .chip⟩]⟩,
  /- R2_MSG_LOST -/ ⟨0x10000034, 4096, 64, [⟨31, 0, .ro, false, 0, .chip⟩]⟩,
  /- R2_COALESCE -/ ⟨0x10000038, 4096, 64, [⟨23, 16, .rw, false, 0, .chip⟩, ⟨7, 0, .rw, false, 0, .chip⟩]⟩]

/-- R2 registers, continued. -/
def regsR2_1 : List RegD := [
  /- R2_EVT_MASK -/ ⟨0x10100000, 4, 2048, [⟨31, 0, .rw, false, 0, .chip⟩]⟩]

/-- All R2 registers. -/
def regsR2 : List RegD := regsR2_0 ++ regsR2_1

/-- The registers of the block that holds key `a` (R12). -/
def regsOf (a : Nat) : List RegD :=
  match a / 0x100000 with
  | 0 => regsGLB
  | 1 => regsSRD
  | 2 => regsPRT
  | 3 => regsTRV
  | 4 => regsPLT
  | 5 => regsSEC
  | 6 => regsANV
  | 7 => regsBLW
  | 8 => regsGAT
  | 9 => regsDAT
  | 10 => regsHRT
  | 11 => regsTMP
  | 12 => regsECC
  | 13 => regsTIE
  | 14 => regsENV
  | 15 => regsFBK
  | 256 => regsR2
  | 257 => regsR2
  | _ => []

/-- The description of the register at key `a`, if the spec gives one there. -/
def regDesc (a : Nat) : Option RegD := (regsOf a).find? (·.covers a)

/-- The reset value of the register at key `a` (R18); a word no table describes reads zero (R16). -/
def rstOf (a : Nat) : Word :=
  match regDesc a with
  | some d => d.resetWord
  | none => 0

/-! The fields, by name: `F.BLOCK_REG_FIELD`, with the register's index where there are several copies. -/
namespace F

def GLB_BOOT_STAGE : Fld := ⟨0x200, 28, 4⟩
def GLB_BOOT_FALLBACK : Fld := ⟨0x200, 27, 1⟩
def GLB_BOOT_FW_SLOT : Fld := ⟨0x200, 26, 1⟩
def GLB_BOOT_CFG_SLOT : Fld := ⟨0x200, 25, 1⟩
def GLB_BOOT_TRIAL : Fld := ⟨0x200, 24, 1⟩
def GLB_BOOT_DEBUG : Fld := ⟨0x200, 22, 2⟩
def GLB_BOOT_FW_SVN : Fld := ⟨0x200, 8, 8⟩
def GLB_BOOT_SVN_FLOOR : Fld := ⟨0x200, 0, 8⟩
def GLB_FW_MEASURE (i : Nat) : Fld := ⟨0x210 + 4 * i, 0, 32⟩
def GLB_CFG_MEASURE (i : Nat) : Fld := ⟨0x240 + 4 * i, 0, 32⟩
def GLB_COMMIT_STATE : Fld := ⟨0x270, 29, 3⟩
def GLB_COMMIT_LAST_CODE : Fld := ⟨0x270, 21, 8⟩
def GLB_COMMIT_PRESTAGE_MS : Fld := ⟨0x270, 0, 16⟩
def GLB_COMMIT_AT_LO : Fld := ⟨0x274, 0, 32⟩
def GLB_COMMIT_AT_HI : Fld := ⟨0x278, 0, 32⟩
def GLB_IMAGE_SEQ : Fld := ⟨0x27C, 0, 32⟩
def GLB_SESSION_IDLE_S : Fld := ⟨0x280, 16, 16⟩
def GLB_SESSION_OPEN : Fld := ⟨0x280, 0, 7⟩
def GLB_FW_CONFIRM_S : Fld := ⟨0x284, 16, 16⟩
def GLB_RECOVERY_CTL_ERASE : Fld := ⟨0x300, 31, 1⟩
def GLB_RECOVERY_CTL_WRITE : Fld := ⟨0x300, 30, 1⟩
def GLB_RECOVERY_CTL_BOOT : Fld := ⟨0x300, 29, 1⟩
def GLB_RECOVERY_CTL_BUSY : Fld := ⟨0x300, 28, 1⟩
def GLB_RECOVERY_CTL_STATUS : Fld := ⟨0x300, 25, 3⟩
def GLB_RECOVERY_OFS : Fld := ⟨0x304, 0, 32⟩
def GLB_RECOVERY_LEN : Fld := ⟨0x308, 0, 13⟩
def GLB_RECOVERY_DATA (i : Nat) : Fld := ⟨0x4000 + 4 * i, 0, 32⟩
def GLB_PARCEL_W0_STATE (i : Nat) : Fld := ⟨0x1000 + 16 * i, 29, 3⟩
def GLB_PARCEL_W0_HARD (i : Nat) : Fld := ⟨0x1000 + 16 * i, 28, 1⟩
def GLB_PARCEL_W0_SAVED (i : Nat) : Fld := ⟨0x1000 + 16 * i, 27, 1⟩
def GLB_PARCEL_W0_RESTORED (i : Nat) : Fld := ⟨0x1000 + 16 * i, 26, 1⟩
def GLB_PARCEL_W0_HEATS (i : Nat) : Fld := ⟨0x1000 + 16 * i, 0, 14⟩
def GLB_PARCEL_W1_TENANT (i : Nat) : Fld := ⟨0x1004 + 16 * i, 0, 32⟩
def GLB_PARCEL_W2_EPOCH (i : Nat) : Fld := ⟨0x1008 + 16 * i, 0, 32⟩
def GLB_PARCEL_W3_XSEQ (i : Nat) : Fld := ⟨0x100C + 16 * i, 0, 32⟩
def GLB_PARCEL_LIM_W0_SC_MAX (i : Nat) : Fld := ⟨0x1400 + 8 * i, 0, 17⟩
def GLB_PARCEL_LIM_W1_SLOT_MAX (i : Nat) : Fld := ⟨0x1404 + 8 * i, 16, 13⟩
def GLB_PARCEL_LIM_W1_PIN_MAX (i : Nat) : Fld := ⟨0x1404 + 8 * i, 0, 13⟩
def GLB_PARCEL_USE_W0_SCS (i : Nat) : Fld := ⟨0x1800 + 8 * i, 0, 17⟩
def GLB_PARCEL_USE_W1_SLOTS (i : Nat) : Fld := ⟨0x1804 + 8 * i, 16, 13⟩
def GLB_PARCEL_USE_W1_PINNED (i : Nat) : Fld := ⟨0x1804 + 8 * i, 0, 13⟩
def GLB_PARCEL_CTL_GUARD_LOG2 : Fld := ⟨0x1C00, 16, 6⟩
def GLB_PARCEL_CTL_FREEZE_MS : Fld := ⟨0x1C00, 0, 16⟩
def GLB_ID : Fld := ⟨0x0, 0, 32⟩
def GLB_REV_SILICON : Fld := ⟨0x4, 0, 8⟩
def GLB_RST_CHIP : Fld := ⟨0x10, 31, 1⟩
def GLB_RST_CAUSE_LCS : Fld := ⟨0x14, 4, 1⟩
def GLB_RST_CAUSE_FAILOVER : Fld := ⟨0x14, 3, 1⟩
def GLB_RST_CAUSE_WATCHDOG : Fld := ⟨0x14, 2, 1⟩
def GLB_RST_CAUSE_CHIP_CMD : Fld := ⟨0x14, 1, 1⟩
def GLB_RST_CAUSE_POWER_ON : Fld := ⟨0x14, 0, 1⟩
def GLB_LIFE_W0_POWER_CYCLES : Fld := ⟨0x18, 0, 32⟩
def GLB_LIFE_W1_BOOTS : Fld := ⟨0x1C, 0, 32⟩
def GLB_OPEN_LO_OPEN : Fld := ⟨0x20, 0, 32⟩
def GLB_OPEN_HI_OPEN : Fld := ⟨0x24, 0, 32⟩
def GLB_OPEN_CFG_KEYLESS : Fld := ⟨0x28, 0, 32⟩
def SRD_SWAP_W0_TX_MAP (i : Nat) : Fld := ⟨0x100100 + 8 * i, 0, 24⟩
def SRD_SWAP_W1_RX_MAP (i : Nat) : Fld := ⟨0x100104 + 8 * i, 0, 24⟩
def SRD_LANE_W0_RATE (i : Nat) : Fld := ⟨0x101000 + 64 * i, 30, 2⟩
def SRD_LANE_W0_CHAN (i : Nat) : Fld := ⟨0x101000 + 64 * i, 29, 1⟩
def SRD_LANE_W0_TX_POL (i : Nat) : Fld := ⟨0x101000 + 64 * i, 28, 1⟩
def SRD_LANE_W0_RX_POL (i : Nat) : Fld := ⟨0x101000 + 64 * i, 27, 1⟩
def SRD_LANE_W1_TX_SLEEP (i : Nat) : Fld := ⟨0x101004 + 64 * i, 31, 1⟩
def SRD_LANE_W1_RX_SLEEP (i : Nat) : Fld := ⟨0x101004 + 64 * i, 30, 1⟩
def SRD_LANE_W1_LOOP (i : Nat) : Fld := ⟨0x101004 + 64 * i, 28, 2⟩
def SRD_LANE_W1_LOOP_TX (i : Nat) : Fld := ⟨0x101004 + 64 * i, 27, 1⟩
def SRD_LANE_W2_TX_AWAKE (i : Nat) : Fld := ⟨0x101008 + 64 * i, 31, 1⟩
def SRD_LANE_W2_RX_AWAKE (i : Nat) : Fld := ⟨0x101008 + 64 * i, 30, 1⟩
def SRD_LANE_W2_SIGNAL (i : Nat) : Fld := ⟨0x101008 + 64 * i, 29, 1⟩
def SRD_LANE_W2_CDR_LOCK (i : Nat) : Fld := ⟨0x101008 + 64 * i, 28, 1⟩
def SRD_LANE_W2_TRAINED (i : Nat) : Fld := ⟨0x101008 + 64 * i, 27, 1⟩
def SRD_LANE_W2_SQUELCH (i : Nat) : Fld := ⟨0x101008 + 64 * i, 26, 1⟩
def SRD_LANE_W3_GEN_EN (i : Nat) : Fld := ⟨0x10100C + 64 * i, 31, 1⟩
def SRD_LANE_W3_CHK_EN (i : Nat) : Fld := ⟨0x10100C + 64 * i, 30, 1⟩
def SRD_LANE_W3_PATTERN (i : Nat) : Fld := ⟨0x10100C + 64 * i, 27, 3⟩
def SRD_LANE_W3_INJ (i : Nat) : Fld := ⟨0x10100C + 64 * i, 26, 1⟩
def SRD_LANE_W3_INJ_RATE (i : Nat) : Fld := ⟨0x10100C + 64 * i, 21, 5⟩
def SRD_LANE_W3_CLR (i : Nat) : Fld := ⟨0x10100C + 64 * i, 20, 1⟩
def SRD_LANE_W4_LOCK (i : Nat) : Fld := ⟨0x101010 + 64 * i, 31, 1⟩
def SRD_LANE_W4_LOST (i : Nat) : Fld := ⟨0x101010 + 64 * i, 30, 1⟩
def SRD_LANE_W4_QUAL (i : Nat) : Fld := ⟨0x101010 + 64 * i, 0, 8⟩
def SRD_LANE_W5_ERR (i : Nat) : Fld := ⟨0x101014 + 64 * i, 0, 32⟩
def SRD_LANE_W6_BITS (i : Nat) : Fld := ⟨0x101018 + 64 * i, 0, 32⟩
def SRD_LANE_W7_BITS (i : Nat) : Fld := ⟨0x10101C + 64 * i, 0, 32⟩
def SRD_LANE_W8_PRE2 (i : Nat) : Fld := ⟨0x101020 + 64 * i, 24, 6⟩
def SRD_LANE_W8_PRE1 (i : Nat) : Fld := ⟨0x101020 + 64 * i, 18, 6⟩
def SRD_LANE_W8_MAIN (i : Nat) : Fld := ⟨0x101020 + 64 * i, 12, 6⟩
def SRD_LANE_W8_POST1 (i : Nat) : Fld := ⟨0x101020 + 64 * i, 6, 6⟩
def PRT_PORT_W0_ACTIVE (i : Nat) : Fld := ⟨0x200100 + 16 * i, 31, 1⟩
def PRT_PORT_W0_SPEED (i : Nat) : Fld := ⟨0x200100 + 16 * i, 28, 3⟩
def PRT_PORT_W0_WIDTH (i : Nat) : Fld := ⟨0x200100 + 16 * i, 26, 2⟩
def PRT_PORT_W0_FEC (i : Nat) : Fld := ⟨0x200100 + 16 * i, 24, 2⟩
def PRT_PORT_W0_TEST_OK (i : Nat) : Fld := ⟨0x200100 + 16 * i, 23, 1⟩
def PRT_PORT_W0_MAX_FRAME (i : Nat) : Fld := ⟨0x200100 + 16 * i, 0, 14⟩
def PRT_PORT_W1_RESTART (i : Nat) : Fld := ⟨0x200104 + 16 * i, 31, 1⟩
def PRT_PORT_W2_STATE (i : Nat) : Fld := ⟨0x200108 + 16 * i, 29, 3⟩
def PRT_PORT_W2_TX_AVAIL (i : Nat) : Fld := ⟨0x200108 + 16 * i, 28, 1⟩
def PRT_PORT_W2_OPEN (i : Nat) : Fld := ⟨0x200108 + 16 * i, 27, 1⟩
def PRT_PORT_W2_LOCAL_FAULT (i : Nat) : Fld := ⟨0x200108 + 16 * i, 26, 1⟩
def PRT_PORT_W2_REMOTE_FAULT (i : Nat) : Fld := ⟨0x200108 + 16 * i, 25, 1⟩
def PRT_PORT_W2_DEGRADED (i : Nat) : Fld := ⟨0x200108 + 16 * i, 24, 1⟩
def PRT_PORT_W2_UNIDIR (i : Nat) : Fld := ⟨0x200108 + 16 * i, 23, 1⟩
def PRT_PORT_W3_DEG_SYM (i : Nat) : Fld := ⟨0x20010C + 16 * i, 0, 16⟩
def PRT_MAP_VALID (i : Nat) : Fld := ⟨0x200800 + 4 * i, 31, 1⟩
def PRT_MAP_LINE (i : Nat) : Fld := ⟨0x200800 + 4 * i, 0, 6⟩
def TRV_STATUS_POISONED : Fld := ⟨0x300000, 0, 15⟩
def TRV_GEN_SWAP : Fld := ⟨0x300004, 1, 1⟩
def TRV_GEN_ACTIVE : Fld := ⟨0x300004, 0, 1⟩
def TRV_TPID_EXTRA : Fld := ⟨0x300008, 0, 16⟩
def TRV_POISON_VALID : Fld := ⟨0x30000C, 31, 1⟩
def TRV_POISON_INDEX : Fld := ⟨0x30000C, 0, 14⟩
def TRV_RULE_CMD_BUSY : Fld := ⟨0x300010, 31, 1⟩
def TRV_RULE_CMD_OP : Fld := ⟨0x300010, 16, 3⟩
def TRV_RULE_CMD_INDEX : Fld := ⟨0x300010, 0, 14⟩
def TRV_RULE_STAT_POISON : Fld := ⟨0x300014, 2, 1⟩
def TRV_RULE_STAT_OVERRUN : Fld := ⟨0x300014, 1, 1⟩
def TRV_RULE_STAT_ERR : Fld := ⟨0x300014, 0, 1⟩
def TRV_RULE_DATA (i : Nat) : Fld := ⟨0x300040 + 4 * i, 0, 32⟩
def TRV_RANGE_COUNT (i : Nat) : Fld := ⟨0x300100 + 4 * i, 16, 15⟩
def TRV_RANGE_BASE (i : Nat) : Fld := ⟨0x300100 + 4 * i, 0, 14⟩
def TRV_PARCEL_CFG_DEF_SC_VALID (i : Nat) : Fld := ⟨0x300200 + 4 * i, 3, 1⟩
def TRV_PARCEL_CFG_FLOOD_SC_VALID (i : Nat) : Fld := ⟨0x300200 + 4 * i, 2, 1⟩
def TRV_PARCEL_CFG_UNKNOWN_UC (i : Nat) : Fld := ⟨0x300200 + 4 * i, 1, 1⟩
def TRV_PARCEL_CFG_DEFAULT_ACTION (i : Nat) : Fld := ⟨0x300200 + 4 * i, 0, 1⟩
def TRV_PARCEL_SC_FLOOD_SC (i : Nat) : Fld := ⟨0x300300 + 4 * i, 16, 16⟩
def TRV_PARCEL_SC_DEFAULT_SC (i : Nat) : Fld := ⟨0x300300 + 4 * i, 0, 16⟩
def TRV_PORT_CFG_PARCEL_MODE (i : Nat) : Fld := ⟨0x300400 + 4 * i, 31, 1⟩
def TRV_PORT_CFG_RELEASE (i : Nat) : Fld := ⟨0x300400 + 4 * i, 30, 1⟩
def TRV_PORT_CFG_PARCEL (i : Nat) : Fld := ⟨0x300400 + 4 * i, 0, 6⟩
def TRV_PCP_MAP_CLASS_PCP (i : Nat) : Fld := ⟨0x300500 + 4 * i, 0, 24⟩
def TRV_BYP_CAP_W0_RATE_MBPS (i : Nat) : Fld := ⟨0x300600 + 8 * i, 0, 20⟩
def TRV_BYP_CAP_W1_BURST_64B (i : Nat) : Fld := ⟨0x300604 + 8 * i, 0, 12⟩
def TRV_VMAP_VALID (i : Nat) : Fld := ⟨0x301000 + 4 * i, 6, 1⟩
def TRV_VMAP_PARCEL (i : Nat) : Fld := ⟨0x301000 + 4 * i, 0, 6⟩
def PLT_OCC_OCCUPANCY : Fld := ⟨0x400000, 0, 19⟩
def PLT_STATUS_STASH_USED : Fld := ⟨0x400004, 3, 7⟩
def PLT_STATUS_REBUILD_STALLED : Fld := ⟨0x400004, 2, 1⟩
def PLT_STATUS_REBUILD_ACTIVE : Fld := ⟨0x400004, 1, 1⟩
def PLT_STATUS_SEED_GEN : Fld := ⟨0x400004, 0, 1⟩
def PLT_SEED_NEXT0 : Fld := ⟨0x400008, 0, 32⟩
def PLT_SEED_NEXT1 : Fld := ⟨0x40000C, 0, 32⟩
def PLT_REBUILD_START : Fld := ⟨0x400010, 0, 1⟩
def PLT_AGE_PERIOD_S : Fld := ⟨0x400014, 16, 16⟩
def PLT_AGE_EN : Fld := ⟨0x400014, 0, 1⟩
def PLT_CMD_BUSY : Fld := ⟨0x400020, 31, 1⟩
def PLT_CMD_STATUS : Fld := ⟨0x400020, 28, 3⟩
def PLT_CMD_OP : Fld := ⟨0x400020, 24, 4⟩
def PLT_CMD_BANK : Fld := ⟨0x400020, 18, 2⟩
def PLT_CMD_BUCKET : Fld := ⟨0x400020, 4, 14⟩
def PLT_CMD_WAY : Fld := ⟨0x400020, 2, 2⟩
def PLT_FLUSH_STATIC : Fld := ⟨0x400024, 31, 1⟩
def PLT_FLUSH_MODE : Fld := ⟨0x400024, 28, 3⟩
def PLT_FLUSH_PARCEL : Fld := ⟨0x400024, 22, 6⟩
def PLT_FLUSH_PORT : Fld := ⟨0x400024, 16, 6⟩
def PLT_FLUSH_SC : Fld := ⟨0x400024, 0, 16⟩
def PLT_STASH_CFG_AUTO_THRESH : Fld := ⟨0x400028, 0, 7⟩
def PLT_DATA (i : Nat) : Fld := ⟨0x400030 + 4 * i, 0, 32⟩
def PLT_PERR_VALID : Fld := ⟨0x400040, 31, 1⟩
def PLT_PERR_STASH : Fld := ⟨0x400040, 30, 1⟩
def PLT_PERR_BANK : Fld := ⟨0x400040, 18, 2⟩
def PLT_PERR_BUCKET : Fld := ⟨0x400040, 4, 14⟩
def PLT_PERR_WAY : Fld := ⟨0x400040, 2, 2⟩
def PLT_PARCEL_CFG_LEARN_EN (i : Nat) : Fld := ⟨0x400100 + 4 * i, 31, 1⟩
def PLT_PARCEL_CFG_OVER_LIMIT (i : Nat) : Fld := ⟨0x400100 + 4 * i, 30, 1⟩
def PLT_PARCEL_CFG_IVL (i : Nat) : Fld := ⟨0x400100 + 4 * i, 29, 1⟩
def PLT_PARCEL_CFG_QUOTA (i : Nat) : Fld := ⟨0x400100 + 4 * i, 0, 19⟩
def PLT_PARCEL_OCC_COUNT (i : Nat) : Fld := ⟨0x400200 + 4 * i, 0, 19⟩
def PLT_PORT_LIMIT (i : Nat) : Fld := ⟨0x400380 + 4 * i, 0, 19⟩
def PLT_PORT_OCC_COUNT (i : Nat) : Fld := ⟨0x400480 + 4 * i, 0, 19⟩
def SEC_STATUS_MISS_DEPTH : Fld := ⟨0x500000, 20, 11⟩
def SEC_STATUS_RETIRE_PEND : Fld := ⟨0x500000, 11, 9⟩
def SEC_STATUS_STATIC_SAS : Fld := ⟨0x500000, 2, 9⟩
def SEC_STATUS_DDR_CTX : Fld := ⟨0x500000, 1, 1⟩
def SEC_CFG_ALLOW_UNSYNC : Fld := ⟨0x500004, 0, 1⟩
def SEC_CMD_BUSY : Fld := ⟨0x500008, 31, 1⟩
def SEC_CMD_STATUS : Fld := ⟨0x500008, 27, 4⟩
def SEC_CMD_OP : Fld := ⟨0x500008, 20, 4⟩
def SEC_CMD_INDEX : Fld := ⟨0x500008, 0, 18⟩
def SEC_HANDOFF : Fld := ⟨0x50000C, 0, 16⟩
def SEC_PN_SOFT32_SOFT : Fld := ⟨0x500010, 0, 32⟩
def SEC_PN_SOFT64_LO_SOFT : Fld := ⟨0x500014, 0, 32⟩
def SEC_PN_SOFT64_HI_SOFT : Fld := ⟨0x500018, 0, 32⟩
def SEC_PIN_PINNED_SCS : Fld := ⟨0x50001C, 0, 13⟩
def SEC_LPORT_IMPLIED_VALID (i : Nat) : Fld := ⟨0x500100 + 4 * i, 31, 1⟩
def SEC_LPORT_IMPLIED_RXSC (i : Nat) : Fld := ⟨0x500100 + 4 * i, 0, 16⟩
def SEC_DATA (i : Nat) : Fld := ⟨0x500200 + 4 * i, 0, 32⟩
def SEC_REL_STATUS_SUSP : Fld := ⟨0x500280, 0, 32⟩
def SEC_REL_LAST_VALID : Fld := ⟨0x500284, 31, 1⟩
def SEC_REL_LAST_PORT : Fld := ⟨0x500284, 18, 6⟩
def SEC_REL_LAST_SA : Fld := ⟨0x500284, 0, 18⟩
def SEC_REL_PORT_STOMP_MAX (i : Nat) : Fld := ⟨0x500300 + 4 * i, 24, 8⟩
def SEC_REL_PORT_RESUME (i : Nat) : Fld := ⟨0x500300 + 4 * i, 16, 1⟩
def SEC_REL_PORT_QUAR_MS (i : Nat) : Fld := ⟨0x500300 + 4 * i, 0, 16⟩
def ANV_STATUS_AWAKE : Fld := ⟨0x600000, 8, 6⟩
def ANV_STATUS_IN_SVC : Fld := ⟨0x600000, 0, 6⟩
def ANV_HEAT_USE_HWM_CLR : Fld := ⟨0x600004, 31, 1⟩
def ANV_HEAT_USE_HWM : Fld := ⟨0x600004, 16, 14⟩
def ANV_HEAT_USE_IN_USE : Fld := ⟨0x600004, 0, 14⟩
def ANV_HEAT_RSV_RESERVE : Fld := ⟨0x600008, 0, 13⟩
def ANV_XRES_HEADROOM : Fld := ⟨0x60000C, 8, 8⟩
def ANV_XRES_COUNT : Fld := ⟨0x60000C, 0, 4⟩
def ANV_PLACE_GMIN : Fld := ⟨0x600010, 0, 8⟩
def ANV_PWR_GATE_EN : Fld := ⟨0x600014, 31, 1⟩
def ANV_PWR_MIN_AWAKE : Fld := ⟨0x600014, 16, 6⟩
def ANV_PWR_WAKE_PCT : Fld := ⟨0x600014, 8, 8⟩
def ANV_PWR_IDLE_US : Fld := ⟨0x600014, 0, 8⟩
def ANV_KAT_EN : Fld := ⟨0x600018, 31, 1⟩
def ANV_KAT_PERIOD_US : Fld := ⟨0x600018, 0, 16⟩
def ANV_FAULT_VALID : Fld := ⟨0x60001C, 31, 1⟩
def ANV_FAULT_CAUSE : Fld := ⟨0x60001C, 8, 3⟩
def ANV_FAULT_ANVIL : Fld := ⟨0x60001C, 0, 6⟩
def ANV_MIN_SVC_MIN : Fld := ⟨0x600020, 0, 6⟩
def ANV_SVC0_IN_SVC : Fld := ⟨0x600024, 0, 32⟩
def ANV_SVC1_IN_SVC : Fld := ⟨0x600028, 0, 32⟩
def ANV_CTL_RETURN (i : Nat) : Fld := ⟨0x600100 + 4 * i, 31, 1⟩
def ANV_CTL_REMOVE (i : Nat) : Fld := ⟨0x600100 + 4 * i, 30, 1⟩
def ANV_CTL_XSTREAMS (i : Nat) : Fld := ⟨0x600100 + 4 * i, 5, 3⟩
def ANV_CTL_RESERVE (i : Nat) : Fld := ⟨0x600100 + 4 * i, 4, 1⟩
def ANV_CTL_SHADOW1 (i : Nat) : Fld := ⟨0x600100 + 4 * i, 3, 1⟩
def ANV_CTL_SHADOW0 (i : Nat) : Fld := ⟨0x600100 + 4 * i, 2, 1⟩
def ANV_CTL_AWAKE (i : Nat) : Fld := ⟨0x600100 + 4 * i, 1, 1⟩
def ANV_CTL_IN_SVC (i : Nat) : Fld := ⟨0x600100 + 4 * i, 0, 1⟩
def ANV_LOAD_GSUM (i : Nat) : Fld := ⟨0x600200 + 4 * i, 16, 8⟩
def ANV_LOAD_BACKLOG (i : Nat) : Fld := ⟨0x600200 + 4 * i, 8, 8⟩
def ANV_LOAD_STREAMS (i : Nat) : Fld := ⟨0x600200 + 4 * i, 0, 5⟩
def BLW_STATUS_FREE_CELLS : Fld := ⟨0x700000, 0, 19⟩
def BLW_POOL_XRES_CELLS : Fld := ⟨0x700004, 0, 19⟩
def BLW_CFG_SAMPLE_EN : Fld := ⟨0x700008, 0, 1⟩
def BLW_QCMD_BUSY : Fld := ⟨0x700010, 31, 1⟩
def BLW_QCMD_STATUS : Fld := ⟨0x700010, 28, 3⟩
def BLW_QCMD_OP : Fld := ⟨0x700010, 24, 4⟩
def BLW_QCMD_QUEUE : Fld := ⟨0x700010, 0, 16⟩
def BLW_QDATA (i : Nat) : Fld := ⟨0x700020 + 4 * i, 0, 32⟩
def BLW_WEIGHT_W0_W3 (i : Nat) : Fld := ⟨0x700100 + 8 * i, 24, 8⟩
def BLW_WEIGHT_W0_W2 (i : Nat) : Fld := ⟨0x700100 + 8 * i, 16, 8⟩
def BLW_WEIGHT_W0_W1 (i : Nat) : Fld := ⟨0x700100 + 8 * i, 8, 8⟩
def BLW_WEIGHT_W0 (i : Nat) : Fld := ⟨0x700100 + 8 * i, 0, 8⟩
def BLW_WEIGHT_W1_W7 (i : Nat) : Fld := ⟨0x700104 + 8 * i, 24, 8⟩
def BLW_WEIGHT_W1_W6 (i : Nat) : Fld := ⟨0x700104 + 8 * i, 16, 8⟩
def BLW_WEIGHT_W1_W5 (i : Nat) : Fld := ⟨0x700104 + 8 * i, 8, 8⟩
def BLW_WEIGHT_W1_W4 (i : Nat) : Fld := ⟨0x700104 + 8 * i, 0, 8⟩
def BLW_DELAY_THRESH_THRESH_NS (i : Nat) : Fld := ⟨0x700300 + 4 * i, 0, 24⟩
def BLW_PARCEL_CFG_DE_PCT (i : Nat) : Fld := ⟨0x700500 + 4 * i, 19, 7⟩
def BLW_PARCEL_CFG_BUF_QUOTA (i : Nat) : Fld := ⟨0x700500 + 4 * i, 0, 19⟩
def BLW_PARCEL_OCC_CELLS (i : Nat) : Fld := ⟨0x700600 + 4 * i, 0, 19⟩
def BLW_POLICE_W0_EN (i : Nat) : Fld := ⟨0x700800 + 8 * i, 31, 1⟩
def BLW_POLICE_W0_RATE_KFPS (i : Nat) : Fld := ⟨0x700800 + 8 * i, 0, 23⟩
def BLW_POLICE_W1_BURST (i : Nat) : Fld := ⟨0x700804 + 8 * i, 0, 16⟩
def GAT_CFG_BREACH_RESP : Fld := ⟨0x800000, 0, 2⟩
def GAT_REFUSE_LAST_VALID : Fld := ⟨0x800004, 31, 1⟩
def GAT_REFUSE_LAST_REASON : Fld := ⟨0x800004, 27, 4⟩
def GAT_REFUSE_LAST_CLASS : Fld := ⟨0x800004, 6, 3⟩
def GAT_REFUSE_LAST_PORT : Fld := ⟨0x800004, 0, 6⟩
def GAT_BREACH_LAST_VALID : Fld := ⟨0x800008, 31, 1⟩
def GAT_BREACH_LAST_DROPPED : Fld := ⟨0x800008, 30, 1⟩
def GAT_BREACH_LAST_CLASS : Fld := ⟨0x800008, 27, 3⟩
def GAT_BREACH_LAST_PORT : Fld := ⟨0x800008, 21, 6⟩
def GAT_BREACH_LAST_EXCESS_NS : Fld := ⟨0x800008, 0, 21⟩
def GAT_GCL_CMD_BUSY : Fld := ⟨0x800010, 31, 1⟩
def GAT_GCL_CMD_STATUS : Fld := ⟨0x800010, 28, 3⟩
def GAT_GCL_CMD_OP : Fld := ⟨0x800010, 24, 4⟩
def GAT_GCL_CMD_PORT : Fld := ⟨0x800010, 16, 6⟩
def GAT_GCL_CMD_INDEX : Fld := ⟨0x800010, 0, 10⟩
def GAT_GCL_DATA0 : Fld := ⟨0x800014, 0, 32⟩
def GAT_GCL_DATA1 : Fld := ⟨0x800018, 0, 32⟩
def GAT_PORT_CFG_GATE_EN (i : Nat) : Fld := ⟨0x800100 + 4 * i, 31, 1⟩
def GAT_PORT_CFG_REQ_SYNC (i : Nat) : Fld := ⟨0x800100 + 4 * i, 30, 1⟩
def GAT_PORT_CFG_PREEMPT_EN (i : Nat) : Fld := ⟨0x800100 + 4 * i, 29, 1⟩
def GAT_PORT_CFG_ADD_FRAG (i : Nat) : Fld := ⟨0x800100 + 4 * i, 27, 2⟩
def GAT_PORT_CFG_VERIFY_DIS (i : Nat) : Fld := ⟨0x800100 + 4 * i, 26, 1⟩
def GAT_PORT_CFG_VERIFY_MS (i : Nat) : Fld := ⟨0x800100 + 4 * i, 18, 8⟩
def GAT_PORT_CFG_FALLBACK (i : Nat) : Fld := ⟨0x800100 + 4 * i, 10, 8⟩
def GAT_PORT_TXD_TXD_QNS (i : Nat) : Fld := ⟨0x800200 + 4 * i, 0, 12⟩
def GAT_PORT_STATUS_LIST_STATE (i : Nat) : Fld := ⟨0x800300 + 4 * i, 30, 2⟩
def GAT_PORT_STATUS_ARMED (i : Nat) : Fld := ⟨0x800300 + 4 * i, 29, 1⟩
def GAT_PORT_STATUS_CFG_PEND (i : Nat) : Fld := ⟨0x800300 + 4 * i, 28, 1⟩
def GAT_PORT_STATUS_MM_STATE (i : Nat) : Fld := ⟨0x800300 + 4 * i, 26, 2⟩
def GAT_PORT_STATUS_ADM_USED (i : Nat) : Fld := ⟨0x800300 + 4 * i, 19, 7⟩
def GAT_PORT_STATUS_ENTRY (i : Nat) : Fld := ⟨0x800300 + 4 * i, 8, 11⟩
def GAT_PORT_STATUS_GATES (i : Nat) : Fld := ⟨0x800300 + 4 * i, 0, 8⟩
def GAT_PEND_W0_BASE_LO (i : Nat) : Fld := ⟨0x800400 + 16 * i, 0, 32⟩
def GAT_PEND_W1_BASE_HI (i : Nat) : Fld := ⟨0x800404 + 16 * i, 0, 32⟩
def GAT_PEND_W2_CYCLE_TIME (i : Nat) : Fld := ⟨0x800408 + 16 * i, 0, 32⟩
def GAT_PEND_W3_LOCK (i : Nat) : Fld := ⟨0x80040C + 16 * i, 31, 1⟩
def GAT_PEND_W3_LENGTH (i : Nat) : Fld := ⟨0x80040C + 16 * i, 0, 11⟩
def GAT_ACT_W0_BASE_LO (i : Nat) : Fld := ⟨0x800800 + 16 * i, 0, 32⟩
def GAT_ACT_W1_BASE_HI (i : Nat) : Fld := ⟨0x800804 + 16 * i, 0, 32⟩
def GAT_ACT_W2_CYCLE_TIME (i : Nat) : Fld := ⟨0x800808 + 16 * i, 0, 32⟩
def GAT_ACT_W3_LOCK (i : Nat) : Fld := ⟨0x80080C + 16 * i, 31, 1⟩
def GAT_ACT_W3_LENGTH (i : Nat) : Fld := ⟨0x80080C + 16 * i, 0, 11⟩
def GAT_CLASS_CFG_W0_EXPRESS (i : Nat) : Fld := ⟨0x801000 + 8 * i, 31, 1⟩
def GAT_CLASS_CFG_W0_GATED (i : Nat) : Fld := ⟨0x801000 + 8 * i, 30, 1⟩
def GAT_CLASS_CFG_W0_PREEMPTABLE (i : Nat) : Fld := ⟨0x801000 + 8 * i, 29, 1⟩
def GAT_CLASS_CFG_W0_MAX_FRAME (i : Nat) : Fld := ⟨0x801000 + 8 * i, 0, 14⟩
def GAT_CLASS_CFG_W1_DEADLINE (i : Nat) : Fld := ⟨0x801004 + 8 * i, 0, 16⟩
def DAT_STATUS_STATE : Fld := ⟨0x900000, 30, 2⟩
def DAT_STATUS_SYNC : Fld := ⟨0x900000, 29, 1⟩
def DAT_STATUS_SLEWING : Fld := ⟨0x900000, 28, 1⟩
def DAT_CFG_SRC : Fld := ⟨0x900004, 30, 2⟩
def DAT_CFG_STEP_EN : Fld := ⟨0x900004, 29, 1⟩
def DAT_CFG_COMMIT_UNSYNC : Fld := ⟨0x900004, 28, 1⟩
def DAT_CFG_PPS_OUT_EN : Fld := ⟨0x900004, 27, 1⟩
def DAT_CFG_PPS_FREE : Fld := ⟨0x900004, 26, 1⟩
def DAT_CFG_PPS_EDGE : Fld := ⟨0x900004, 25, 1⟩
def DAT_CFG_TC_S : Fld := ⟨0x900004, 16, 8⟩
def DAT_CFG_SLEW_PPM : Fld := ⟨0x900004, 8, 8⟩
def DAT_CFG_PPS_WIDTH_MS : Fld := ⟨0x900004, 0, 8⟩
def DAT_SYNC_UNSYNC_NS : Fld := ⟨0x900008, 16, 16⟩
def DAT_SYNC_SYNC_NS : Fld := ⟨0x900008, 0, 16⟩
def DAT_HOLD_SYNC_COUNT : Fld := ⟨0x90000C, 28, 4⟩
def DAT_HOLD_HOLDOVER_S : Fld := ⟨0x90000C, 0, 20⟩
def DAT_NOW_FRAC : Fld := ⟨0x900010, 0, 32⟩
def DAT_NOW_LO : Fld := ⟨0x900014, 0, 32⟩
def DAT_NOW_HI : Fld := ⟨0x900018, 0, 32⟩
def DAT_CYC_LO : Fld := ⟨0x90001C, 0, 32⟩
def DAT_CYC_HI : Fld := ⟨0x900020, 0, 32⟩
def DAT_FREQ : Fld := ⟨0x900024, 0, 32⟩
def DAT_OPND_LO : Fld := ⟨0x900028, 0, 32⟩
def DAT_OPND_HI : Fld := ⟨0x90002C, 0, 32⟩
def DAT_CMD_BUSY : Fld := ⟨0x900030, 31, 1⟩
def DAT_CMD_STATUS : Fld := ⟨0x900030, 28, 3⟩
def DAT_CMD_OP : Fld := ⟨0x900030, 24, 4⟩
def DAT_ERR_LAST_ERR : Fld := ⟨0x900034, 0, 32⟩
def DAT_PTP_MECH : Fld := ⟨0x900038, 31, 1⟩
def DAT_PTP_DOMAIN : Fld := ⟨0x900038, 16, 8⟩
def DAT_PTP_PORT : Fld := ⟨0x900038, 0, 6⟩
def DAT_UTC_LEAP : Fld := ⟨0x90003C, 16, 2⟩
def DAT_UTC_UTC_OFS : Fld := ⟨0x90003C, 0, 16⟩
def DAT_PORT_ADJ_RX_ADJ (i : Nat) : Fld := ⟨0x900100 + 4 * i, 16, 16⟩
def DAT_PORT_ADJ_TX_ADJ (i : Nat) : Fld := ⟨0x900100 + 4 * i, 0, 16⟩
def MER_STATUS_STATE : Fld := ⟨0x900200, 30, 2⟩
def MER_STATUS_HOLD_LEFT : Fld := ⟨0x900200, 0, 16⟩
def MER_CFG_EN : Fld := ⟨0x900204, 31, 1⟩
def MER_CFG_EDGE : Fld := ⟨0x900204, 30, 1⟩
def MER_CFG_MIN_PULSE_US : Fld := ⟨0x900204, 16, 8⟩
def MER_CFG_LOCK_COUNT : Fld := ⟨0x900204, 12, 4⟩
def MER_CFG_TC_CYCLES : Fld := ⟨0x900204, 6, 6⟩
def MER_RANGE_MAX_HZ : Fld := ⟨0x900208, 16, 16⟩
def MER_RANGE_MIN_HZ : Fld := ⟨0x900208, 0, 16⟩
def MER_LOCK_THRESH : Fld := ⟨0x90020C, 0, 32⟩
def MER_HOLD_HOLD_CYCLES : Fld := ⟨0x900210, 16, 16⟩
def MER_PHASE_OFFSET : Fld := ⟨0x900214, 0, 32⟩
def MER_FREQ : Fld := ⟨0x900218, 0, 32⟩
def MER_PHASE : Fld := ⟨0x90021C, 0, 32⟩
def DAT_BENCH_W0_EN (i : Nat) : Fld := ⟨0x900300 + 16 * i, 31, 1⟩
def DAT_BENCH_W0_EDGE (i : Nat) : Fld := ⟨0x900300 + 16 * i, 29, 2⟩
def DAT_BENCH_W0_LEVEL (i : Nat) : Fld := ⟨0x900300 + 16 * i, 0, 5⟩
def DAT_BENCH_W1_LO (i : Nat) : Fld := ⟨0x900304 + 16 * i, 0, 32⟩
def DAT_BENCH_W2_HI (i : Nat) : Fld := ⟨0x900308 + 16 * i, 0, 32⟩
def DAT_BENCH_W3_VALID (i : Nat) : Fld := ⟨0x90030C + 16 * i, 31, 1⟩
def DAT_BENCH_W3_RISE (i : Nat) : Fld := ⟨0x90030C + 16 * i, 30, 1⟩
def DAT_BENCH_W3_SYNC (i : Nat) : Fld := ⟨0x90030C + 16 * i, 29, 1⟩
def DAT_BENCH_W3_MLOCK (i : Nat) : Fld := ⟨0x90030C + 16 * i, 28, 1⟩
def DAT_BENCH_W3_QNS (i : Nat) : Fld := ⟨0x90030C + 16 * i, 16, 2⟩
def DAT_BENCH_W3_MPHASE (i : Nat) : Fld := ⟨0x90030C + 16 * i, 0, 16⟩
def DAT_STAKE_W0_ARM (i : Nat) : Fld := ⟨0x900400 + 32 * i, 31, 1⟩
def DAT_STAKE_W0_DISARM (i : Nat) : Fld := ⟨0x900400 + 32 * i, 30, 1⟩
def DAT_STAKE_W0_ARMED (i : Nat) : Fld := ⟨0x900400 + 32 * i, 29, 1⟩
def DAT_STAKE_W0_ARM_STATUS (i : Nat) : Fld := ⟨0x900400 + 32 * i, 26, 3⟩
def DAT_STAKE_W0_MODE (i : Nat) : Fld := ⟨0x900400 + 32 * i, 24, 2⟩
def DAT_STAKE_W0_POL (i : Nat) : Fld := ⟨0x900400 + 32 * i, 23, 1⟩
def DAT_STAKE_W0_REQ_SYNC (i : Nat) : Fld := ⟨0x900400 + 32 * i, 22, 1⟩
def DAT_STAKE_W1_TIME_LO (i : Nat) : Fld := ⟨0x900404 + 32 * i, 0, 32⟩
def DAT_STAKE_W2_TIME_HI (i : Nat) : Fld := ⟨0x900408 + 32 * i, 0, 32⟩
def DAT_STAKE_W3_PERIOD_PHASE (i : Nat) : Fld := ⟨0x90040C + 32 * i, 0, 32⟩
def DAT_STAKE_W4_COUNT (i : Nat) : Fld := ⟨0x900410 + 32 * i, 0, 32⟩
def DAT_STAKE_W5_DIVIDE (i : Nat) : Fld := ⟨0x900414 + 32 * i, 0, 16⟩
def DAT_STAKE_W6_WIDTH_NS (i : Nat) : Fld := ⟨0x900418 + 32 * i, 0, 24⟩
def DAT_STAKE_W7_FIRED (i : Nat) : Fld := ⟨0x90041C + 32 * i, 0, 32⟩
def HRT_STATUS_LCS : Fld := ⟨0xA00000, 30, 2⟩
def HRT_STATUS_HUK_OK : Fld := ⟨0xA00000, 29, 1⟩
def HRT_STATUS_KEK_OK : Fld := ⟨0xA00000, 28, 1⟩
def HRT_STATUS_TRNG_OK : Fld := ⟨0xA00000, 27, 1⟩
def HRT_STATUS_LOCKSTEP_FAULT : Fld := ⟨0xA00000, 26, 1⟩
def HRT_STATUS_STORE_RO : Fld := ⟨0xA00000, 25, 1⟩
def HRT_STATUS_STORE_LOSS : Fld := ⟨0xA00000, 16, 7⟩
def HRT_STATUS_SLOTS_LOADED : Fld := ⟨0xA00000, 0, 13⟩
def HRT_CMD_BUSY : Fld := ⟨0xA00004, 31, 1⟩
def HRT_CMD_STATUS : Fld := ⟨0xA00004, 27, 4⟩
def HRT_CMD_OP : Fld := ⟨0xA00004, 16, 8⟩
def HRT_CMD_SLOT : Fld := ⟨0xA00004, 0, 12⟩
def HRT_CMD_ARG : Fld := ⟨0xA00008, 0, 32⟩
def HRT_CMD_RESULT : Fld := ⟨0xA0000C, 0, 16⟩
def HRT_RANDOM : Fld := ⟨0xA00010, 0, 32⟩
def HRT_USE_RETIRE_LIST : Fld := ⟨0xA00014, 16, 7⟩
def HRT_USE_PERSIST : Fld := ⟨0xA00014, 0, 11⟩
def HRT_HANDOFF_IN_USE : Fld := ⟨0xA00018, 0, 7⟩
def HRT_QUENCH_BUSY : Fld := ⟨0xA00020, 31, 1⟩
def HRT_QUENCH_FAIL : Fld := ⟨0xA00020, 30, 1⟩
def HRT_QUENCH_LAST_SCOPE : Fld := ⟨0xA00020, 27, 3⟩
def HRT_QUENCH_LAST_TIME : Fld := ⟨0xA00020, 0, 16⟩
def HRT_ERR_VALID : Fld := ⟨0xA00024, 31, 1⟩
def HRT_ERR_EVENT : Fld := ⟨0xA00024, 16, 10⟩
def HRT_ERR_SLOT : Fld := ⟨0xA00024, 0, 12⟩
def HRT_STORE_AREA_W0_READ_ONLY (i : Nat) : Fld := ⟨0xA00100 + 8 * i, 31, 1⟩
def HRT_STORE_AREA_W0_MAX_WRITES (i : Nat) : Fld := ⟨0xA00100 + 8 * i, 0, 27⟩
def HRT_STORE_AREA_W1_RETIRED (i : Nat) : Fld := ⟨0xA00104 + 8 * i, 16, 16⟩
def HRT_STORE_AREA_W1_FREE (i : Nat) : Fld := ⟨0xA00104 + 8 * i, 0, 16⟩
def HRT_DATA (i : Nat) : Fld := ⟨0xA01000 + 4 * i, 0, 32⟩
def TMP_STATUS_PRESENT : Fld := ⟨0xB00000, 31, 1⟩
def TMP_STATUS_INIT_DONE : Fld := ⟨0xB00000, 30, 1⟩
def TMP_STATUS_KEYS_VALID : Fld := ⟨0xB00000, 29, 1⟩
def TMP_STATUS_HALTED : Fld := ⟨0xB00000, 28, 1⟩
def TMP_STATUS_LAYOUT_PEND : Fld := ⟨0xB00000, 27, 1⟩
def TMP_STATUS_FAILED_NODES : Fld := ⟨0xB00000, 16, 7⟩
def TMP_STATUS_RO_PAGES : Fld := ⟨0xB00000, 0, 16⟩
def TMP_CFG_INTEG_RESP : Fld := ⟨0xB00004, 31, 1⟩
def TMP_CFG_SCRUB_EN : Fld := ⟨0xB00004, 30, 1⟩
def TMP_CFG_UE_ALARM : Fld := ⟨0xB00004, 16, 8⟩
def TMP_CFG_SCRUB_HOURS : Fld := ⟨0xB00004, 8, 8⟩
def TMP_LAYOUT_FITTED_MIB : Fld := ⟨0xB00008, 16, 16⟩
def TMP_LAYOUT_PROT_UNITS : Fld := ⟨0xB00008, 0, 7⟩
def TMP_FAIL_LAST_W0_VALID : Fld := ⟨0xB00010, 31, 1⟩
def TMP_FAIL_LAST_W0_KIND : Fld := ⟨0xB00010, 28, 3⟩
def TMP_FAIL_LAST_W0_MASTER : Fld := ⟨0xB00010, 25, 3⟩
def TMP_FAIL_LAST_W0_REGION : Fld := ⟨0xB00010, 0, 4⟩
def TMP_FAIL_LAST_W1_LINE : Fld := ⟨0xB00014, 0, 32⟩
def TMP_SCRUB_START : Fld := ⟨0xB00018, 31, 1⟩
def TMP_SCRUB_PROGRESS : Fld := ⟨0xB00018, 0, 7⟩
def TMP_REGION_W0_VALID (i : Nat) : Fld := ⟨0xB00100 + 16 * i, 31, 1⟩
def TMP_REGION_W0_PROTECTED (i : Nat) : Fld := ⟨0xB00100 + 16 * i, 30, 1⟩
def TMP_REGION_W0_SECURE (i : Nat) : Fld := ⟨0xB00100 + 16 * i, 29, 1⟩
def TMP_REGION_W0_BASE_MIB (i : Nat) : Fld := ⟨0xB00100 + 16 * i, 0, 16⟩
def TMP_REGION_W1_SIZE_MIB (i : Nat) : Fld := ⟨0xB00104 + 16 * i, 0, 16⟩
def TMP_REGION_W2_DEBUG (i : Nat) : Fld := ⟨0xB00108 + 16 * i, 4, 2⟩
def TMP_REGION_W2_DMA (i : Nat) : Fld := ⟨0xB00108 + 16 * i, 2, 2⟩
def TMP_REGION_W2_FW (i : Nat) : Fld := ⟨0xB00108 + 16 * i, 0, 2⟩
def ECC_STATUS_UNREPAIRED : Fld := ⟨0xC00000, 31, 1⟩
def ECC_STATUS_FACTORY_USED : Fld := ⟨0xC00000, 16, 12⟩
def ECC_STATUS_FIELD_USED : Fld := ⟨0xC00000, 0, 12⟩
def ECC_CFG_SCRUB_EN : Fld := ⟨0xC00004, 31, 1⟩
def ECC_CFG_PERIOD_S : Fld := ⟨0xC00004, 16, 12⟩
def ECC_CFG_CE_THRESH : Fld := ⟨0xC00004, 0, 16⟩
def ECC_LOG_CTL_CLEAR : Fld := ⟨0xC00008, 31, 1⟩
def ECC_LOG_CTL_USED : Fld := ⟨0xC00008, 16, 6⟩
def ECC_LOG_CTL_OVERFLOW : Fld := ⟨0xC00008, 0, 16⟩
def ECC_REPAIR_PENDING : Fld := ⟨0xC0000C, 16, 7⟩
def ECC_REPAIR_FUSE_FREE : Fld := ⟨0xC0000C, 0, 12⟩
def ECC_REPAIR_LAST_VALID : Fld := ⟨0xC00010, 31, 1⟩
def ECC_REPAIR_LAST_ROW_COL : Fld := ⟨0xC00010, 30, 1⟩
def ECC_REPAIR_LAST_MACRO : Fld := ⟨0xC00010, 16, 11⟩
def ECC_REPAIR_LAST_INDEX : Fld := ⟨0xC00010, 0, 10⟩
def ECC_SCRUB_START : Fld := ⟨0xC00014, 31, 1⟩
def ECC_SCRUB_PROGRESS : Fld := ⟨0xC00014, 0, 7⟩
def ECC_INJECT_W0_ARM : Fld := ⟨0xC00018, 31, 1⟩
def ECC_INJECT_W0_COUNT : Fld := ⟨0xC00018, 30, 1⟩
def ECC_INJECT_W0_BIT : Fld := ⟨0xC00018, 27, 3⟩
def ECC_INJECT_W0_MEM : Fld := ⟨0xC00018, 0, 4⟩
def ECC_INJECT_W1_ADDR : Fld := ⟨0xC0001C, 0, 32⟩
def ECC_LOG_W0_VALID (i : Nat) : Fld := ⟨0xC00100 + 16 * i, 31, 1⟩
def ECC_LOG_W0_UE (i : Nat) : Fld := ⟨0xC00100 + 16 * i, 30, 1⟩
def ECC_LOG_W0_POISON (i : Nat) : Fld := ⟨0xC00100 + 16 * i, 29, 1⟩
def ECC_LOG_W0_MEM (i : Nat) : Fld := ⟨0xC00100 + 16 * i, 24, 5⟩
def ECC_LOG_W0_SYNDROME (i : Nat) : Fld := ⟨0xC00100 + 16 * i, 16, 8⟩
def ECC_LOG_W0_REPEAT (i : Nat) : Fld := ⟨0xC00100 + 16 * i, 0, 16⟩
def ECC_LOG_W1_ADDR (i : Nat) : Fld := ⟨0xC00104 + 16 * i, 0, 32⟩
def ECC_LOG_W2_CYC (i : Nat) : Fld := ⟨0xC00108 + 16 * i, 0, 32⟩
def ECC_LOG_W3_SOURCE (i : Nat) : Fld := ⟨0xC0010C + 16 * i, 30, 2⟩
def TIE_STATUS_ROLE : Fld := ⟨0xD00000, 28, 4⟩
def TIE_STATUS_LINK_UP : Fld := ⟨0xD00000, 27, 1⟩
def TIE_STATUS_HOLD_OUT : Fld := ⟨0xD00000, 26, 1⟩
def TIE_STATUS_HOLD_IN : Fld := ⟨0xD00000, 25, 1⟩
def TIE_STATUS_STRAP : Fld := ⟨0xD00000, 24, 1⟩
def TIE_STATUS_COMPARE_OK : Fld := ⟨0xD00000, 23, 1⟩
def TIE_STATUS_MARK_OVF : Fld := ⟨0xD00000, 22, 1⟩
def TIE_STATUS_MARK_USED : Fld := ⟨0xD00000, 0, 13⟩
def TIE_CFG_EN : Fld := ⟨0xD00004, 31, 1⟩
def TIE_CFG_RESTART_EN : Fld := ⟨0xD00004, 30, 1⟩
def TIE_CFG_GUARD_LOG2 : Fld := ⟨0xD00004, 24, 6⟩
def TIE_CFG_SWAP_DAYS : Fld := ⟨0xD00004, 16, 8⟩
def TIE_CFG_EXCUSE_US : Fld := ⟨0xD00004, 0, 16⟩
def TIE_KEY_SLOT : Fld := ⟨0xD00008, 0, 12⟩
def TIE_PAIR_A_LO_SERIAL : Fld := ⟨0xD00010, 0, 32⟩
def TIE_PAIR_A_HI_SERIAL : Fld := ⟨0xD00014, 0, 32⟩
def TIE_PAIR_B_LO_SERIAL : Fld := ⟨0xD00018, 0, 32⟩
def TIE_PAIR_B_HI_SERIAL : Fld := ⟨0xD0001C, 0, 32⟩
def TIE_CTL_SWAP : Fld := ⟨0xD00020, 31, 1⟩
def TIE_CTL_REALIGN : Fld := ⟨0xD00020, 30, 1⟩
def TIE_SWAP_AT_LO_AT : Fld := ⟨0xD00024, 0, 32⟩
def TIE_SWAP_AT_HI_AT : Fld := ⟨0xD00028, 0, 32⟩
def TIE_LAST_MISMATCH_VALID : Fld := ⟨0xD00030, 31, 1⟩
def TIE_LAST_MISMATCH_REASON : Fld := ⟨0xD00030, 28, 3⟩
def TIE_LAST_MISMATCH_EXCUSED : Fld := ⟨0xD00030, 27, 1⟩
def TIE_LAST_MISMATCH_PORT : Fld := ⟨0xD00030, 21, 6⟩
def TIE_LAST_MISMATCH_CLASS : Fld := ⟨0xD00030, 18, 3⟩
def TIE_LAST_MISMATCH_BLOCK : Fld := ⟨0xD00030, 0, 18⟩
def TIE_LAST_TAKEOVER_VALID : Fld := ⟨0xD00034, 31, 1⟩
def TIE_LAST_TAKEOVER_CAUSE : Fld := ⟨0xD00034, 28, 3⟩
def TIE_LAST_TAKEOVER_WIDE : Fld := ⟨0xD00034, 27, 1⟩
def TIE_LAST_TAKEOVER_TIME_NS : Fld := ⟨0xD00034, 0, 13⟩
def TIE_SELFCHK_VALID : Fld := ⟨0xD00038, 31, 1⟩
def TIE_SELFCHK_OWN_PASS : Fld := ⟨0xD00038, 30, 1⟩
def TIE_SELFCHK_PARTNER_PASS : Fld := ⟨0xD00038, 29, 1⟩
def TIE_SELFCHK_CAUSE : Fld := ⟨0xD00038, 0, 7⟩
def TIE_LANE_SYNC (i : Nat) : Fld := ⟨0xD00100 + 4 * i, 31, 1⟩
def TIE_LANE_ALIGNED (i : Nat) : Fld := ⟨0xD00100 + 4 * i, 30, 1⟩
def TIE_LANE_SKEW (i : Nat) : Fld := ⟨0xD00100 + 4 * i, 24, 6⟩
def TIE_LANE_CODE_ERR (i : Nat) : Fld := ⟨0xD00100 + 4 * i, 0, 16⟩
def ENV_STATUS_LEVEL : Fld := ⟨0xE00000, 29, 3⟩
def ENV_STATUS_ALERT : Fld := ⟨0xE00000, 28, 1⟩
def ENV_STATUS_ACTIVE : Fld := ⟨0xE00000, 0, 13⟩
def ENV_LAST_VALID : Fld := ⟨0xE00004, 31, 1⟩
def ENV_LAST_LEVEL : Fld := ⟨0xE00004, 28, 3⟩
def ENV_LAST_SOURCE : Fld := ⟨0xE00004, 16, 4⟩
def ENV_LAST_VALUE : Fld := ⟨0xE00004, 0, 16⟩
def ENV_EVIDENCE_SATURATED : Fld := ⟨0xE00008, 31, 1⟩
def ENV_EVIDENCE_COUNT : Fld := ⟨0xE00008, 0, 12⟩
def ENV_DD_VALID : Fld := ⟨0xE0000C, 31, 1⟩
def ENV_DD_KIND : Fld := ⟨0xE0000C, 16, 3⟩
def ENV_DD_COUNT : Fld := ⟨0xE0000C, 0, 16⟩
def ENV_MEAS_VALUE (i : Nat) : Fld := ⟨0xE00040 + 4 * i, 0, 16⟩
def ENV_SRC_W0_EN (i : Nat) : Fld := ⟨0xE00100 + 16 * i, 31, 1⟩
def ENV_SRC_W0_RESP (i : Nat) : Fld := ⟨0xE00100 + 16 * i, 28, 3⟩
def ENV_SRC_W0_EVIDENCE (i : Nat) : Fld := ⟨0xE00100 + 16 * i, 27, 1⟩
def ENV_SRC_W0_WARN_ALERT (i : Nat) : Fld := ⟨0xE00100 + 16 * i, 26, 1⟩
def ENV_SRC_W0_POL (i : Nat) : Fld := ⟨0xE00100 + 16 * i, 25, 1⟩
def ENV_SRC_W0_FILT (i : Nat) : Fld := ⟨0xE00100 + 16 * i, 16, 6⟩
def ENV_SRC_W1_ALARM_HI (i : Nat) : Fld := ⟨0xE00104 + 16 * i, 16, 16⟩
def ENV_SRC_W1_ALARM_LO (i : Nat) : Fld := ⟨0xE00104 + 16 * i, 0, 16⟩
def ENV_SRC_W2_WARN_HI (i : Nat) : Fld := ⟨0xE00108 + 16 * i, 16, 16⟩
def ENV_SRC_W2_WARN_LO (i : Nat) : Fld := ⟨0xE00108 + 16 * i, 0, 16⟩
def ENV_BAT_CFG_TAMP0_EN : Fld := ⟨0xE00400, 31, 1⟩
def ENV_BAT_CFG_TAMP1_EN : Fld := ⟨0xE00400, 30, 1⟩
def ENV_BAT_CFG_TAMP0_POL : Fld := ⟨0xE00400, 29, 1⟩
def ENV_BAT_CFG_TAMP1_POL : Fld := ⟨0xE00400, 28, 1⟩
def ENV_BAT_CFG_TEMP_EN : Fld := ⟨0xE00400, 27, 1⟩
def ENV_BAT_CFG_VBAT_EN : Fld := ⟨0xE00400, 26, 1⟩
def ENV_BAT_CFG_TEMP_HI : Fld := ⟨0xE00400, 16, 8⟩
def ENV_BAT_CFG_TEMP_LO : Fld := ⟨0xE00400, 8, 8⟩
def ENV_BAT_CFG_VBAT_LO : Fld := ⟨0xE00400, 0, 8⟩
def ENV_BAT_CTL_USED : Fld := ⟨0xE00404, 16, 5⟩
def ENV_BAT_CTL_OVERFLOW : Fld := ⟨0xE00404, 0, 16⟩
def ENV_BAT_SEC_SECONDS : Fld := ⟨0xE00408, 0, 32⟩
def ENV_BAT_W0_VALID (i : Nat) : Fld := ⟨0xE00440 + 8 * i, 31, 1⟩
def ENV_BAT_W0_PENDING (i : Nat) : Fld := ⟨0xE00440 + 8 * i, 30, 1⟩
def ENV_BAT_W0_SOURCE (i : Nat) : Fld := ⟨0xE00440 + 8 * i, 0, 5⟩
def ENV_BAT_W1_SECONDS (i : Nat) : Fld := ⟨0xE00444 + 8 * i, 0, 32⟩
def FBK_STATUS_SEC_FULL : Fld := ⟨0xF00000, 31, 1⟩
def FBK_STATUS_SMP_STOPPED : Fld := ⟨0xF00000, 30, 1⟩
def FBK_STATUS_ARCHIVE : Fld := ⟨0xF00000, 29, 1⟩
def FBK_STATUS_SEC_USED : Fld := ⟨0xF00000, 0, 13⟩
def FBK_SEC_OVF_OVERFLOW : Fld := ⟨0xF00004, 0, 32⟩
def FBK_CFG_HIST_EN : Fld := ⟨0xF00008, 31, 1⟩
def FBK_CFG_ARCHIVE_EN : Fld := ⟨0xF00008, 30, 1⟩
def FBK_SMP_CFG_EN : Fld := ⟨0xF00010, 31, 1⟩
def FBK_SMP_CFG_STOP : Fld := ⟨0xF00010, 30, 1⟩
def FBK_SMP_CFG_ONCHIP : Fld := ⟨0xF00010, 29, 1⟩
def FBK_SMP_CFG_RESTART : Fld := ⟨0xF00010, 28, 1⟩
def FBK_SMP_CFG_RULE_EN : Fld := ⟨0xF00010, 27, 1⟩
def FBK_SMP_CFG_OUT_MASK : Fld := ⟨0xF00010, 23, 4⟩
def FBK_SMP_CFG_EXPRESS_EN : Fld := ⟨0xF00010, 22, 1⟩
def FBK_SMP_CFG_RATE_LOG2 : Fld := ⟨0xF00010, 0, 5⟩
def FBK_SMP_LAT_LAT_NS : Fld := ⟨0xF00014, 0, 32⟩
def FBK_SMP_PORTS (i : Nat) : Fld := ⟨0xF00018 + 4 * i, 0, 32⟩
def FBK_SMP_SEQ : Fld := ⟨0xF00020, 0, 32⟩
def FBK_SMP_ONE_ARM : Fld := ⟨0xF00024, 31, 1⟩
def FBK_SMP_ONE_PORT : Fld := ⟨0xF00024, 0, 6⟩
def FBK_SMP_RD_INDEX : Fld := ⟨0xF00028, 0, 12⟩
def FBK_SMP_WIN (i : Nat) : Fld := ⟨0xF00040 + 4 * i, 0, 32⟩
def FBK_HSEL_VALID (i : Nat) : Fld := ⟨0xF00100 + 4 * i, 31, 1⟩
def FBK_HSEL_MODE (i : Nat) : Fld := ⟨0xF00100 + 4 * i, 14, 2⟩
def FBK_HSEL_PORT (i : Nat) : Fld := ⟨0xF00100 + 4 * i, 8, 6⟩
def FBK_HSEL_CLASS (i : Nat) : Fld := ⟨0xF00100 + 4 * i, 0, 3⟩
def FBK_BW_CFG_WINDOW_US : Fld := ⟨0xF00200, 0, 24⟩
def FBK_BW (i : Nat) : Fld := ⟨0xF01000 + 4 * i, 0, 32⟩
def R2_RING_CTL_CMD_EN (i : Nat) : Fld := ⟨0x10000000 + 4096 * i, 31, 1⟩
def R2_RING_CTL_MSG_EN (i : Nat) : Fld := ⟨0x10000000 + 4096 * i, 30, 1⟩
def R2_RING_STATUS_CMD_ERR (i : Nat) : Fld := ⟨0x10000004 + 4096 * i, 31, 1⟩
def R2_RING_STATUS_MSG_ERR (i : Nat) : Fld := ⟨0x10000004 + 4096 * i, 30, 1⟩
def R2_RING_STATUS_ERR_CODE (i : Nat) : Fld := ⟨0x10000004 + 4096 * i, 24, 4⟩
def R2_RING_STATUS_OUTSTANDING (i : Nat) : Fld := ⟨0x10000004 + 4096 * i, 16, 5⟩
def R2_CMD_BASE_LO (i : Nat) : Fld := ⟨0x10000008 + 4096 * i, 12, 20⟩
def R2_CMD_BASE_HI (i : Nat) : Fld := ⟨0x1000000C + 4096 * i, 0, 32⟩
def R2_CMD_SIZE (i : Nat) : Fld := ⟨0x10000010 + 4096 * i, 0, 13⟩
def R2_CMD_TAIL (i : Nat) : Fld := ⟨0x10000014 + 4096 * i, 0, 13⟩
def R2_CMD_HEAD (i : Nat) : Fld := ⟨0x10000018 + 4096 * i, 0, 13⟩
def R2_MSG_BASE_LO (i : Nat) : Fld := ⟨0x10000020 + 4096 * i, 12, 20⟩
def R2_MSG_BASE_HI (i : Nat) : Fld := ⟨0x10000024 + 4096 * i, 0, 32⟩
def R2_MSG_SIZE (i : Nat) : Fld := ⟨0x10000028 + 4096 * i, 0, 13⟩
def R2_MSG_HEAD (i : Nat) : Fld := ⟨0x1000002C + 4096 * i, 0, 13⟩
def R2_MSG_TAIL (i : Nat) : Fld := ⟨0x10000030 + 4096 * i, 0, 13⟩
def R2_MSG_LOST (i : Nat) : Fld := ⟨0x10000034 + 4096 * i, 0, 32⟩
def R2_COALESCE_EVT_US (i : Nat) : Fld := ⟨0x10000038 + 4096 * i, 16, 8⟩
def R2_COALESCE_RSP_US (i : Nat) : Fld := ⟨0x10000038 + 4096 * i, 0, 8⟩
def R2_EVT_MASK (f w : Nat) : Fld := ⟨0x10100000 + 0x80 * f + 4 * w, 0, 32⟩

end F

end Sys2Proof.Machine
end

