-- ==== Sys2Proof/Machine/State.lean ====
section
/-! DEFINITION. Machine/State.lean: everything the spec gives the block to hold, as plain data, the reasons a step can
stop, and the state right after reset.  Registers of the register map live in `regs`; what the map does not show
lives in the structures of the chapter that names it. -/

namespace Sys2Proof.Machine

/-! ## Host link (spec/13_host_link.md, R325 to R347) and sessions (spec/11_signed_control.md, R280 to R286) -/

/-- A message entry in host memory (R338). -/
structure Msg where
  kind : Nat
  phase : Bool
  macValid : Bool
  alarm : Bool
  code : Nat
  status : Nat
  parcel : Nat
  seq : Nat
  tagScope : Nat
  lenArg : Nat
  datum : BitVec 64
  data : List Byte
  mac : Nat
  deriving DecidableEq, Repr

/-- An MSI-X vector (R342): mask and pending bits, the moment of the first unsignalled entry, messages sent. -/
structure Vec where
  masked : Bool := false
  pending : Bool := false
  unsignalled : Option (BitVec 64) := none
  sent : Nat := 0
  deriving DecidableEq, Repr

/-- An open session (R280, R281, R282). -/
structure Session where
  id : Nat
  kCmd : List Byte
  kRsp : List Byte
  /-- 0 OBSERVE, 1 OPERATE. -/
  cls : Nat
  /-- Bit p: parcel p is among the session's parcels. -/
  parcels : BitVec 64
  /-- Hash of the manager's keys; none when an owner authority key opened it. -/
  manager : Option (List Byte)
  seqLast : Option Nat := none
  accepted : Nat := 0
  lastCmd : BitVec 64
  deriving DecidableEq, Repr

/-- A session exchange between SESSION_ACCEPT and SESSION_CONFIRM (R280). -/
structure Opening where
  id : Nat
  openBytes : List Byte
  acceptBytes : List Byte
  managerKeys : List Byte
  ephemeral : Nat
  deriving DecidableEq, Repr

/-- A nonce of CHALLENGE (R284): its bytes and when it was drawn. -/
structure Nonce where
  bytes : List Byte
  at_ : BitVec 64
  deriving DecidableEq, Repr

/-- What a PCIe function has besides its BAR2 registers. -/
structure FnS where
  /-- The message ring's places in host memory (R329, R338). -/
  ring : Tab Msg := []
  mseq : Nat := 0
  /-- Events not posted since the last OVERFLOW, the first and the last of them (R341). -/
  lost : Nat := 0
  lostFirst : Nat := 0
  lostLast : Nat := 0
  vec0 : Vec := {}
  vec1 : Vec := {}
  vec2 : Vec := {}
  vec3 : Vec := {}
  session : Option Session := none
  opening : Option Opening := none
  /-- Oldest first, at most 16. -/
  nonces : List Nonce := []
  /-- Host address and bytes of the last response buffer written (R340). -/
  rspAddr : Nat := 0
  rspBuf : List Byte := []
  /-- AER uncorrectable status of the last error logged (R344). -/
  aer : Nat := 0
  /-- The message ring is stopped by a write error (R328, R347). -/
  stopped : Bool := false
  deriving DecidableEq, Repr

/-- A command of a ring in progress, with its opcode (R332): it waits for its block. -/
structure Wait where
  d : Desc
  opcode : Nat
  /-- Its response is discarded (R327). -/
  mute : Bool := false
  deriving DecidableEq, Repr

/-! ## Events (R39) and the field book (spec/18_field_book_and_counters.md) -/

/-- Where the value a drop event's message carries is read (R39). -/
inductive CntRef where
  | none
  | dev (i : Nat)
  /-- Associations revoked or made unusable by one cause (R96, R245). -/
  | revoked
  | unusable
  | sa (sa k : Nat)
  | queue (q : Nat)
  /-- The last sampled head-of-line delay of a queue (R178). -/
  | hol (q : Nat)
  deriving DecidableEq, Repr

/-- The hold-off of an event number (R39). -/
structure HoldOff where
  start : BitVec 64
  /-- The first occurrence since the posting: scope, parcel, counter. -/
  more : Option (Nat × Option Nat × CntRef) := none
  deriving DecidableEq, Repr

/-- A log record (R430). -/
structure LogRec where
  seq : Nat
  opMin : Nat
  pwr : Nat
  num : Nat
  alarm : Bool
  cont : Bool
  rep : Nat
  scope : Nat
  arg : Nat
  detail : List Byte
  mac : Nat
  deriving DecidableEq, Repr

/-- The histograms and extremes (R423 to R426): live since the last reset or clear, or the increments of an hour. -/
structure Hist where
  /-- 64 h + bin. -/
  latency : Tab Nat := []
  /-- 20 port + bin. -/
  depth : Tab Nat := []
  /-- 64 sensor + bin. -/
  temp : Tab Nat := []
  /-- VDD_CORE, then VDD_IO, then VBAT: 32 k + bin. -/
  supply : Tab Nat := []
  /-- 16 index + bin. -/
  eccRate : Tab Nat := []
  /-- Per histogram: largest latency in quarter-nanoseconds and its operating minute. -/
  latMax : Tab (Nat × Nat) := []
  /-- Per port: largest sampled depth and its operating minute. -/
  depthMax : Tab (Nat × Nat) := []
  /-- TEMP0 to TEMP3, VDD_CORE, VDD_IO, VBAT: smallest and largest. -/
  envMin : Tab (Option Int) := []
  envMax : Tab (Option Int) := []
  deriving DecidableEq, Repr

/-- A life block or a period record (R429). -/
structure LifeBlock where
  period : Bool := false
  generation : Nat := 0
  opMin : Nat := 0
  pwr : Nat := 0
  secOverflow : Nat := 0
  clears : Nat := 0
  hist : Hist := {}
  mac : Nat := 0
  deriving DecidableEq, Repr

/-- A frame sample (R442). -/
structure Sample where
  inTs : Int
  latency : Nat
  sa : Nat
  anvil : Nat
  cls : Nat
  cellsAhead : Nat
  length : Nat
  inPort : Nat
  release : Nat
  outPort : Nat
  express : Bool
  command : Bool
  parcel : Nat
  trigger : Nat
  outcome : Nat
  event : Nat
  poisoned : Bool
  synced : Bool
  shadow : Bool
  stored : Bool
  bypass : Bool
  seq : Nat
  deriving DecidableEq, Repr

/-- The field book (R423 to R447). -/
structure Fbk where
  hist : Hist := {}
  /-- Increments since the last whole hour (R427). -/
  hour : Hist := {}
  /-- The ECC_CE values at the last whole hour, per memory (R423). -/
  ceAtHour : Tab Nat := []
  /-- The life block's valid copy, and the period archive, newest first (R427, R428). -/
  life : LifeBlock := {}
  archive : List LifeBlock := []
  archiveGen : Nat := 0
  /-- Oldest first, at most 4,096. -/
  secLog : List LogRec := []
  opLog : List LogRec := []
  /-- Occurrences of the last operational record not yet in the store (R432). -/
  opPend : Nat := 0
  secSeq : Nat := 0
  opSeq : Nat := 0
  /-- Sample records by slot, in region 1 of DDR5 or in the on-chip store (R443). -/
  samples : Tab (Option Sample) := []
  regionSamples : Tab (Option Sample) := []
  /-- Records chosen and not yet written, oldest first, each with the cycle it came; and up to when writing has been
  brought (R443). -/
  buffer : List (Sample × BitVec 64) := []
  bufAt : BitVec 64 := 0
  /-- Records accepted since the last RESTART. -/
  written : Nat := 0
  /-- Frames accounted per ingress port since the last PERIODIC choice (R441). -/
  periodic : Tab Nat := []
  /-- Current window counts: 4 n + k, k = RX bytes, RX frames, TX bytes, TX frames (R444). -/
  window : Tab Nat := []
  /-- Latched window counts, words 8 n + k. -/
  latched : Tab Word := []
  /-- Words 1 to 7 latched by a read of word 0. -/
  bwRead : Tab Word := []
  /-- High counter words latched per master: master, counter, value (R437). -/
  cntLatch : Tab (Nat × Word) := []
  /-- When the bandwidth window began, the last operating minute ended and the last environment sample was taken (cycles of
  DAT_CYC), and the operating minute of the last hourly commit. -/
  winAt : BitVec 64 := 0
  minAt : BitVec 64 := 0
  envAt : BitVec 64 := 0
  hourAt : Nat := 0
  deriving DecidableEq, Repr

/-! ## One-time memory (R263, R266, R289, R415) -/

/-- An owner record: the key hashes and their revocation bits; its check passes (R263, R289). -/
structure OwnerRec where
  hashes : List (List Byte)
  revoked : BitVec 4 := 0
  deriving DecidableEq, Repr

/-- OTP. -/
structure Otp where
  /-- Life-cycle thermometer: OWNED, SEALED, RETIRED (R290). -/
  owned : Bool := false
  isSealed : Bool := false
  retired : Bool := false
  /-- SVN floor, 0 to 128 (R266). -/
  svnFloor : Nat := 0
  /-- Vendor firmware keys revoked (R263). -/
  fwRevoked : BitVec 4 := 0
  /-- Owner records, the current one last; OWNER_EPOCH is their number (R289). -/
  owners : List OwnerRec := []
  /-- Store-loss thermometer, 0 to 64 (R251), and evidence thermometer, 0 to 2,048 (R415). -/
  storeLoss : Nat := 0
  evidence : Nat := 0
  deriving DecidableEq, Repr

/-! ## Responses requested and decisions pending (R411, R414) -/

/-- A response waiting for the engine: its source, its level (0 LOG to 4 PURGE), the requesting event number and a value
(R411, R414). -/
structure RespReq where
  source : Nat
  level : Nat
  event : Nat
  value : Nat := 0
  deriving DecidableEq, Repr

/-! ## Traverse (spec/02_traverse_classification.md) -/

/-- A policy rule (R44 to R46, R60, R62). -/
structure Rule where
  key : BitVec 256 := 0
  mask : BitVec 256 := 0
  result : BitVec 64 := 0
  owner : Nat := 0
  scope : Bool := false
  /-- 0 invalid, 1 generation 0, 2 generation 1, 3 both. -/
  gen : Nat := 0
  hits : BitVec 32 := 0
  poisoned : Bool := false
  deriving DecidableEq, Repr

/-- A byte bucket: credit in 1/256 byte, and the thousandths of 1/256 byte carried over (R55). -/
structure Bucket where
  credit : Nat := 0
  carry : Nat := 0
  deriving DecidableEq, Repr

/-! ## Plat (spec/03_plat_station_table.md) -/

/-- A hold-down record: the key, and when it was written (R71). -/
structure HoldRec where
  parcel : Nat
  vid : Nat
  mac : Nat
  since : BitVec 64
  deriving DecidableEq, Repr

/-- What a learn request asks (R70). -/
inductive LearnKind where
  | refresh | learn | move | conflict
  deriving DecidableEq, Repr

/-- A learn request (R70). -/
structure LearnReq where
  kind : LearnKind
  parcel : Nat
  vid : Nat
  mac : Nat
  rxSc : Nat
  /-- The return SC of the receive channel. -/
  sc : Nat
  port : Nat
  deriving DecidableEq, Repr

/-- The station table. -/
structure Plat where
  /-- Way w of bucket b of bank k at index 65,536 k + 4 b + w: the 128 bits of R67. -/
  ways : Tab (BitVec 128) := []
  stash : Tab (BitVec 128) := []
  seed0 : BitVec 32 := 0
  seed1 : BitVec 32 := 0
  /-- The seeds of the generation a rebuild is placing entries under (R76). -/
  next0 : BitVec 32 := 0
  next1 : BitVec 32 := 0
  /-- The rebuild walker's place: 0 to 65,535 a bucket (16,384 bank + bucket), then the stash entries. -/
  walker : Nat := 0
  hold : Tab (Option HoldRec) := []
  /-- Requests waiting, oldest first, at most 2,048. -/
  queue : List LearnReq := []
  /-- The sweeper's place: buckets as above, then the stash at 65,536; and its tallies (R75). -/
  sweeper : Nat := 0
  tallyPort : Tab Nat := []
  tallyParcel : Tab Nat := []
  /-- The selector of a running FLUSH: the word of PLT_FLUSH (R81), the one parcel it is confined to, if any (R323). -/
  flush : Option (Word × Option Nat) := none
  /-- The running FLUSH came from a ring, whose response it owes (R332). -/
  flushRing : Bool := false
  deriving DecidableEq, Repr

/-! ## Secure channels and associations (spec/04_macsec_associations.md) -/

/-- A channel entry (R90). -/
structure Chan where
  valid : Bool := false
  /-- 1 receive. -/
  dir : Bool := false
  pinned : Bool := false
  suite : Nat := 0
  conf : Bool := false
  offset : Nat := 0
  clearTags : Nat := 0
  sciTag : Bool := false
  es : Bool := false
  scb : Bool := false
  autoNext : Bool := false
  static_ : Bool := false
  swPend : Bool := false
  curAn : Nat := 0
  swAn : Nat := 0
  linePort : Nat := 0
  parcel : Nat := 0
  returnSc : Nat := 0
  returnValid : Bool := false
  authTags : Bool := false
  boundClr : Nat := 0
  /-- Wire order, the first octet least significant. -/
  sci : BitVec 64 := 0
  swAt : BitVec 64 := 0
  replayWindow : Nat := 0
  ssci : Nat := 0
  deriving DecidableEq, Repr

/-- The state of an association (R95). -/
inductive SaSt where
  | empty | installed | active | draining | quarantined | exhausted | revoked | unusable
  deriving DecidableEq, Repr

/-- Key material in a context or a heat: the SAK, its salt, and the slot it came from (R118, R241). -/
structure KeyMat where
  sak : List Byte
  salt : Option (List Byte)
  slot : Option Nat
  slotGen : Nat
  deriving DecidableEq, Repr

/-- An association context (R117) and what the rules add to it. -/
structure Ctx where
  st : SaSt := .empty
  classValid : Bool := false
  cls : Nat := 0
  cmd : Bool := false
  poison : Bool := false
  keyGen : Nat := 0
  /-- TX: the next PN. -/
  next : Nat := 0
  /-- RX: HIGH_PN and FLOOR_PN (R106). -/
  high : Nat := 0
  floor : Nat := 0
  soft : Nat := 0
  limit : Nat := 0
  /-- RESV_END (TX) or the durable FLOOR (RX) of a static-key association, and the value being committed (R111, R113). -/
  resv : Nat := 0
  resvNext : Option Nat := none
  /-- The static-key association waits for its first block before it is INSTALLED (R111). -/
  resvWait : Bool := false
  quarUntil : BitVec 64 := 0
  drainUntil : BitVec 64 := 0
  /-- It was DRAINING when it became QUARANTINED (R96). -/
  wasDraining : Bool := false
  key : Option KeyMat := none
  /-- RX, pinned: the duplicate bitmap (R107), and the PN up to which PNs above the bitmap's range read as marked
  (R316, R400). -/
  bitmap : BitVec 2048 := 0
  onesTo : Nat := 0
  /-- Event 0x187 has been raised (R103). -/
  softDone : Bool := false
  /-- The slot-state table marks its key source revoked (R244). -/
  marked : Bool := false
  deriving DecidableEq, Repr

/-- A key entry that has left its association and awaits zeroization (R118, R138). -/
structure Retired where
  sa : Nat
  keyGen : Nat
  deriving DecidableEq, Repr

/-- A background revocation sweep (R244): the slot revoked, slots and associations counted. -/
structure Sweep where
  slot : Nat
  slots : Nat
  assocs : List Nat
  deriving DecidableEq, Repr

/-- The SEC block and the release stage's port guard. -/
structure Sec where
  chans : Tab Chan := []
  ctxs : Tab Ctx := []
  /-- Associations in the context cache, most recently used first (R115). -/
  cache : List Nat := []
  /-- Pending context fetches, oldest first (R25). -/
  misses : List Nat := []
  retired : List Retired := []
  /-- SA_DELETE that waits for a place in the retire store (R118). -/
  delWait : Option Nat := none
  /-- It came by descriptor. -/
  delRing : Bool := false
  sweeps : List Sweep := []
  /-- Poison flags of statistics blocks (R119). -/
  statPoison : Tab Nat := []
  /-- Stomps in the current window, its start, and the last stomp, per line port (R159). -/
  stomps : Tab Nat := []
  stompStart : BitVec 64 := 0
  stompLast : Tab (BitVec 64) := []
  /-- Running counts of associations revoked and made unusable by one cause (R96, R245). -/
  revoked : Nat := 0
  unusable : Nat := 0
  /-- Temper's memory keys are gone: contexts held in DDR5 fetch as UNUSABLE (R254). -/
  ddrLost : Bool := false
  deriving DecidableEq, Repr

/-! ## Hearth (spec/10_hearth_keys.md) -/

/-- A key slot (R234), its key, its export counter (R240) and the hidden children of a CAK (R242). -/
structure Slot where
  /-- 0 EMPTY, 1 LOADED, 2 REVOKED, 3 RETIRING. -/
  st : Nat := 0
  typ : Nat := 0
  exportable : Bool := false
  persist : Bool := false
  usage : Nat := 0
  /-- 0 imported, 1 generated, 2 derived. -/
  origin : Nat := 0
  parcel : Nat := 0
  ckn : List Byte := []
  rootParent : Bool := false
  parent : Nat := 0
  gen : Nat := 0
  importSeq : Nat := 0
  key : List Byte := []
  exports : Nat := 0
  /-- ICK and KEK. -/
  hidden : Option (List Byte × List Byte) := none
  deriving DecidableEq, Repr

/-- A SAK in a handoff entry (R241). -/
structure Handoff where
  seq : Nat
  mat : KeyMat
  parcel : Nat
  made : BitVec 64
  revoked : Bool := false
  deriving DecidableEq, Repr

/-- One of the 64 handoff entries: the sequence number of its next use, and what it holds. -/
structure HandEnt where
  next : Nat := 0
  held : Option Handoff := none
  deriving DecidableEq, Repr

/-- What a store record holds (R247). -/
inductive Pay where
  /-- Area 0: PARCEL_EPOCH, transport sequences and TENANT by parcel, and the store-loss acknowledgement; the floor of IMAGE_SEQ at
  place 64 of the transport sequences (R274). -/
  | owner (epochs seqs tenants : Tab Nat) (ack : Nat)
  | key (s : Slot)
  /-- Area 2: RESV_END or FLOOR of a static-key association. -/
  | pn (v : Nat)
  /-- Area 3: operating minutes, power-on resets, boots. -/
  | counters (opMin pwr boots : Nat)
  /-- Area 2: a static-key association carried to another device (R320). -/
  | migrated
  /-- Area 3: the pending repair record (R375). -/
  | repair (l : List (Nat × Nat))
  | tombstone
  deriving DecidableEq, Repr

/-- A record in a record slot (R248). -/
structure Rec where
  id : Nat
  gen : Nat
  pay : Pay
  crcOk : Bool := true
  macOk : Bool := true
  deriving DecidableEq, Repr

/-- A record slot (R248). -/
structure RecSlot where
  writes : Nat := 0
  wearOk : Bool := true
  retired : Bool := false
  copy : Option Rec := none
  deriving DecidableEq, Repr

/-- A queued commit (R249): the record, the slot being written, and whether it is the retry. -/
structure Commit where
  area : Nat
  id : Nat
  pay : Pay
  retry : Bool := false
  deriving DecidableEq, Repr

/-- A Quench scope that runs (R254, R255). -/
structure Quench where
  /-- 3 PARCEL, 4 ERASE, 5 PURGE. -/
  scope : Nat
  parcel : Nat
  since : BitVec 64
  /-- Started through HRT_CMD, which stays BUSY until it completes (R260). -/
  cmd : Bool
  deriving DecidableEq, Repr

/-- Hearth. -/
structure Hrt where
  slots : Tab Slot := []
  hands : Tab HandEnt := []
  /-- Slots whose old material awaits zeroization after a rewrite (R243). -/
  retire : List Nat := []
  /-- The owner area as Hearth holds it (R247). -/
  epochs : Tab Nat := []
  seqs : Tab Nat := []
  tenants : Tab Nat := []
  ack : Nat := 0
  /-- BBRAM_KEK: which random draw it is, none when zeroized. -/
  kek : Option Nat := none
  /-- Record slot `i` of area `a` at index 4,096 a + i. -/
  store : Tab RecSlot := []
  /-- Commits queued, oldest first (R249). -/
  commits : List Commit := []
  /-- The records areas 1 and 2 list as existing: 1,000,000 area + id (R251). -/
  listed : List Nat := []
  /-- HRT_RANDOM requests since the last reseed, and when that was (R257). -/
  draws : Nat := 0
  reseed : BitVec 64 := 0
  passes : Nat := 0
  /-- Scopes that run, oldest first. -/
  quench : List Quench := []
  /-- Roots, HUK register and identity key have been zeroized (R254 PURGE). -/
  purged : Bool := false
  /-- ERASE or PURGE has run: fail-closed until a CHIP reset (R254). -/
  closed : Bool := false
  /-- Parcels whose PARCEL_ROOT has been zeroized (R254). -/
  rootGone : BitVec 64 := 0
  /-- The 90 % event of an area has been raised (R252). -/
  nearFull : BitVec 5 := 0
  /-- Slots whose material was found uncorrectable, and when (R370). -/
  badSlots : Tab (Option (BitVec 64)) := []
  deriving DecidableEq, Repr

/-! ## Frames in the device (spec/01, 05, 06, 07, 08) -/

/-- The release path of a decrypt heat (R153); encrypt frames stay `pending` until they pass. -/
inductive Rel where
  | pending | specFlow | tailWait | verified | stomped | discard | done
  deriving DecidableEq, Repr

/-- Why a frame will be counted as dropped: event, scope, parcel, counter. -/
structure Cause where
  num : Nat
  scope : Nat
  parcel : Option Nat
  cnt : CntRef
  deriving DecidableEq, Repr

/-- The admission of an express frame (R198): times in ns of DAT_CYC, lengths in wire ns. -/
structure Adm where
  tIn : Rat
  tE : Rat
  w : Rat
  limit : Rat
  deriving DecidableEq, Repr

/-- A frame in the device. -/
structure Frm where
  inPort : Nat
  /-- Clear-side arrival. -/
  enc : Bool
  /-- DA through FCS as received. -/
  bytes : List Byte
  /-- An uncorrectable codeword overlaps it (R459). -/
  badFec : Bool := false
  /-- Ingress timestamp in quarter-nanoseconds of Datum (R217), and in ns of DAT_CYC (R203). -/
  inTs : Int := 0
  tIn : Rat := 0
  synced : Bool := false
  parcel : Nat := 0
  cls : Nat := 0
  cmd : Bool := false
  express : Bool := false
  bypass : Bool := false
  origin : Bool := false
  sc : Nat := 0
  an : Nat := 0
  outPort : Nat := 0
  /-- The requested mode is SPECULATIVE, and the effective mode was (R51, R148). -/
  specReq : Bool := false
  spec : Bool := false
  sample : Bool := false
  stored : Bool := false
  learn : Option LearnReq := none
  /-- In its port's staging area, not yet dispatched. -/
  staged : Bool := false
  waitCtx : Bool := false
  /-- It has been counted as waiting for an anvil (R130, R131). -/
  waited : Bool := false
  /-- It waited for its context (R25). -/
  missed : Bool := false
  /-- Its last byte has arrived, or it was cut short; and how it ended. -/
  rxEnd : Bool := false
  rxBad : Option Cause := none
  heat : Bool := false
  keyGen : Nat := 0
  key : Option KeyMat := none
  pn : Nat := 0
  anvil : Option Nat := none
  stream : Nat := 0
  /-- The shadow slot that holds it, and whether one ever did. -/
  shadow : Option Nat := none
  shadowed : Bool := false
  pace : Rat := 0
  tHand : BitVec 64 := 0
  /-- When its stream last began to issue, and the block slots issued before that. -/
  tIssue : BitVec 64 := 0
  issued : Nat := 0
  /-- When the shadow slot took it. -/
  tSave : BitVec 64 := 0
  /-- Block slots and output length (R124, R133). -/
  slots : Nat := 0
  lOut : Nat := 0
  /-- The output frame, FCS included. -/
  out : List Byte := []
  rel : Rel := .pending
  verdict : Option Bool := none
  /-- Its first byte has passed to Bellows; bytes passed of a stomped frame. -/
  first : Bool := false
  passed : Nat := 0
  /-- Its last byte has passed to Bellows. -/
  last : Bool := false
  /-- A word of it carries a poison mark: on the way in, or in Bellows (R156, R370). -/
  poison : Bool := false
  outPoison : Bool := false
  /-- Tail-dropped at its first byte; counted when it settles (R167). -/
  tailDrop : Bool := false
  queue : Option Nat := none
  cells : Nat := 0
  ahead : Nat := 0
  dei : Bool := false
  /-- Datum when its first byte reached Bellows (R178). -/
  enqDat : BitVec 64 := 0
  enqSeq : Nat := 0
  /-- On the wire, or preempted on it (R170, R195); when its transmission was chosen, in ns of DAT_CYC, and its egress
  timestamp there. -/
  sending : Bool := false
  preempted : Bool := false
  tStart : Rat := 0
  tOut : Option Rat := none
  adm : Option Adm := none
  /-- Cells held for it from admission to enqueue (R168). -/
  held : Nat := 0
  deadline : Nat := 0
  /-- Ended early: the cause it is counted under (R24, R36, R37). -/
  ended : Option Cause := none
  deriving DecidableEq, Repr

/-- A queue record's own state (R181). -/
structure Queue where
  shape : Bool := false
  slope : Nat := 0
  quantum : Nat := 1
  limit : Nat := 16384
  hi : Nat := 65535
  lo : Nat := 65535
  depth : Nat := 0
  frames : Nat := 0
  deficit : Nat := 0
  /-- Credit in bytes. -/
  credit : Rat := 0
  /-- The last sample, and the highest values since Q_CLR_MAX. -/
  hol : Nat := 0
  sampDepth : Nat := 0
  maxDepth : Nat := 0
  maxDelay : Nat := 0
  deriving DecidableEq, Repr

/-- Bellows. -/
structure Blw where
  queues : Tab Queue := []
  /-- Start tag of class c at port n at 8 n + c, and virtual time of port n (R171). -/
  tags : Tab (BitVec 48) := []
  vtime : Tab (BitVec 48) := []
  /-- Bit c: class c of port n was active after the last selection (R172). -/
  active : Tab Nat := []
  /-- The round of class c at port n: queues in order, head first; and 1 + the queue whose visit runs (R173). -/
  rounds : Tab (List Nat) := []
  visit : Tab Nat := []
  /-- Policer 2 p + d: credit in 1/65,536 frame and what is carried (R176). -/
  police : Tab Bucket := []
  /-- Free cells were at or under XRES_CELLS (R168). -/
  low : Bool := false
  deriving DecidableEq, Repr

/-- A laid-out gate boundary (R190): its Datum time at the pins in ns, the vector, the entry and the list state from it. -/
structure Bound where
  at_ : Int
  gates : Nat
  entry : Nat
  state : Nat
  deriving DecidableEq, Repr

/-- Gates of one egress port. -/
structure Gate where
  /-- Entries: interval and gates. -/
  act : Tab (Word × Word) := []
  pend : Tab (Word × Word) := []
  /-- Boundaries laid out and not reached, in order; boundaries reached, newest first. -/
  laid : List Bound := []
  past : List Bound := []
  /-- Datum in ns up to which boundaries are laid out; the list state there; the last boundary laid; whether the list must
  be resumed there under a stepped Datum (R193). -/
  laidTo : Option Int := none
  front : Nat := 0
  lastAt : Int := 0
  rephase : Bool := false
  /-- The instant of an armed swap, once it has been fixed. -/
  swapAt : Option Int := none
  /-- Writes that await the horizon, oldest first: the cycle, the register's key and the word it held before (R190). -/
  overwritten : List (BitVec 64 × Nat × Word) := []
  /-- An entry of the acting, of the pending list is poisoned; the frame whose admission entry is (R370). -/
  broken : Bool := false
  pendBroken : Bool := false
  admBad : Option Nat := none
  deriving DecidableEq, Repr

/-! ## Datum and Meridian (spec/09_datum_meridian_time.md) -/

/-- A benchmark capture (R223). -/
structure BenchCap where
  ns : BitVec 64
  quarter : Nat
  rise : Bool
  sync : Bool
  mlock : Bool
  phase : Nat
  deriving DecidableEq, Repr

/-- A benchmark input: its FIFO, oldest first; the cycle of its last edge and of its last event. -/
structure Bench where
  fifo : List BenchCap := []
  edge : Option (BitVec 64) := none
  told : Option (BitVec 64) := none
  deriving DecidableEq, Repr

/-- A stake as armed (R224, R225). -/
structure Stake where
  mode : Nat := 0
  reqSync : Bool := false
  time : BitVec 64 := 0
  period : Nat := 0
  count : Nat := 0
  divide : Nat := 1
  width : Nat := 0
  /-- The next firing index not fixed; in MERIDIAN mode, its Datum time. -/
  idx : Nat := 0
  merNext : Rat := 0
  /-- The cycles of fixed firings, in order, and whether each needs Meridian rather than SYNC: 0 neither, 1 SYNC, 2 Meridian. -/
  fixed : List (BitVec 64 × Nat) := []
  /-- The cycle at which the output returns to its inactive level. -/
  on : Option (BitVec 64) := none
  deriving DecidableEq, Repr

/-- Datum and Meridian. -/
structure Dat where
  /-- What Datum has advanced beyond its last whole 2^-32 ns, and the offset left to slew, in ns. -/
  rem : Rat := 0
  slew : Rat := 0
  /-- Consecutive measurements within SYNC_NS, and beyond UNSYNC_NS (R213). -/
  good : Nat := 0
  bad : Nat := 0
  /-- Cycle of the last measurement or REPORT, and of entry to HOLDOVER. -/
  meas : BitVec 64 := 0
  hold : BitVec 64 := 0
  /-- The PPS_IN edge that awaits its message: quarter-ns of Datum, and the cycle (R215). -/
  pps : Option (Int × BitVec 64) := none
  tod : Option Nat := none
  /-- PPS_OUT is high since that cycle; the last whole second reached; the last TOD_OUT message (R219). -/
  ppsOut : Option (BitVec 64) := none
  ppsSec : Int := 0
  todOut : List Byte := []
  /-- Meridian's reference (t_ref, φ_ref) and its frequency in 2^-16 Hz (R222). -/
  merT : Rat := 0
  merPhi : Nat := 0
  merF : Nat := 0
  /-- Datum of the last edge that starts a period, of the last accepted edge, and of entry to HOLDOVER. -/
  merPrev : Option Rat := none
  merLast : Rat := 0
  merHold : Rat := 0
  merGood : Nat := 0
  merBad : Nat := 0
  bench : Tab Bench := []
  stakes : Tab Stake := []
  deriving DecidableEq, Repr

/-- Ports and lanes (spec/19_lanes_and_ports.md): when each port entered its receive state, and its last FEC interval; per lane,
up to when its checker's bits are counted and when QUAL was computed; reference clocks that are absent, and reported absent since
the CHIP reset. -/
structure Prt where
  since : Tab (BitVec 64) := []
  fecAt : Tab (BitVec 64) := []
  prbsAt : Tab (BitVec 64) := []
  qualAt : Tab (BitVec 64) := []
  refGone : BitVec 4 := 0
  refTold : BitVec 4 := 0
  deriving DecidableEq, Repr

/-! ## Environment (spec/17_environment_tamper.md) and power (spec/20_power_reset_bringup.md) -/

/-- A doubled decision between its two computations (R414): a Quench scope (PARCEL 3, ERASE 4, PURGE 5) of a response or of the
QUENCH command, or, with scope 0, a Tie takeover. -/
structure Dec where
  scope : Nat
  parcel : Nat := 0
  /-- Started through HRT_CMD. -/
  cmd : Bool := false
  /-- The source of the response (R409). -/
  source : Nat := 0
  start : BitVec 64
  /-- Core cycles to the second computation. -/
  delay : Nat
  deriving DecidableEq, Repr

/-- The response engine and the power-up sequence. -/
structure Env where
  /-- Per source: 0 within bounds, 1 in warning, 2 in alarm. -/
  cond : Tab Nat := []
  /-- Decisions pending, oldest first. -/
  decs : List Dec := []
  /-- When programming of the oldest pending evidence bit began (R415). -/
  evAt : Option (BitVec 64) := none
  /-- PORST_N asserted, or VDD_CORE below its threshold (R18); the core PLL locked (R472, R477). -/
  held : Bool := true
  pll : Bool := false
  deriving DecidableEq, Repr

/-! ## Tie (spec/16_tie_pair.md) -/

/-- A block of 256 frames closed and awaiting comparison (R392 to R394). -/
structure TieBlk where
  num : Nat
  digest : BitVec 64
  first : BitVec 64
  closed : BitVec 64
  excused : Bool
  deriving DecidableEq, Repr

/-- The frame sequence of an egress (port, class) (R392). -/
structure TieSeq where
  crc : BitVec 64 := 0
  frames : Nat := 0
  num : Nat := 0
  /-- When its open block's first frame entered comparison, and whether the block is excused (R394). -/
  first : BitVec 64 := 0
  excused : Bool := false
  own : List TieBlk := []
  theirs : List (Nat × BitVec 64) := []
  /-- Datum in ns of its last realignment, and of one named and not reached (R393). -/
  base : BitVec 64 := 0
  realign : Option (BitVec 64) := none
  deriving DecidableEq, Repr

/-- A message queued on the Tie link: its TYPE and what its payload says (R387). -/
structure TieOut where
  typ : Nat
  args : List Nat := []
  data : List Byte := []
  deriving DecidableEq, Repr

/-- A failure recognised (R398): the cycle, the cause as TIE_LAST_TAKEOVER gives it, and whether the guard is wide (R400). -/
structure TieFail where
  at_ : BitVec 64
  cause : Nat
  wide : Bool
  deriving DecidableEq, Repr

/-- Tie. -/
structure Tie where
  seqs : Tab TieSeq := []
  /-- Datum in ns of the last realignment of every sequence, and of one named and not reached (R393). -/
  base : BitVec 64 := 0
  all : Option (BitVec 64) := none
  /-- The last happening that excuses mismatches (R394). -/
  excused : Option (BitVec 64) := none
  /-- SEQ of the last message sent, of the last received, and the last message sent. -/
  txSeq : Nat := 0
  rxSeq : Option Nat := none
  sent : Option TieOut := none
  /-- The mark store, 2 sa + direction; event 0x3C9 raised at 3,072 entries (R397). -/
  marks : Tab Nat := []
  told : Bool := false
  /-- Marks to send, oldest first (R396); a mark refresh is owed or under way (R388). -/
  outMarks : List Nat := []
  refresh : Bool := false
  /-- As the active: when each PN, by 2 sa + direction, last moved (R388). -/
  used : Tab (BitVec 64) := []
  /-- Raised NEXT_PN armed and not yet applied, by association (R400). -/
  armed : Tab Nat := []
  /-- The partner's last HEARTBEAT; when its loss was found. -/
  heard : BitVec 64 := 0
  lost : Option (BitVec 64) := none
  beat : BitVec 64 := 0
  /-- The checks of formation passed, or failed; the partner's configuration measurement (R390). -/
  checked : Bool := false
  refused : Bool := false
  cfg : List Byte := []
  /-- SYNC of the partner, as its last HEARTBEAT gave it (R403). -/
  pSync : Bool := false
  /-- The partner is the standby of the pair. -/
  standby : Bool := false
  /-- STAGE reached CONFIG_APPLIED at that cycle (R389). -/
  since : Option (BitVec 64) := none
  /-- TIE_HOLD_OUT asserted at that cycle, or TIE_HOLD_IN deasserted since (R384). -/
  wait : Option (BitVec 64) := none
  fail : Option TieFail := none
  /-- The last takeover decision (R414), and the last failed one's cause, which persists. -/
  decided : BitVec 64 := 0
  /-- Self-check: when it began, both results, the cycle of the mismatched block's first frame (R395). -/
  check : Option (BitVec 64) := none
  checkFrom : BitVec 64 := 0
  checkAt : Option (BitVec 64) := none
  own : Option Bool := none
  partner : Option Bool := none
  /-- When a fault that a self-check looks for was last recorded: 1 of an anvil, 2 ECC, 3 Temper, 4 lockstep, 5 Quench (R395). -/
  faultAt : Tab (Option (BitVec 64)) := []
  /-- Own fault reported; the last fail-over restart (R404), kept across resets. -/
  faulted : Bool := false
  restarted : Option (BitVec 64) := none
  /-- T of a swap, in ns of Datum; this chip was the active; the operating minute of the last swap (R402, R403). -/
  swap : Option (BitVec 64) := none
  swapActive : Bool := false
  swapMin : Nat := 0
  deriving DecidableEq, Repr

/-! ## Stored data (spec/15_stored_data_protection.md) and external memory (spec/14_temper_external_memory.md) -/

/-- Error correction and repair.  Words are (memory, word index) pairs (R368). -/
structure Ecc where
  /-- Words rewritten after a correctable error (R371). -/
  fixed : List (Nat × Nat) := []
  /-- Per memory: the cycles of its corrected words within the last 3,600 s, and of its last event 0x3A8 (R371). -/
  ces : Tab (List (BitVec 64)) := []
  told : Tab (Option (BitVec 64)) := []
  /-- The pending repair record, oldest first (R375). -/
  pend : List (Nat × Nat) := []
  /-- Words read in the current pass (R374). -/
  words : Nat := 0
  /-- Fuse entries programmed in the field, and spares used per macro (R377). -/
  fuses : Nat := 0
  spares : Tab Nat := []
  deriving DecidableEq, Repr

/-- A line of DDR5: 64 bytes and the poison mark (R353). -/
structure Line where
  bytes : List Byte
  poison : Bool := false
  deriving DecidableEq, Repr

/-- A region as the layout in force has it (R351): base and size in MiB. -/
structure Region where
  prot : Bool := false
  secure : Bool := false
  base : Nat := 0
  size : Nat := 0
  deriving DecidableEq, Repr

/-- Temper. -/
structure Tmp where
  /-- The layout in force: the protected part's data in MiB, the valid regions (R350, R351). -/
  prot : Nat := 0
  regions : Tab (Option Region) := []
  /-- Lines of protected data by DA / 64, their minors, and each page's M (R353). -/
  lines : Tab (Option Line) := []
  minors : Tab Nat := []
  majors : Tab (BitVec 64) := []
  /-- Lines of the unprotected remainder that have been written; a CHIP reset keeps them (R352). -/
  plain : Tab (Option Line) := []
  /-- Failed nodes: level and index (R359). -/
  failed : List (Nat × Nat) := []
  /-- Read-only pages (R362). -/
  ro : List Nat := []
  /-- Cycles of uncorrectable errors within the last 3,600 s, and of the last event 0x389 (R360). -/
  ues : List (BitVec 64) := []
  told : Option (BitVec 64) := none
  /-- Lines read in the current patrol pass; corrected, uncorrectable and MAC-failed lines found in it (R365). -/
  walked : Nat := 0
  walkCe : Nat := 0
  walkUe : Nat := 0
  walkMac : Nat := 0
  /-- What the last access returned to its master: bytes, poison mark, bus error (R356, R357, R364). -/
  last : Option Line := none
  err : Bool := false
  deriving DecidableEq, Repr

/-! ## Parcels (spec/12_parcels.md) -/

/-- A parcel reset in progress (R311, R312): its kind, its boundary as a cycle and as the first frame number after it, whether the
parcel was frozen, frames discarded and late, and whether a release follows. -/
structure PReset where
  hard : Bool
  at_ : BitVec 64
  bound : Nat
  frozen : Bool
  gone : Nat := 0
  late : Nat := 0
  release : Bool := false
  deriving DecidableEq, Repr

/-- What a parcel has in progress: a reset, or a freeze since a cycle with the frames it has discarded (R314). -/
structure Par where
  reset : Option PReset := none
  freeze : Option (BitVec 64) := none
  gone : Nat := 0
  deriving DecidableEq, Repr

/-! ## Boot flash and commits (spec/11_signed_control.md) -/

/-- A boot record (R265). -/
structure BootRec where
  seq : Nat
  fw : Nat
  cfg : Nat
  deriving DecidableEq, Repr

/-- What IMAGE_VERIFY found of the staged image (R275). -/
structure Verified where
  meas : List Byte
  seq : Nat
  disrupt : Bool
  deriving DecidableEq, Repr

/-- What PRESTAGE did, as its removal needs it (R276): what stood there before. -/
inductive Undo where
  | rule (i : Nat) (old : Rule)
  | chan (sc : Nat) (old : Chan)
  | sa (sa : Nat)
  | slot (n : Nat) (old : Slot)
  | plat (e : BitVec 128)
  | queue (q : Nat) (old : Queue)
  | gate (n : Nat) (pend : Tab (Word × Word)) (words : List Word) (armed : Bool)
  | ack (old : Nat)
  deriving DecidableEq, Repr

/-- A commit scheduled or running (R275, R276): its instant, where it has one; the drain time of COMMIT in ms; the function it
came from; whether PRESTAGE has begun and when it ended; when SWITCH was, and whether the boot record names the new image. -/
structure Run where
  meas : List Byte
  at_ : Option (BitVec 64)
  drain : Nat
  /-- It replaces an image in force. -/
  replaces : Bool
  undo : List Undo := []
  prestaged : Bool := false
  switched : Option (BitVec 64) := none
  recorded : Bool := false
  /-- Associations whose drain POSTSTAGE has begun. -/
  draining : List Nat := []
  deriving DecidableEq, Repr

/-- Boot flash (R265), in which bytes beyond those listed are erased; and what boot, commits and updates keep. -/
structure Ctl where
  fwA : List Byte := []
  fwB : List Byte := []
  cfgA : List Byte := []
  cfgB : List Byte := []
  rec0 : Option BootRec := none
  rec1 : Option BootRec := none
  /-- VERSION of the running firmware (R293). -/
  fwVersion : Nat := 0
  /-- When TRIAL began (R287). -/
  trial : Option (BitVec 64) := none
  /-- Measurement, SVN and VERSION of the firmware that a trial hands back to (R288). -/
  before : List Byte × Nat × Nat := ([], 0, 0)
  verified : Option Verified := none
  run : Option Run := none
  /-- A life-cycle bit programmed whose event 0x00D is still to come (R290). -/
  lcsNew : Bool := false
  /-- Power-on resets, and resets in all, not yet counted in the store (R478). -/
  owedPower : Nat := 1
  owedBoots : Nat := 1
  deriving DecidableEq, Repr

/-! ## Why a step can stop -/

/-- Faults: none of the commands of the spec's table stops the block. -/
inductive Fault where
  /-- An access to an address the spec says does not exist.  Raised by no meaning; kept so that the type has a name to
  give. Safe. -/
  | noSuchAddress
  deriving DecidableEq, Repr

/-- Refusals. -/
inductive Refusal where
  /-- No meaning yet for the command of that mnemonic. Safe. -/
  | notModelled (mnemonic : String)
  /-- The operands spell no command of the table (see WellFormed): raised by the meaning whose operand names an
  object the spec does not give. Safe. -/
  | illFormed (what : String)
  deriving DecidableEq, Repr

/-- The block: registers by key (Machine/RegMap.lean), counters by index (R435), time, and the structures above. -/
structure State where
  /-- The commands that are waiting, first in, first out. -/
  pending : List Instr := []
  regs : Tab Word := []
  cnt : Tab (BitVec 64) := []
  /-- DAT_CYC (R209): core cycles since reset. -/
  cyc : BitVec 64 := 0
  /-- Datum in units of 2^-32 ns, two's complement: 64 bits of ns and 32 of fraction (R209). -/
  datum : BitVec 96 := 0
  /-- The model's own: how many free values have been drawn. -/
  free : Nat := 0
  /-- Operating minutes, power-on resets and boots since manufacture: Hearth store area 3 (R247, R478). -/
  opMin : Nat := 0
  powerCycles : Nat := 0
  boots : Nat := 0
  holdOff : Tab (Option HoldOff) := []
  fns : Tab FnS := []
  /-- Ring commands in progress, oldest first (R332). -/
  waits : List Wait := []
  fbk : Fbk := {}
  otp : Otp := {}
  /-- Statistics of associations, 8 per association: 8 sa + k (R119). -/
  saStat : Tab (BitVec 64) := []
  /-- BLW_TAIL_DROP of queue q (R183). -/
  qDrop : Tab (BitVec 64) := []
  /-- Responses requested of the engine, oldest first (R411). -/
  requests : List RespReq := []
  rules : Tab Rule := []
  bypass : Tab Bucket := []
  /-- The cycles from which the next 1.024 µs of the bypass buckets, the policers and the queue samples count. -/
  bypAt : BitVec 64 := 0
  polAt : BitVec 64 := 0
  sampAt : BitVec 64 := 0
  dat : Dat := {}
  plat : Plat := {}
  sec : Sec := {}
  hrt : Hrt := {}
  /-- Frames in the device, by number in order of arrival. -/
  frames : Tab (Option Frm) := []
  nextFrame : Nat := 0
  nextEnq : Nat := 0
  blw : Blw := {}
  gates : Tab Gate := []
  prt : Prt := {}
  /-- Per anvil: when it last held a stream (R141), its last known-answer test (R142), the start of a RETURN self-test (R144)
  and of a wake (R141). -/
  anvIdle : Tab (BitVec 64) := []
  anvKat : Tab (BitVec 64) := []
  anvRet : Tab (BitVec 64) := []
  anvWake : Tab (Option (BitVec 64)) := []
  env : Env := {}
  tie : Tie := {}
  ecc : Ecc := {}
  tmp : Tmp := {}
  par : Tab Par := []
  ctl : Ctl := {}
  /-- The PCIe link: in L0, its speed and width codes (R327, R344). -/
  linkUp : Bool := false
  linkSpeed : Nat := 0
  linkWidth : Nat := 0
  /-- The bytes the last SMBus transfer returned, none where it was NACKed (R493). -/
  smbus : Option (List Byte) := none
  deriving DecidableEq, Repr

/-- Right after reset: every register at its reset value, every table empty. -/
def State.reset : State := {}

end Sys2Proof.Machine
end

