-- ==== Sys2Proof/Machine/Ops.lean ====
section
/-! DEFINITION. Machine/Ops.lean: the shared operations over registers, counters, time, free values, logs, events and
message rings. -/

namespace Sys2Proof.Machine

/-- What a meaning answers. -/
abbrev Out := Host.Outcome State Fault Refusal

/-! ## Registers (R12 to R18) -/

/-- The register word at key `a`. -/
def State.word (s : State) (a : Nat) : Word := tabGet (rstOf a) s.regs a

/-- The state with the register word at key `a` replaced. -/
def State.setWord (s : State) (a : Nat) (w : Word) : State :=
  { s with regs := tabSet (rstOf a) s.regs a w }

/-- The value of a field. -/
def State.fld (s : State) (f : Fld) : Nat := bitsOf (s.word f.addr) f.lo f.width

/-- A one-bit field as a Bool. -/
def State.flag (s : State) (f : Fld) : Bool := s.fld f != 0

/-- The state with a field replaced: how the hardware sets a field, whatever its access type. -/
def State.setFld (s : State) (f : Fld) (v : Nat) : State :=
  s.setWord f.addr (putBits (s.word f.addr) f.lo f.width v)

def State.setFlag (s : State) (f : Fld) (b : Bool) : State := s.setFld f (if b then 1 else 0)

/-- The fields of every register taken back to reset in the domains `hit` (R18). -/
def State.resetDomains (s : State) (hit : Dom → Bool) : State :=
  { s with regs := tabMapKeep rstOf (fun a w => match regDesc a with
                                          | some d => d.resetBy hit w
                                          | none => w) s.regs }

/-! ## Counters (R435 to R439) -/

def State.count (s : State) (i : Nat) : BitVec 64 := tabGet 0 s.cnt i

def State.setCount (s : State) (i : Nat) (v : BitVec 64) : State := { s with cnt := tabSet 0 s.cnt i v }

/-- A counter raised by `n`, modulo 2^64 (R437). -/
def State.bumpBy (s : State) (i n : Nat) : State := s.setCount i (s.count i + BitVec.ofNat 64 n)

def State.bump (s : State) (i : Nat) : State := s.bumpBy i 1

/-! ## Time -/

/-- Core cycles in a microsecond, a millisecond and a second at 1.5 GHz (R7). -/
def cycUs : Nat := 1500
def cycMs : Nat := 1500000
def cycS : Nat := 1500000000

/-- Core cycles since the cycle `t`. -/
def State.elapsed (s : State) (t : BitVec 64) : Nat := (s.cyc - t).toNat

/-- Whether `n` core cycles have passed since the cycle `t`. -/
def State.passed (s : State) (t : BitVec 64) (n : Nat) : Bool := decide (n ≤ s.elapsed t)

/-- Datum in whole ns, as its 64 bits (R11, R209). -/
def State.datumNs (s : State) : BitVec 64 := s.datum.extractLsb' 32 64

/-- The signed difference `t - now` of R209 and R11, in ns. -/
def State.until_ (s : State) (t : BitVec 64) : Int := (t - s.datumNs).toInt

/-! ## Free values -/

/-- A value the spec leaves open: the next of `Config.openValue`. -/
def State.openVal (s : State) : Nat := Config.openValue s.free

/-- A random value: the next of `Config.random`. -/
def State.randomVal (s : State) : Nat := Config.random s.free

/-- One free value used up. -/
def State.drew (s : State) : State := { s with free := s.free + 1 }

/-- A Quench scope performed within a step: LAST_SCOPE, and a LAST_TIME that the spec does not state (R254, R255). -/
def State.quenched (s : State) (scope : Nat) : State :=
  ((s.setFld F.HRT_QUENCH_LAST_SCOPE scope).setFld F.HRT_QUENCH_LAST_TIME s.openVal).drew

/-! ## Bytes (R11) -/

/-- `n` bytes of a number, least significant first. -/
def leBytes : Nat → Nat → List Byte
  | 0, _ => []
  | n + 1, v => BitVec.ofNat 8 v :: leBytes n (v / 256)

/-- `n` bytes of a number, most significant first (wire order). -/
def beBytes (n v : Nat) : List Byte := (leBytes n v).reverse

/-- The number little-endian bytes spell. -/
def leNat : List Byte → Nat
  | [] => 0
  | b :: t => b.toNat + 256 * leNat t

/-- The number big-endian bytes spell. -/
def beNat (l : List Byte) : Nat := leNat l.reverse

/-- `n` bytes from offset `o`. -/
def slice (l : List Byte) (o n : Nat) : List Byte := (l.drop o).take n

/-- A MAC of 16 bytes as a number. -/
def mac128 (l : List Byte) : Nat := leNat (l.take 16)

/-- The little-endian field of `n` bytes at offset `o`; bytes that are not there read zero. -/
def leAt (l : List Byte) (o n : Nat) : Nat := leNat (slice l o n)

def beAt (l : List Byte) (o n : Nat) : Nat := beNat ((slice l o n) ++ List.replicate (n - (slice l o n).length) 0)

/-- `n` zero bytes. -/
def zeros (n : Nat) : List Byte := List.replicate n 0

/-- The bytes of an ASCII label. -/
def label (t : String) : List Byte := t.toList.map fun c => BitVec.ofNat 8 c.toNat

/-- Little-endian register words of bytes, four at a time. -/
def leWords : Nat → List Byte → List Word
  | 0, _ => []
  | n + 1, l => BitVec.ofNat 32 (leNat (l.take 4)) :: leWords n (l.drop 4)

def wordBytes (l : List Word) : List Byte := l.flatMap fun w => leBytes 4 w.toNat

/-- Consecutive register words from key `a`. -/
def State.words (s : State) (a n : Nat) : List Word := (List.range n).map fun i => s.word (a + 4 * i)

/-- Consecutive register words replaced from key `a`. -/
def State.setWords (s : State) : Nat → List Word → State
  | _, [] => s
  | a, w :: t => (s.setWord a w).setWords (a + 4) t

/-! ## Functions, rings and messages (R328, R329, R338 to R343) -/

def State.fn (s : State) (f : Nat) : FnS := tabGet {} s.fns f

def State.setFn (s : State) (f : Nat) (x : FnS) : State := { s with fns := tabSet {} s.fns f x }

/-- A ring size the spec admits: a power of two from 64 to 4,096 (R328). -/
def ringSizeOk (n : Nat) : Bool := [64, 128, 256, 512, 1024, 2048, 4096].contains n

/-- Entries the host has not handed back (R329). -/
def State.msgUsed (s : State) (f : Nat) : Nat :=
  let n := s.fld (F.R2_MSG_SIZE f)
  (s.fld (F.R2_MSG_TAIL f) + 2 * n - s.fld (F.R2_MSG_HEAD f)) % (2 * n)

/-- Entries free and not reserved for a command in progress (R341). -/
def State.msgFree (s : State) (f : Nat) : Nat :=
  s.fld (F.R2_MSG_SIZE f) - s.msgUsed f - s.fld (F.R2_RING_STATUS_OUTSTANDING f)

/-- Bytes 0 to 47 of an entry (R338). -/
def Msg.head (m : Msg) : List Byte :=
  leBytes 1 m.kind ++
  leBytes 1 ((if m.phase then 1 else 0) + (if m.macValid then 2 else 0) + (if m.alarm then 4 else 0)) ++
  leBytes 2 m.code ++ leBytes 1 m.status ++ leBytes 1 m.parcel ++ zeros 2 ++ leBytes 8 m.seq ++
  leBytes 4 m.tagScope ++ leBytes 4 m.lenArg ++ leBytes 8 m.datum.toNat ++ m.data

/-- MSI-X after an entry of vector `v` is posted: pending where masked, sent at once, or held for coalescing of
`us` microseconds (R342). -/
def Vec.post (v : Vec) (now : BitVec 64) (us : Nat) : Vec :=
  if v.masked then { v with pending := true }
  else if us = 0 then { v with sent := v.sent + 1, unsignalled := none }
  else match v.unsignalled with
    | some _ => v
    | none => { v with unsignalled := some now }

/-- The vector of an entry signalled (R342). -/
def State.signal (s : State) (f v : Nat) : State :=
  let x := s.fn f
  s.setFn f <| match v with
  | 0 => { x with vec0 := x.vec0.post s.cyc (min 100 (s.fld (F.R2_COALESCE_RSP_US f))) }
  | 1 => { x with vec1 := x.vec1.post s.cyc (min 100 (s.fld (F.R2_COALESCE_EVT_US f))) }
  | 2 => { x with vec2 := x.vec2.post s.cyc 0 }
  | _ => { x with vec3 := x.vec3.post s.cyc 0 }

/-- An entry of zeros. -/
def Msg.blank : Msg :=
  { kind := 0, phase := false, macValid := false, alarm := false, code := 0, status := 0, parcel := 0, seq := 0,
    tagScope := 0, lenArg := 0, datum := 0, data := zeros 16, mac := 0 }

/-- An entry written at MSG_TAIL of function `f`, with its PHASE, and its vector signalled (R329, R340, R342). -/
def State.postEntry (s : State) (f v : Nat) (m : Msg) : State :=
  let n := s.fld (F.R2_MSG_SIZE f)
  let t := s.fld (F.R2_MSG_TAIL f)
  let m := { m with phase := (t / n) % 2 == 0 }
  let x := s.fn f
  ((s.setFn f { x with ring := tabSet Msg.blank x.ring (t % n) m }).setFld (F.R2_MSG_TAIL f)
    ((t + 1) % (2 * n))).signal f v

/-- An EVENT or OVERFLOW entry completed with its MSEQ and, under a session, its MAC (R281, R338). -/
def State.postUnsolicited (s : State) (f v : Nat) (m : Msg) : State :=
  let x := s.fn f
  let n := s.fld (F.R2_MSG_SIZE f)
  let m := { m with seq := x.mseq + 1, datum := s.datumNs, phase := (s.fld (F.R2_MSG_TAIL f) / n) % 2 == 0 }
  let m := match x.session with
    | some q => let m := { m with macValid := true }
                { m with mac := mac128 (Config.kmac256 q.kRsp m.head 128 (label "ZGD msg mac")) }
    | none => m
  (s.setFn f { x with mseq := x.mseq + 1 }).postEntry f v m

/-- The OVERFLOW owed by R341, posted once an unreserved entry is free on an enabled ring. -/
def State.flushLost (s : State) (f : Nat) : State :=
  let x := s.fn f
  if s.flag (F.R2_RING_CTL_MSG_EN f) && !x.stopped && x.lost != 0 && s.msgFree f != 0 then
    let m := { Msg.blank with
      kind := 3, lenArg := x.lost, data := leBytes 2 x.lostFirst ++ leBytes 2 x.lostLast ++ zeros 12 }
    (s.setFn f { x with lost := 0, lostFirst := 0, lostLast := 0 }).postUnsolicited f 3 m
  else s

/-- An event that could not be posted on the ring: counted, its number held as first and last (R341). -/
def State.loseEvent (s : State) (f num : Nat) : State :=
  let x := s.fn f
  let k := s.fld (F.R2_MSG_LOST f)
  (s.setFn f { x with lost := x.lost + 1, lostFirst := if x.lost = 0 then num else x.lostFirst, lostLast := num }).setFld
    (F.R2_MSG_LOST f) (if k = 2 ^ 32 - 1 then k else k + 1)

/-- One occurrence of an event as its message carries it (R338, R339). -/
structure Occ where
  num : Nat
  scope : Nat := 0
  arg : Nat := 0
  /-- The parcel its scope belongs to, if any. -/
  parcel : Option Nat := none
  alarm : Bool := false
  data : List Byte := zeros 16

/-- Whether EVT_MASK of function `f` masks event `num` (R343). -/
def State.masked (s : State) (f num : Nat) : Bool :=
  bitsOf (s.word (F.R2_EVT_MASK f (num / 32)).addr) (num % 32) 1 != 0

/-- An event posted on the ring of one function, or counted as lost (R339, R341, R343). -/
def State.postOn (s : State) (f : Nat) (o : Occ) : State :=
  if s.masked f o.num && !o.alarm then s else
  let s := s.flushLost f
  if s.flag (F.R2_RING_CTL_MSG_EN f) && !(s.fn f).stopped && s.msgFree f != 0 then
    s.postUnsolicited f (if o.num = 0x030 then 3 else if o.alarm then 2 else 1)
      { Msg.blank with
        kind := 2, alarm := o.alarm, code := o.num, parcel := o.parcel.getD 0, tagScope := o.scope % 2 ^ 32,
        lenArg := o.arg % 2 ^ 32, data := o.data }
  else s.loseEvent f o.num

/-- The rings an event goes to: PF0's, and that of the parcel its scope belongs to (R339). -/
def State.post (s : State) (o : Occ) : State :=
  let s := s.postOn 0 o
  match o.parcel with
  | some p => if p = 0 then s else s.postOn p o
  | none => s

/-! ## Logs (R430 to R433) -/

/-- Bytes 0 to 23 of a record (R430). -/
def LogRec.body (r : LogRec) : List Byte :=
  leBytes 4 r.seq ++ (if r.cont then (r.detail ++ zeros 20).take 20 else
    leBytes 4 r.opMin ++ leBytes 4 r.pwr ++
    leBytes 2 (r.num + (if r.alarm then 1024 else 0) + (if r.cont then 2048 else 0)) ++
    leBytes 2 r.rep ++ leBytes 4 r.scope ++ leBytes 4 r.arg)

/-- AES-CMAC under FB_KEY, its first 8 bytes (R430); FB_KEY is derived from the HUK (R231). -/
def fbMac (b : List Byte) : Nat := (Config.aesCmac (Config.kmac256 Config.huk [] 256 (label "ZGD fb")) b) % 2 ^ 64

def LogRec.sealed (r : LogRec) : LogRec := { r with mac := fbMac r.body }

/-- One record stored in the security log, or counted in OVERFLOW once it holds 4,096 (R433). -/
def State.secStore (s : State) (o : Occ) (cont : Bool) (detail : List Byte) : State :=
  let b := s.fbk
  let b := { b with secSeq := b.secSeq + 1 }
  if 4096 ≤ b.secLog.length then
    let v := s.fld F.FBK_SEC_OVF_OVERFLOW
    { s with fbk := b }.setFld F.FBK_SEC_OVF_OVERFLOW (if v = 2 ^ 32 - 1 then v else v + 1)
  else
    let r : LogRec := { seq := b.secSeq, opMin := s.opMin, pwr := s.powerCycles, num := o.num, alarm := o.alarm,
                        cont := cont, rep := 1, scope := o.scope % 2 ^ 32, arg := o.arg % 2 ^ 32, detail := detail,
                        mac := 0 }
    let log := b.secLog ++ [r.sealed]
    ({ s with fbk := { b with secLog := log } }.setFld F.FBK_STATUS_SEC_USED log.length).setFlag
      F.FBK_STATUS_SEC_FULL (log.length == 4096)

/-- A new record of the operational log, overwriting the oldest when full (R432). -/
def State.opNew (s : State) (o : Occ) : State :=
  let b := s.fbk
  let r : LogRec := { seq := b.opSeq + 1, opMin := s.opMin, pwr := s.powerCycles, num := o.num, alarm := o.alarm,
                      cont := false, rep := 1, scope := o.scope % 2 ^ 32, arg := o.arg % 2 ^ 32, detail := [],
                      mac := 0 }
  let old := if 4096 ≤ b.opLog.length then b.opLog.drop 1 else b.opLog
  { s with fbk := { b with opLog := old ++ [r.sealed], opSeq := b.opSeq + 1, opPend := 0 } }

/-- One occurrence in the operational log: coalesced with the last record of the same number and SCOPE, or a new
record, overwriting the oldest when full (R432). -/
def State.opStore (s : State) (o : Occ) : State :=
  let b := s.fbk
  match b.opLog.getLast? with
  | some r =>
    if r.num = o.num ∧ r.scope = o.scope % 2 ^ 32 ∧ r.rep < 65535 then
      { s with fbk := { b with opLog := b.opLog.dropLast ++ [({ r with rep := r.rep + 1 } : LogRec).sealed], opPend := b.opPend + 1 } }
    else s.opNew o
  | none => s.opNew o

/-- The details of a record in continuation records of 20 bytes each (R430). -/
def detailParts : Nat → List Byte → List (List Byte)
  | 0, _ => []
  | _, [] => []
  | n + 1, l => l.take 20 :: detailParts n (l.drop 20)

/-- After the security log grew from `before` records: event 0x3F1 when the 3,687th is stored, and event 0x3F0,
itself the last record, when only the 4,096th place is left (R433). -/
def State.secLevels (s : State) (before : Nat) : State :=
  let s := if before < 3687 ∧ 3687 ≤ s.fbk.secLog.length then (s.opStore { num := 0x3F1 }).post { num := 0x3F1 } else s
  if before < 4095 ∧ 4095 ≤ s.fbk.secLog.length then
    let o : Occ := { num := 0x3F0, alarm := true }
    (s.secStore o false []).post o
  else s

/-- A record placed in the security log, with its detail in continuation records (R430, R431). -/
def State.secLogRec (s : State) (o : Occ) (detail : List Byte) : State :=
  let before := s.fbk.secLog.length
  let s := s.secStore o false []
  ((detailParts detail.length detail).foldl (fun s p => s.secStore o true p) s).secLevels before

/-! ## Events (R39, R339, R431) -/

/-- An event raised: logged (ALARM events in the security log, others in the operational log) and posted. -/
def State.raise (s : State) (o : Occ) : State :=
  (if o.alarm then s.secLogRec o [] else s.opStore o).post o

/-- An event whose record another chapter places in the security log, with its detail, and posted. -/
def State.raiseSec (s : State) (o : Occ) (detail : List Byte) : State :=
  (s.secLogRec o detail).post o

def State.hold (s : State) (num : Nat) : Option HoldOff := tabGet none s.holdOff num

def State.setHold (s : State) (num : Nat) (h : Option HoldOff) : State :=
  { s with holdOff := tabSet none s.holdOff num h }

/-- The counter a drop event's message shows (R39). -/
def State.refValue (s : State) : CntRef → BitVec 64
  | .none => 0
  | .dev i => s.count i
  | .revoked => BitVec.ofNat 64 s.sec.revoked
  | .unusable => BitVec.ofNat 64 s.sec.unusable
  | .sa a k => tabGet 0 s.saStat (8 * a + k)
  | .queue q => tabGet 0 s.qDrop q
  | .hol q => BitVec.ofNat 64 (tabGet {} s.blw.queues q).hol

/-- A counter raised by one, whichever table holds it. -/
def State.bumpRef (s : State) : CntRef → State
  | .none => s
  | .dev i => s.bump i
  | .revoked => { s with sec := { s.sec with revoked := s.sec.revoked + 1 } }
  | .unusable => { s with sec := { s.sec with unusable := s.sec.unusable + 1 } }
  | .sa a k => { s with saStat := tabSet 0 s.saStat (8 * a + k) (tabGet 0 s.saStat (8 * a + k) + 1) }
  | .queue q => { s with qDrop := tabSet 0 s.qDrop q (tabGet 0 s.qDrop q + 1) }
  | .hol _ => s

/-- A posting of R39: the message carries the scope and, in bytes 32 to 39, the value of that scope's counter. -/
def State.postHeld (s : State) (num scope : Nat) (parcel : Option Nat) (r : CntRef) : State :=
  s.raise { num := num, scope := scope, parcel := parcel, data := leBytes 8 (s.refValue r).toNat ++ zeros 8 }

/-- One occurrence of an event under the posting rule of R39: posted while the number is quiet, which starts its
hold-off; noted during the hold-off. -/
def State.raise39 (s : State) (num scope : Nat) (parcel : Option Nat) (r : CntRef) : State :=
  match s.hold num with
  | none => (s.postHeld num scope parcel r).setHold num (some { start := s.cyc })
  | some h => match h.more with
    | some _ => s
    | none => s.setHold num (some { h with more := some (scope, parcel, r) })

/-- A drop: its counter raised, its event under R39 (R38, R39). -/
def State.drop (s : State) (num scope : Nat) (parcel : Option Nat) (r : CntRef) : State :=
  (s.bumpRef r).raise39 num scope parcel r

/-- A drop counted in a device counter. -/
def State.dropDev (s : State) (num scope : Nat) (parcel : Option Nat) (i : Nat) : State :=
  s.drop num scope parcel (.dev i)

/-- A response requested of the engine as source 12 (R411), in its turn. -/
def State.request (s : State) (level event value : Nat) : State :=
  { s with requests := s.requests ++ [{ source := 12, level := level, event := event, value := value }] }

/-- A doubled decision of the given kind (0 signature, 1 life cycle, 2 bypass, 3 zeroize, 4 debug, 5 takeover)
disagreed: counted, ENV_DD written, event 0x3D5, and source 11 raised with the kind (R414). -/
def State.ddMismatch (s : State) (kind : Nat) : State :=
  let s := s.bump C.ENV_DD_MISMATCH
  let n := s.fld F.ENV_DD_COUNT
  let s := if s.flag F.ENV_DD_VALID then s else (s.setFld F.ENV_DD_VALID 1).setFld F.ENV_DD_KIND kind
  let s := s.setFld F.ENV_DD_COUNT (if n = 65535 then n else n + 1)
  let s := s.raise { num := 0x3D5, scope := kind, alarm := true }
  { s with requests := s.requests ++
      [{ source := 11, level := max 1 (min 4 (s.fld (F.ENV_SRC_W0_RESP 11))), event := 0x3D5, value := kind }] }

/-! ## Battery register and evidence (R415, R416, R418) -/

/-- An entry of the battery register: the lowest free one, or OVERFLOW raised. -/
def State.batEntry (s : State) (source : Nat) : State :=
  match (List.range 16).find? fun i => !s.flag (F.ENV_BAT_W0_VALID i) with
  | some i =>
    let s := ((s.setFld (F.ENV_BAT_W0_VALID i) 1).setFld (F.ENV_BAT_W0_PENDING i) 1).setFld (F.ENV_BAT_W0_SOURCE i) source
    (s.setFld (F.ENV_BAT_W1_SECONDS i) (s.fld F.ENV_BAT_SEC_SECONDS)).setFld F.ENV_BAT_CTL_USED (s.fld F.ENV_BAT_CTL_USED + 1)
  | none => s.setFld F.ENV_BAT_CTL_OVERFLOW (min 65535 (s.fld F.ENV_BAT_CTL_OVERFLOW + 1))

/-- An entry cleared. -/
def State.batClear (s : State) (i : Nat) : State :=
  ((s.setWord (F.ENV_BAT_W0_VALID i).addr 0).setWord (F.ENV_BAT_W1_SECONDS i).addr 0).setFld F.ENV_BAT_CTL_USED
    (s.fld F.ENV_BAT_CTL_USED - 1)

/-- Entries whose evidence bit is not yet programmed. -/
def State.evPending (s : State) : List Nat :=
  (List.range 16).filter fun i => s.flag (F.ENV_BAT_W0_VALID i) && s.flag (F.ENV_BAT_W0_PENDING i)

/-- COUNT and SATURATED as OTP gives them. -/
def State.evLoad (s : State) : State :=
  (s.setFld F.ENV_EVIDENCE_COUNT s.otp.evidence).setFlag F.ENV_EVIDENCE_SATURATED (decide (2048 ≤ s.otp.evidence))

/-- One evidence bit programmed: event 0x3D6, and 0x3D7 at the last; a saturated thermometer drops it. -/
def State.evidenceBit (s : State) : State :=
  if 2048 ≤ s.otp.evidence then s
  else
    let n := s.otp.evidence + 1
    let s := ({ s with otp := { s.otp with evidence := n } }).evLoad.raise { num := 0x3D6, arg := n }
    if n = 2048 then s.raise { num := 0x3D7, alarm := true } else s

/-- Programming of the oldest pending bit begins once no zeroization is due or runs. -/
def State.evSync (s : State) : State :=
  if s.env.evAt.isNone && !s.evPending.isEmpty && s.hrt.quench.isEmpty && s.env.decs.all (fun d => d.scope == 0) then
    { s with env := { s.env with evAt := some s.cyc } }
  else s

/-- Every pending bit programmed at once, as a PURGE does before the BATTERY domain is reset (R415). -/
def State.evFlush (s : State) : State :=
  let n := s.evPending.length + s.fld F.ENV_BAT_CTL_OVERFLOW
  let s := (List.range n).foldl (fun s _ => s.evidenceBit) s
  { s with env := { s.env with evAt := none } }

/-! ## What a Tie pair notes as other blocks work (R391, R394 to R397) -/

/-- A message queued: SEQ rises by 1. -/
def State.tieSend (s : State) (m : TieOut) : State :=
  { s with tie := { s.tie with txSeq := (s.tie.txSeq + 1) % 2 ^ 32, sent := some m } }

/-- Key material wrapped under TIE_KEY as a MODE 0 blob of a kind, 0 a slot, 1 a SAK: attribute bytes 0 to 3, key and what follows
it (R237, R390). -/
def State.tieWrap (s : State) (kind : Nat) (attrs key : List Byte) : State × List Byte :=
  let n := s.fld F.TIE_KEY_SLOT
  let x := tabGet {} s.hrt.slots n
  let seq := x.exports + 1
  let wr := Config.keyWrap 2 x.key (attrs ++ leBytes 4 seq ++ leBytes 2 n ++ zeros 6 ++ key)
  ({ s with hrt := { s.hrt with slots := tabSet {} s.hrt.slots n { x with exports := seq } } },
   [0x5A, 0x47, 0x4B, 0x42, 1, 0, 2] ++ leBytes 1 kind ++ leBytes 2 n ++ zeros 2 ++ leBytes 4 seq ++ leBytes 2 wr.length ++ zeros 6 ++ wr)

/-- A SAK as it travels to the standby. -/
def State.tieSak (s : State) (m : KeyMat) : State × List Byte :=
  s.tieWrap 1 (leBytes 1 (if m.sak.length = 32 then 1 else 0) ++ zeros 2 ++ leBytes 1 (if m.salt.isSome then 1 else 0)) (m.sak ++ m.salt.getD [])

/-- A fault that a self-check looks for (R395). -/
def State.noteFault (s : State) (k : Nat) : State :=
  { s with tie := { s.tie with faultAt := tabSet none s.tie.faultAt k (some s.cyc) } }

/-- TIE_STATUS.MARK_USED follows the store. -/
def State.markSync (s : State) : State := s.setFld F.TIE_STATUS_MARK_USED s.tie.marks.length

/-- NEXT_PN (`dir` 0) or HIGH_PN (1) of association `sa` has moved: the active owes a mark at each multiple of 4,096; a mark
that no longer leads is freed. -/
def State.tieDrew (s : State) (sa dir old new : Nat) : State :=
  let k := 2 * sa + dir
  let s := if s.fld F.TIE_STATUS_ROLE = 2 then
      { s with tie := { s.tie with used := tabSet 0 s.tie.used k s.cyc
                                   outMarks := if old / 4096 < new / 4096 ∧ !s.tie.outMarks.contains k then s.tie.outMarks ++ [k]
                                     else s.tie.outMarks } } else s
  if tabGet 0 s.tie.marks k ≤ new ∧ tabGet 0 s.tie.marks k ≠ 0 then
    ({ s with tie := { s.tie with marks := tabSet 0 s.tie.marks k 0 } }).markSync else s

/-- An association deleted or newly installed: its marks and any raise armed for it go. -/
def State.tieForget (s : State) (sa : Nat) : State :=
  ({ s with tie := { s.tie with
      marks := tabSet 0 (tabSet 0 s.tie.marks (2 * sa) 0) (2 * sa + 1) 0
      armed := tabSet 0 s.tie.armed sa 0
      outMarks := s.tie.outMarks.filter fun k => k / 2 != sa } }).markSync

/-- EXCUSE_US in core cycles. -/
def State.excuseCyc (s : State) : Nat := cycUs * max 1 (s.fld F.TIE_CFG_EXCUSE_US)

/-- A happening that excuses mismatches: noted on every block whose first frame entered comparison within EXCUSE_US before it,
and for those that follow (R394). -/
def State.tieExcuse (s : State) : State :=
  let near (at_ : BitVec 64) : Bool := decide (s.elapsed at_ ≤ s.excuseCyc)
  { s with tie := { s.tie with
      excused := some s.cyc
      seqs := tabMapKeep (fun _ => {}) (fun _ (q : TieSeq) =>
        { q with excused := q.excused || (q.frames != 0 && near q.first)
                 own := q.own.map fun b => { b with excused := b.excused || near b.first } }) s.tie.seqs } }

/-- A change that the active has accepted goes to the standby: its command code, INDEX and ARG, and payload (R391). -/
def State.tieMirror (s : State) (opcode idx arg : Nat) (b : List Byte) : State :=
  if s.fld F.TIE_STATUS_ROLE = 2 then (s.tieSend { typ := 4, args := [opcode, idx, arg], data := b }).tieExcuse else s

/-- A word written to a register of TRV, PLT, SEC, BLW or GAT, as a change that goes to the standby (R391). -/
def State.mirrorReg (s : State) (a : Nat) (v : Word) : State :=
  if [3, 4, 5, 7, 8].contains (a / 0x100000) then s.tieMirror 0x0201 a 0 (leBytes 4 v.toNat) else s

/-- `t` reached from `s` by the steps of a commit, which travels to the standby as the commit alone (R391). -/
def State.unmirrored (s t : State) : State := { t with tie := { t.tie with txSeq := s.tie.txSeq, sent := s.tie.sent } }

/-! ## Secure accesses (R15) -/

/-- Whether a field of the register at key `a` carries the S suffix. -/
def secureReg (a : Nat) : Bool :=
  match regDesc a with
  | some d => d.hasSecure
  | none => false

/-- The world as the security log records it: 0 a PCIe function, 1 service firmware, 2 secure. -/
def worldCode : World → Nat
  | .nonSecure => 0
  | .service => 1
  | .secure => 2

/-- A secure access refused: event 0x010, and block, offset and world in the security log (R15). -/
def State.secureRefused (s : State) (a : Nat) (w : World) : State :=
  s.raiseSec { num := 0x010, scope := a / 0x100000, arg := a % 0x100000 }
    (leBytes 1 (a / 0x100000) ++ leBytes 4 (a % 0x100000) ++ leBytes 1 (worldCode w))

end Sys2Proof.Machine
end

