-- ==== Sys2Proof/Machine/Ring.lean ====
section
/-! DEFINITION. Machine/Ring.lean: signatures (R263, R264), and how a command descriptor is checked, performed and
answered (R280 to R286, R328 to R338). -/

namespace Sys2Proof.Machine

/-! ## Life cycle and keys -/

/-- HRT_STATUS.LCS: 0 MANUFACTURE, 1 OWNED, 2 SEALED, 3 RETIRED (R289). -/
def Otp.lcs (o : Otp) : Nat :=
  if o.retired then 3 else if o.isSealed then 2 else if o.owned then 1 else 0

/-- OWNER_EPOCH: the number of owner records (R289). -/
def Otp.epoch (o : Otp) : Nat := o.owners.length

/-- The hash that R263 names for a key of an authority, if any. -/
def Otp.keyHash (o : Otp) (authority index : Nat) : Option (List Byte) :=
  match authority with
  | 0 => some (if index = 0 then Config.romFwKeyHash else Config.otpFwKeyHash index)
  | 1 => some Config.romMfgKeyHash
  | 2 => match o.owners.getLast? with
    | some r => r.hashes[index]?
    | none => none
  | _ => none

/-- Whether a key is revoked (R263). -/
def Otp.keyRevoked (o : Otp) (authority index : Nat) : Bool :=
  match authority with
  | 0 => o.fwRevoked.getLsbD index
  | 2 => match o.owners.getLast? with
    | some r => r.revoked.getLsbD index
    | none => false
  | _ => false

/-- Size of a signature block (R263). -/
def sigBlockLen : Nat := 7424

/-- Fields of a signature block (R263). -/
def sigAuthority (b : List Byte) : Nat := leAt b 4 1
def sigKeyIndex (b : List Byte) : Nat := leAt b 5 1
def sigPubs (b : List Byte) : List Byte := slice b 8 2689

/-- The digest D that both algorithms sign (R264). -/
def sigDigest (lab : List Byte) (covered : List Byte) : List Byte := Config.sha384 (lab ++ zeros 1 ++ covered)

/-- The block's form: MAGIC, reserved bytes zero, KEY_INDEX within range (R263). -/
def sigFormOk (b : List Byte) : Bool :=
  b.length == sigBlockLen && slice b 0 4 == [0x5A, 0x47, 0x53, 0x47] && leAt b 6 2 == 0 && leAt b 7420 4 == 0 &&
  decide (sigKeyIndex b ≤ 3) && (decide (sigAuthority b = 0 ∨ sigAuthority b = 2) || sigKeyIndex b == 0)

/-- Both algorithms verify (R264). -/
def sigCryptoOk (b lab covered : List Byte) : Bool :=
  let d := sigDigest lab covered
  Config.ecdsaVerify (slice b 8 97) d (slice b 2697 96) && Config.mldsaVerify (slice b 105 2592) d (slice b 2793 4627)

/-- What a hybrid verification answers. -/
inductive SigVerdict where
  | ok | revoked | bad
  deriving DecidableEq, Repr

/-- A verification under R264 for the authority the context requires: a revoked key is told apart (R284). -/
def Otp.verify (o : Otp) (authority : Nat) (lab covered blk : List Byte) : SigVerdict :=
  if !sigFormOk blk || sigAuthority blk != authority then .bad
  else if o.keyRevoked authority (sigKeyIndex blk) then .revoked
  else if o.keyHash authority (sigKeyIndex blk) = some (Config.sha384 (sigPubs blk)) ∧ sigCryptoOk blk lab covered
  then .ok else .bad

/-- The authority whose signature SECURE commands and images need in the present life-cycle state (R263, R284). -/
def Otp.ownerAuthority (o : Otp) : Nat := if o.lcs = 0 then 1 else 2

/-! ## Statuses (R285, R310, R337) -/

namespace St
def ok : Nat := 0x00
def blockStatus : Nat := 0x01
def badDesc : Nat := 0x40
def badOpcode : Nat := 0x41
def dmaError : Nat := 0x42
def rspShort : Nat := 0x43
def aborted : Nat := 0x44
def noSession : Nat := 0x80
def badMac : Nat := 0x81
def seqReplay : Nat := 0x82
def classDenied : Nat := 0x83
def sigRequired : Nat := 0x84
def sigBad : Nat := 0x85
def nonceBad : Nat := 0x86
def keyRevoked : Nat := 0x87
def wrongDevice : Nat := 0x88
def lcsDenied : Nat := 0x89
def imageFormat : Nat := 0x8A
def imageRollback : Nat := 0x8B
def imageRule : Nat := 0x8C
def disruptive : Nat := 0x8D
def busyCommit : Nat := 0x8E
def tooLate : Nat := 0x8F
def unsync : Nat := 0x90
def svnLow : Nat := 0x91
def noRoom : Nat := 0x92
def late : Nat := 0x93
def parcelState : Nat := 0x94
def parcelImage : Nat := 0x95
def tieStandby : Nat := 0x96
end St

/-- What performing a command gives: the state, the response status, the block's own code and result, and the bytes
for the response buffer. -/
structure Res where
  st : State
  status : Nat := 0
  code : Nat := 0
  result : Nat := 0
  rsp : List Byte := []
  /-- The command is in progress: its response comes when its block has performed it (R332). -/
  wait : Bool := false

/-- A block command's outcome as a response: BLOCK_STATUS carries any code other than OK (R337). -/
def Res.block (st : State) (code result : Nat) (rsp : List Byte) : Res :=
  { st := st, status := if code = 0 then St.ok else St.blockStatus, code := code, result := result, rsp := rsp }

/-! ## Descriptors -/

/-- Classes of R283; `none_` needs no session (R334). -/
inductive Cls where
  | none_ | observe | operate | secure
  deriving DecidableEq, Repr

/-- What the catalogue says of a command (R334 to R336). -/
structure Cmd where
  opcode : Nat
  cls : Cls
  /-- Largest payload, without the nonce and signature block of R333. -/
  payMax : Nat
  /-- The payload's fixed fields lie in their ranges (R331 step 3). -/
  payOk : List Byte → Bool := fun _ => true
  /-- Response size (R336). -/
  rspSize : List Byte → Nat := fun _ => 0
  /-- Parcels the command names or that own an object it names (R331 step 6). -/
  parcels : State → List Byte → List Nat := fun _ _ => []
  /-- Label of the signature (R284). -/
  label : List Byte := label "ZGD cmd"
  /-- The command makes the signature checks of step 7 itself (R289, R291). -/
  ownSig : Bool := false
  /-- The payload's own SERIAL and OWNER_EPOCH, where it gives them as this device's (R284 check 5). -/
  device : List Byte → Option (Nat × Nat) := fun _ => none

/-- The payload without the nonce and signature block of R333. -/
def descBody (d : Desc) : List Byte :=
  if d.flags = 1 then d.payload.take (d.payload.length - 32 - sigBlockLen) else d.payload

def descNonce (d : Desc) : List Byte := slice d.payload (d.payload.length - 32 - sigBlockLen) 32

def descSigBlock (d : Desc) : List Byte := d.payload.drop (d.payload.length - sigBlockLen)

/-- The command bytes a MAC covers: descriptor bytes 0 to 3 and 16 to 47 and the payload (R281, R330). -/
def descCmdBytes (d : Desc) (opcode : Nat) : List Byte :=
  leBytes 2 opcode ++ [d.flags, d.rsvd3] ++ leBytes 4 d.tag.toNat ++ leBytes 4 d.payload.length ++
  leBytes 8 d.payAddr.toNat ++ leBytes 8 d.rspAddr.toNat ++ leBytes 4 d.rspLen.toNat ++ leBytes 4 d.rsvd44.toNat ++
  d.payload

/-- The MAC a command must carry under K_cmd (R281). -/
def descMacUnder (d : Desc) (opcode : Nat) (k : List Byte) : Nat :=
  mac128 (Config.kmac256 k (leBytes 4 d.sessionId.toNat ++ leBytes 8 d.seq.toNat ++ descCmdBytes d opcode) 128
    (label "ZGD cmd mac"))

/-- The parcel of a function: PF0 is parcel 0, VFp is parcel p (R300). -/
def descParcel (d : Desc) : Nat := d.fn.val

/-- The signed header of R284. -/
def descHeader (d : Desc) (o : Otp) (opcode : Nat) : List Byte :=
  leBytes 8 Config.serial.toNat ++ leBytes 4 o.epoch ++ leBytes 2 opcode ++ leBytes 1 (descParcel d) ++ zeros 1 ++
  (descNonce d) ++ Config.sha384 (descBody d)

/-- Steps 1 to 4 of R331, with R333's form of a signed payload and R336's size. -/
def ringForm (d : Desc) (c : Cmd) : Option Nat :=
  if d.rsvd3 ≠ 0 ∨ d.rsvd44 ≠ 0 ∨ (d.flags ≠ 0 ∧ d.flags ≠ 1) then some St.badDesc
  else if d.flags = 1 ∧ c.cls ≠ .secure then some St.badDesc
  else if c.payMax + (if d.flags = 1 then 32 + sigBlockLen else 0) < d.payload.length then some St.badDesc
  else if d.flags = 1 ∧ d.payload.length < 32 + sigBlockLen then some St.badDesc
  else if !d.readOk then some St.dmaError
  else if !c.payOk (descBody d) then some St.badDesc
  else if d.rspLen.toNat < c.rspSize (descBody d) then some St.rspShort
  else none

/-- The session and class checks of steps 5 and 6 on the function's session (R280, R281, R283, R236). -/
def ringClass (s : State) (d : Desc) (c : Cmd) (q : Session) : Option Nat :=
  if c.cls ≠ .observe ∧ q.cls = 0 then some St.classDenied
  else if (c.parcels s (descBody d)).any (fun p => !q.parcels.getLsbD p || (d.fn.val != 0 && p != d.fn.val))
  then some St.classDenied
  else none

/-- The signature checks of step 7, in R284's order: the nonce that passes check 2 is consumed. -/
def ringSig (s : State) (d : Desc) (c : Cmd) : State × Option Nat :=
  if d.flags ≠ 1 then (s, some St.sigRequired) else
  let x := s.fn d.fn.val
  match x.nonces.find? (fun n => n.bytes == (descNonce d) && decide (s.elapsed n.at_ < 300 * cycS)) with
  | none => (s, some St.nonceBad)
  | some _ =>
    let s := s.setFn d.fn.val { x with nonces := x.nonces.filter (fun n => n.bytes != (descNonce d)) }
    let a := s.otp.ownerAuthority
    let h := descHeader d s.otp c.opcode
    match s.otp.verify a c.label h (descSigBlock d) with
    | .revoked => (s, some St.keyRevoked)
    | .bad => (s, some St.sigBad)
    | .ok =>
      if !d.agree then (s.ddMismatch 0, some St.sigBad) else
      match c.device (descBody d) with
      | some (ser, ep) =>
        if (ser ≠ 0 ∧ ser ≠ Config.serial.toNat) ∨ ep ≠ s.otp.epoch then (s, some St.wrongDevice) else (s, none)
      | none => (s, none)

/-- Codes whose refusal is logged and counted (R286). -/
def refusalLogged (code : Nat) : Bool :=
  (decide (0x81 ≤ code) && decide (code ≤ 0x91)) || (decide (0x94 ≤ code) && decide (code ≤ 0x96))

/-- A refusal recorded: the security log with function, command code and refusal code, GLB_CMD_REFUSED, and event 0x00C
under R39 (R286). -/
def State.refusal (s : State) (f opcode code : Nat) : State :=
  if refusalLogged code then
    let s := s.secLogRec { num := 0x00C, scope := f, arg := opcode + code * 65536 } []
    (s.bump (C.GLB_CMD_REFUSED f)).raise39 0x00C f (if f = 0 then none else some f) (.dev (C.GLB_CMD_REFUSED f))
  else s

/-- The response of a command posted on its function's ring, while that ring runs: the buffer first, then the entry (R338,
R340); `q` is the session whose K_rsp makes the MAC. -/
def State.respond (s : State) (d : Desc) (opcode : Nat) (q : Option Session) (r : Res) (need : Nat) : State :=
  let f := d.fn.val
  if !s.flag (F.R2_RING_CTL_MSG_EN f) || (s.fn f).stopped then s else
  let buf := r.rsp.take d.rspLen.toNat
  let status := if r.status = St.ok ∧ !d.writeOk ∧ buf ≠ [] then St.dmaError else r.status
  let buf := if d.writeOk then buf else []
  let x := s.fn f
  let s := if buf = [] then s else s.setFn f { x with rspAddr := d.rspAddr.toNat, rspBuf := buf }
  let n := s.fld (F.R2_MSG_SIZE f)
  let m := { Msg.blank with
    kind := 1, code := opcode, status := status, parcel := (descParcel d), seq := d.seq.toNat, tagScope := d.tag.toNat,
    lenArg := buf.length, datum := s.datumNs, phase := (s.fld (F.R2_MSG_TAIL f) / n) % 2 == 0,
    data := leBytes 4 r.code ++ leBytes 4 r.result ++ leBytes 4 (if status = St.rspShort then need else 0) ++ zeros 4 }
  let m := match q with
    | some q => let m := { m with macValid := true }
                { m with mac := mac128 (Config.kmac256 q.kRsp (m.head ++ buf) 128 (label "ZGD rsp mac")) }
    | none => m
  s.postEntry f 0 m

/-- A ring command put among those in progress. -/
def State.startWait (s : State) (d : Desc) (opcode : Nat) : State :=
  { s with waits := s.waits ++ [{ d := d, opcode := opcode }] }

/-- A command in progress that has completed: its response posted, its reserved entry used (R332, R341). -/
def State.finishWait (s : State) (w : Wait) (r : State → Res) (need : Nat) : State :=
  let f := w.d.fn.val
  let s := { s with waits := s.waits.erase w }
  let s := if w.mute then s else s.setFld (F.R2_RING_STATUS_OUTSTANDING f) (s.fld (F.R2_RING_STATUS_OUTSTANDING f) - 1)
  let r := r s
  let s := r.st.refusal f w.opcode r.status
  if w.mute then s else s.respond w.d w.opcode (s.fn f).session r need

/-- Whether the function's command ring can fetch: enabled, not stopped, a descriptor handed over, and an entry to
reserve for its response (R328, R329, R341). -/
def ringFetches (s : State) (f : Nat) : Bool :=
  s.flag (F.R2_RING_CTL_CMD_EN f) && !s.flag (F.R2_RING_STATUS_CMD_ERR f) &&
  s.fld (F.R2_CMD_TAIL f) != s.fld (F.R2_CMD_HEAD f) &&
  s.flag (F.R2_RING_CTL_MSG_EN f) && !(s.fn f).stopped && s.msgFree f != 0 && decide (s.fld (F.R2_RING_STATUS_OUTSTANDING f) < 16)

/-- One descriptor consumed: CMD_HEAD advances modulo 2 SIZE (R329). -/
def State.fetched (s : State) (f : Nat) : State :=
  s.setFld (F.R2_CMD_HEAD f) ((s.fld (F.R2_CMD_HEAD f) + 1) % (2 * s.fld (F.R2_CMD_SIZE f)))

/-- A session closed: keys gone, the open count lowered, event 0x00B with the cause (R282). -/
def State.closeSession (s : State) (f cause : Nat) : State :=
  let x := s.fn f
  match x.session with
  | none => s
  | some _ =>
    ((s.setFn f { x with session := none }).setFld F.GLB_SESSION_OPEN (s.fld F.GLB_SESSION_OPEN - 1)).raise
      { num := 0x00B, scope := f, arg := cause, parcel := if f = 0 then none else some f }

/-- The session after a command whose MAC verified: SEQ accepted, the idle time restarted (R281, R282, R331). -/
def Session.accept (q : Session) (d : Desc) (now : BitVec 64) : Session :=
  { q with seqLast := some d.seq.toNat, accepted := q.accepted + 1, lastCmd := now }

/-- The chip is the standby of a Tie pair (R389, R391): roles 3 STANDBY,
5 STANDBY_ISOLATED, and 7 SWAPPING from STANDBY. -/
def State.isStandby (s : State) : Bool :=
  s.fld F.TIE_STATUS_ROLE == 3 || s.fld F.TIE_STATUS_ROLE == 5 || (s.fld F.TIE_STATUS_ROLE == 7 && !s.tie.swapActive)

/-- Steps 5 to 8 of R331: session, class, standby (R391), life-cycle state RETIRED (R289), signature, execution. -/
def ringRun (s : State) (d : Desc) (c : Cmd) (run : State → List Byte → Res) : Res :=
  let f := d.fn.val
  match c.cls with
  | .none_ => run s (descBody d)
  | _ =>
    let x := s.fn f
    match x.session with
    | none => { st := s, status := St.noSession }
    | some q =>
      if q.id ≠ d.sessionId.toNat then { st := s, status := St.noSession }
      else if descMacUnder d c.opcode q.kCmd ≠ d.mac.toNat then { st := s, status := St.badMac }
      else if (match q.seqLast with | some l => decide (d.seq.toNat ≤ l) | none => false) then
        { st := s, status := St.seqReplay }
      else
        let s := s.setFn f { x with session := some (q.accept d s.cyc) }
        match ringClass s d c q with
        | some e => { st := s, status := e }
        | none =>
          if c.cls ≠ .observe ∧ s.isStandby then { st := s, status := St.tieStandby }
          else if c.cls ≠ .observe ∧ s.otp.retired then { st := s, status := St.lcsDenied }
          else if c.cls = .secure ∧ !c.ownSig then
            match ringSig s d c with
            | (s, some e) => { st := s, status := e }
            | (s, none) => run (s.secLogRec { num := 0, scope := f, arg := c.opcode } (descHeader d s.otp c.opcode)) (descBody d)
          else run s (descBody d)

/-- A command of a ring: fetched where the ring fetches, checked, performed, answered; its refusal recorded
(R286, R329 to R338).  A ring that does not fetch leaves the descriptor where it is. -/
def ringCmd (d : Desc) (c : Cmd) (run : State → List Byte → Res) (s : State) : State :=
  let f := d.fn.val
  if ringFetches s f then
    let s := s.fetched f
    let q := (s.fn f).session
    let r := match ringForm d c with
      | some e => ({ st := s, status := e } : Res)
      | none => ringRun s d c run
    if r.wait then
      (r.st.setFld (F.R2_RING_STATUS_OUTSTANDING f) (r.st.fld (F.R2_RING_STATUS_OUTSTANDING f) + 1)).startWait d c.opcode
    else
    let s := r.st.refusal f c.opcode r.status
    let s := s.respond d c.opcode (match (s.fn f).session with | some q' => some q' | none => q) r (c.rspSize (descBody d))
    match (s.fn f).session with
    | some q' => if 2 ^ 32 ≤ q'.accepted then s.closeSession f 3 else s
    | none => s
  else s

/-! ## Block commands (R335, R336) -/

/-- INDEX, ARG and the window words of a block command's payload (R335). -/
def blkIndex (b : List Byte) : Nat := leAt b 0 4
def blkArg (b : List Byte) : Nat := leAt b 4 4
def blkWords (b : List Byte) : List Word := leWords (leAt b 8 2) (b.drop 16)

/-- The response of a block command: header and window (R336). -/
def blkRes (win len : Nat) (x : State × Nat × Nat) : Res :=
  let (s, code, result) := x
  Res.block s code result
    (leBytes 1 code ++ zeros 3 ++ leBytes 4 result ++ leBytes 2 len ++ zeros 6 ++ wordBytes (s.words win len))

/-- A block command by descriptor that its block may have to keep waiting: `run` gives no result where the block is busy
(R332). -/
def blockCmdW (d : Desc) (n op : Nat) (cls : Cls) (win len : Nat) (parcels : State → List Byte → List Nat)
    (run : State → List Byte → State × Option (Nat × Nat)) (s : State) : State :=
  ringCmd d
    { opcode := 0x1000 + 0x100 * n + op, cls := cls, payMax := 16 + 4 * len,
      payOk := fun b => decide (16 ≤ b.length) && decide (leAt b 8 2 ≤ len) && decide (b.length = 16 + 4 * leAt b 8 2) &&
        leAt b 10 6 == 0,
      rspSize := fun _ => 16 + 4 * len, parcels := parcels }
    (fun s b => match run s b with
      | (s, some x) => blkRes win len (s, x)
      | (s, none) => { st := s, wait := true }) s

/-- A block command by descriptor: the window filled, the command run, the response of header and window (R335,
R336).  `n` is the block's number, `win` its window's first key and length. -/
def blockCmd (d : Desc) (n op : Nat) (cls : Cls) (win len : Nat) (parcels : State → List Byte → List Nat)
    (run : State → List Byte → State × Nat × Nat) (s : State) : State :=
  ringCmd d
    { opcode := 0x1000 + 0x100 * n + op, cls := cls, payMax := 16 + 4 * len,
      payOk := fun b => decide (16 ≤ b.length) && decide (leAt b 8 2 ≤ len) && decide (b.length = 16 + 4 * leAt b 8 2) &&
        leAt b 10 6 == 0,
      rspSize := fun _ => 16 + 4 * len, parcels := parcels }
    (fun s b => blkRes win len (run (s.setWords win (blkWords b)) b)) s

/-- A whole word written to the register at key `a` from a world, every field by its own rule (R14 to R16). -/
def State.writeReg (s : State) (w : World) (a : Nat) (v : Word) : State :=
  match regDesc a with
  | some d => s.setWord a (d.writeWord w.isSecure (s.word a) v)
  | none => s

/-- A write of a command register that starts its OP: a register with secure fields refuses a non-secure write (R15);
the other fields take what is written; while BUSY the OP is ignored and `busyCase` says how that is reported. -/
def cmdReg (opF busy : Fld) (busyCase : State → State) (w : World) (v : Word) (run : State → State) (s : State) : State :=
  if secureReg opF.addr && !w.isSecure then s.secureRefused opF.addr w
  else
    let s := (s.writeReg w opF.addr v).setFld opF 0
    if s.flag busy then busyCase s else run s

/-- A write of a command register from `w`, whose fields are secure: refused as R15 says for a non-secure world. -/
def secureOnly (w : World) (a : Nat) (run : State → State) (s : State) : State :=
  if w.isSecure then run s else s.secureRefused a w

end Sys2Proof.Machine
end

