-- ==== Sys2Proof/Machine/Host.lean ====
section
/-! DEFINITION. Machine/Host.lean: the rings and vectors of a PCIe function and the events of the link
(spec/13_host_link.md). -/

namespace Sys2Proof.Machine

/-- BAR0 and BAR2 answer: rings exist at RUNNING and NO_CONFIG (R267, R269, R476). -/
def State.hostUp (s : State) : Bool := s.fld F.GLB_BOOT_STAGE == 4 || s.fld F.GLB_BOOT_STAGE == 9

/-! ## Ring errors and indices (R328, R329, R344) -/

/-- Event 0x030: on PF0's ring, and on that of the function while it is enabled. -/
def State.ringErr (s : State) (f : Nat) (cmd : Bool) (code : Nat) : State :=
  let s := (s.setFld (if cmd then F.R2_RING_STATUS_CMD_ERR f else F.R2_RING_STATUS_MSG_ERR f) 1).setFld
    (F.R2_RING_STATUS_ERR_CODE f) code
  let o : Occ := { num := 0x030, scope := f, arg := code }
  let s := s.raise o
  if f ≠ 0 ∧ s.flag (F.R2_RING_CTL_MSG_EN f) then s.postOn f o else s

/-- The command ring's tail lies more than SIZE ahead of CMD_HEAD. -/
def State.overrun (s : State) (f : Nat) : Bool :=
  let n := s.fld (F.R2_CMD_SIZE f)
  s.flag (F.R2_RING_CTL_CMD_EN f) &&
    decide (n < (s.fld (F.R2_CMD_TAIL f) + 2 * n - s.fld (F.R2_CMD_HEAD f) % (2 * n)) % (2 * n))

/-- CMD_TAIL_WRITE (R329). -/
def execCmdTailWrite (f : Fin 64) (v : BitVec 13) (s : State) : Out :=
  let f := f.val
  if !s.hostUp then .next s
  else
    let s := s.setFld (F.R2_CMD_TAIL f) v.toNat
    .next (if s.overrun f then s.ringErr f true 1 else s)

/-- CMD_ERR_CLEAR (R329): a write of RING_STATUS; a 1 in CMD_ERR restarts the command ring, a 1 in MSG_ERR the message ring. -/
def execCmdErrClear (f : Fin 64) (v : Word) (s : State) : Out :=
  let f := f.val
  if !s.hostUp then .next s
  else
    let s := s.writeReg .nonSecure (F.R2_RING_STATUS_CMD_ERR f).addr v
    let s := if bitsOf v 30 1 = 1 then (s.setFn f { s.fn f with stopped := false }).flushLost f else s
    .next (if bitsOf v 31 1 = 1 ∧ s.overrun f then s.ringErr f true 1 else s)

/-- RING_ENABLE (R328): a write of RING_CTL; MSEQ and MSG_LOST start anew as MSG_EN is set (R338, R347), and what was not posted
before follows as an OVERFLOW (R345). -/
def execRingEnable (f : Fin 64) (v : Word) (s : State) : Out :=
  let f := f.val
  if !s.hostUp then .next s
  else
    let s := if bitsOf v 31 1 = 0 then s.setFld (F.R2_RING_CTL_CMD_EN f) 0
      else if s.flag (F.R2_RING_CTL_CMD_EN f) then s
      else if ringSizeOk (s.fld (F.R2_CMD_SIZE f)) then s.setFld (F.R2_RING_CTL_CMD_EN f) 1
      else s.ringErr f true 4
    if bitsOf v 30 1 = 0 then .next (s.setFld (F.R2_RING_CTL_MSG_EN f) 0)
    else if s.flag (F.R2_RING_CTL_MSG_EN f) then .next s
    else if ringSizeOk (s.fld (F.R2_MSG_SIZE f)) then
      let s := (s.setFn f { s.fn f with mseq := 0, stopped := false }).setFld (F.R2_MSG_LOST f) 0
      .next ((s.setFld (F.R2_RING_CTL_MSG_EN f) 1).flushLost f)
    else .next (s.ringErr f false 4)

/-- MSG_HEAD_WRITE (R329, R347): entries handed back; more than are posted is ignored and set in MSG_ERR. -/
def execMsgHeadWrite (f : Fin 64) (v : BitVec 13) (s : State) : Out :=
  let f := f.val
  if !s.hostUp then .next s
  else
    let n := s.fld (F.R2_MSG_SIZE f)
    let back := (v.toNat + 2 * n - s.fld (F.R2_MSG_HEAD f) % (2 * n)) % (2 * n)
    if s.flag (F.R2_RING_CTL_MSG_EN f) && decide (s.msgUsed f < back) then .next (s.ringErr f false 1)
    else .next ((s.setFld (F.R2_MSG_HEAD f) v.toNat).flushLost f)

/-- DESCRIPTOR_READ_ERROR (R328, R347): the fetch of the descriptor at CMD_HEAD fails. -/
def execDescriptorReadError (f : Fin 64) (s : State) : Out :=
  .next (if ringFetches s f.val then s.ringErr f.val true 2 else s)

/-- MESSAGE_WRITE_ERROR (R328, R347): the write of an entry fails; the ring stops. -/
def execMessageWriteError (f : Fin 64) (s : State) : Out :=
  if s.flag (F.R2_RING_CTL_MSG_EN f.val) && !(s.fn f.val).stopped then
    .next ((s.setFn f.val { s.fn f.val with stopped := true }).ringErr f.val false 3)
  else .next s

/-- AER_UNCORRECTABLE_ERROR (R344). -/
def execAerUncorrectableError (f : Fin 64) (status : Word) (s : State) : Out :=
  .next ((s.setFn f.val { s.fn f.val with aer := status.toNat }).raise { num := 0x032, scope := f.val, arg := status.toNat })

/-! ## Vectors (R342) -/

/-- The vector of an entry. -/
def Msg.vector (m : Msg) : Nat :=
  if m.kind = 1 then 0 else if m.kind = 3 ∨ m.code = 0x030 then 3 else if m.alarm then 2 else 1

/-- Entries of a vector that the host has not handed back. -/
def State.unconsumed (s : State) (f v : Nat) : Bool :=
  let n := s.fld (F.R2_MSG_SIZE f)
  (List.range (s.msgUsed f)).any fun k => (tabGet Msg.blank (s.fn f).ring ((s.fld (F.R2_MSG_HEAD f) + k) % n)).vector == v

def FnS.vec (x : FnS) (v : Nat) : Vec := match v with | 0 => x.vec0 | 1 => x.vec1 | 2 => x.vec2 | _ => x.vec3

def FnS.setVec (x : FnS) (v : Nat) (y : Vec) : FnS :=
  match v with
  | 0 => { x with vec0 := y } | 1 => { x with vec1 := y } | 2 => { x with vec2 := y } | _ => { x with vec3 := y }

/-- MSIX_UNMASK (R342): the host writes a vector's mask bit in BAR4; unmasked, a pending vector sends if entries it covers are still
unconsumed. -/
def execMsixUnmask (f : Fin 64) (v : Fin 4) (mask : Bool) (s : State) : Out :=
  let x := s.fn f.val
  let y := x.vec v.val
  if mask then .next (s.setFn f.val (x.setVec v.val { y with masked := true }))
  else
    let send := y.pending && s.unconsumed f.val v.val
    .next (s.setFn f.val (x.setVec v.val { y with masked := false, pending := false, sent := if send then y.sent + 1 else y.sent }))

/-- COALESCING_EXPIRY (R342): the coalescing time of vector 0 or 1 has passed since its first unsignalled entry. -/
def execCoalescingExpiry (f : Fin 64) (v : Fin 2) (s : State) : Out :=
  let x := s.fn f.val
  let y := x.vec v.val
  let us := min 100 (s.fld (if v.val = 0 then F.R2_COALESCE_RSP_US f.val else F.R2_COALESCE_EVT_US f.val))
  match y.unsignalled with
  | some t =>
    if s.passed t (us * cycUs) then
      let y := { y with unsignalled := none }
      .next (s.setFn f.val (x.setVec v.val (if y.masked then { y with pending := true } else { y with sent := y.sent + 1 })))
    else .next s
  | none => .next s

/-! ## Resets of a function's host state (R327) -/

/-- Both rings disabled, every BAR2 field at reset, the session closed, the responses of commands in progress discarded. -/
def State.hostReset (s : State) (f cause : Nat) : State :=
  let own := fun (a : Nat) => decide (0x10000000 + 4096 * f ≤ a ∧ a < 0x10000000 + 4096 * (f + 1)) ||
    decide (0x10100000 + 128 * f ≤ a ∧ a < 0x10100000 + 128 * (f + 1))
  let quiet (w : Wait) : Wait := if w.d.fn.val = f then { w with mute := true } else w
  let s := { s with regs := s.regs.filter (fun e => !own e.1), waits := s.waits.map quiet }
  let x := s.fn f
  (s.setFn f { x with ring := [], mseq := 0, stopped := false, opening := none, rspBuf := []
                      vec0 := { x.vec0 with pending := false, unsignalled := none }
                      vec1 := { x.vec1 with pending := false, unsignalled := none } }).closeSession f cause

/-- LINK_STATE_CHANGE (R327, R344): the link is at the speed and width given, in L0 or not; loss of L0 other than to an ASPM state
resets every function's host state. -/
def execLinkStateChange (speed width : BitVec 4) (l0 aspm : Bool) (s : State) : Out :=
  let had := s.linkUp
  let s := ({ s with linkUp := l0 || (had && aspm), linkSpeed := speed.toNat, linkWidth := width.toNat }).raise
    { num := 0x031, arg := speed.toNat + 16 * width.toNat + (if l0 then 256 else 0) }
  .next (if had && !l0 && !aspm then (List.range 64).foldl (fun s f => s.hostReset f 6) s else s)

/-- CONVENTIONAL_RESET (R327): PCIE_PERST_N asserted. -/
def execConventionalReset (s : State) : Out := .next ((List.range 64).foldl (fun s f => s.hostReset f 6) s)

/-! ## Opcodes (R331, R334, R335) -/

/-- The opcodes of the catalogue; block opcodes by block. -/
def inCatalogue (op : Nat) : Bool :=
  [0x0001, 0x0002, 0x0003, 0x0004, 0x0005, 0x0100, 0x0101, 0x0200, 0x0201, 0x0202, 0x0203, 0x0204, 0x0205, 0x0310, 0x0311, 0x0312,
    0x0405].contains op ||
  (decide (0x0300 ≤ op) && decide (op ≤ 0x0304)) || (decide (0x0400 ≤ op) && decide (op ≤ 0x0404)) ||
  (decide (0x0500 ≤ op) && decide (op ≤ 0x0506)) ||
  (match op / 256, op % 256 with
    | 0x13, k => decide (1 ≤ k) && decide (k ≤ 4)
    | 0x14, k => decide (1 ≤ k) && decide (k ≤ 7)
    | 0x15, k => decide (1 ≤ k) && decide (k ≤ 14)
    | 0x17, k => decide (1 ≤ k) && decide (k ≤ 3)
    | 0x18, k => decide (1 ≤ k) && decide (k ≤ 5)
    | 0x19, k => decide (1 ≤ k) && decide (k ≤ 5)
    | 0x1A, k => decide (1 ≤ k) && decide (k ≤ 0x12)
    | _, _ => false)

/-- BAD_OPCODE (R331 step 2). -/
def execBadOpcode (d : Desc) (op : BitVec 16) (s : State) : Out :=
  let f := d.fn.val
  if inCatalogue op.toNat || !ringFetches s f then .next s
  else
    let bad := d.rsvd3 ≠ 0 ∨ d.rsvd44 ≠ 0 ∨ (d.flags ≠ 0 ∧ d.flags ≠ 1) ∨ 131072 < d.payload.length
    let s := s.fetched f
    .next (s.respond d op.toNat (s.fn f).session { st := s, status := if bad then St.badDesc else St.badOpcode } 0)

end Sys2Proof.Machine
end

