-- ==== Sys2Proof/Machine/Macsec.lean ====
section
/-! DEFINITION. Machine/Macsec.lean: secure channels, associations and packet numbers
(spec/04_macsec_associations.md). -/

namespace Sys2Proof.Machine

/-! ## Channels and contexts -/

def State.chan (s : State) (sc : Nat) : Chan := tabGet {} s.sec.chans sc
def State.setChan (s : State) (sc : Nat) (c : Chan) : State :=
  { s with sec := { s.sec with chans := tabSet {} s.sec.chans sc c } }
def State.ctx (s : State) (sa : Nat) : Ctx := tabGet {} s.sec.ctxs sa
def State.setCtx (s : State) (sa : Nat) (c : Ctx) : State :=
  { s with sec := { s.sec with ctxs := tabSet {} s.sec.ctxs sa c } }

/-- The channel an association belongs to (R19). -/
def State.saChan (s : State) (sa : Nat) : Chan := s.chan (sa / 4)

/-- The parcel that owns an association: its channel's. -/
def State.saParcel (s : State) (sa : Nat) : Nat := (s.saChan sa).parcel

def Chan.xpn (c : Chan) : Bool := decide (2 ≤ c.suite)

/-- Largest PN of a suite (R104). -/
def Chan.pnMax (c : Chan) : Nat := if c.xpn then 2 ^ 64 - 1 else 2 ^ 32 - 1

/-- SAK length of a suite in bytes (R122). -/
def Chan.sakLen (c : Chan) : Nat := if c.suite % 2 = 0 then 16 else 32

/-- The confidentiality offset in bytes (R90). -/
def Chan.offsetBytes (c : Chan) : Nat := match c.offset with | 1 => 30 | 2 => 50 | _ => 0

/-- SecTAG length on transmit (R88). -/
def Chan.tagLen (c : Chan) : Nat := if c.sciTag then 16 else 8

def SaSt.code : SaSt → Nat
  | .empty => 0 | .installed => 1 | .active => 2 | .draining => 3
  | .quarantined => 4 | .exhausted => 5 | .revoked => 6 | .unusable => 7

/-- A word from fields (lowest bit, width, value). -/
def packW (l : List (Nat × Nat × Nat)) : Word := l.foldl (fun w f => putBits w f.1 f.2.1 f.2.2) 0

def b2n (b : Bool) : Nat := if b then 1 else 0

/-- A 64-bit value as two words, low first. -/
def words64 (v : Nat) : List Word := [BitVec.ofNat 32 v, BitVec.ofNat 32 (v / 2 ^ 32)]

/-- The entry as the window shows it (R90). -/
def Chan.toWords (c : Chan) : List Word :=
  [packW [(31, 1, b2n c.valid), (30, 1, b2n c.dir), (29, 1, b2n c.pinned), (27, 2, c.suite), (26, 1, b2n c.conf),
      (24, 2, c.offset), (22, 2, c.clearTags), (21, 1, b2n c.sciTag), (20, 1, b2n c.es), (19, 1, b2n c.scb),
      (18, 1, b2n c.autoNext), (17, 1, b2n c.static_), (16, 1, b2n c.swPend), (14, 2, c.curAn), (12, 2, c.swAn),
      (6, 6, c.linePort), (0, 6, c.parcel)],
   packW [(16, 16, c.returnSc), (15, 1, b2n c.returnValid), (14, 1, b2n c.authTags), (0, 6, c.boundClr)]] ++
  words64 c.sci.toNat ++ words64 c.swAt.toNat ++ [BitVec.ofNat 32 c.replayWindow, BitVec.ofNat 32 c.ssci]

/-- Words `i` and `i + 1` as one 64-bit value. -/
def val64 (l : List Word) (i : Nat) : Nat := (l.getD i 0).toNat + (l.getD (i + 1) 0).toNat * 2 ^ 32

/-- The entry a window spells (R90). -/
def Chan.ofWords (l : List Word) : Chan :=
  let c := l.getD 0 0
  let b := l.getD 1 0
  let bit (w : Word) (i : Nat) : Bool := bitsOf w i 1 == 1
  { valid := bit c 31, dir := bit c 30, pinned := bit c 29, suite := bitsOf c 27 2, conf := bit c 26,
    offset := bitsOf c 24 2, clearTags := bitsOf c 22 2, sciTag := bit c 21, es := bit c 20, scb := bit c 19,
    autoNext := bit c 18, static_ := bit c 17, swPend := bit c 16, curAn := bitsOf c 14 2, swAn := bitsOf c 12 2,
    linePort := bitsOf c 6 6, parcel := bitsOf c 0 6, returnSc := bitsOf b 16 16, returnValid := bit b 15,
    authTags := bit b 14, boundClr := bitsOf b 0 6, sci := BitVec.ofNat 64 (val64 l 2),
    swAt := BitVec.ofNat 64 (val64 l 4), replayWindow := (l.getD 6 0).toNat, ssci := (l.getD 7 0).toNat }

/-- LOWEST_PN (R106). -/
def Ctx.lowest (x : Ctx) (window : Nat) : Nat := max (max x.floor 1) (x.high + 1 - window)

/-! ## Where contexts live (R115, R116) -/

/-- Contexts can be held in protected DDR5. -/
def State.ddrCtx (s : State) : Bool := s.flag F.SEC_STATUS_DDR_CTX

/-- 0 pinned, 1 cache, 2 DDR5. -/
def State.location (s : State) (sa : Nat) : Nat :=
  if (s.saChan sa).pinned then 0
  else if !s.ddrCtx || s.sec.cache.contains sa then 1 else 2

/-- A context is on chip. -/
def State.onChip (s : State) (sa : Nat) : Bool := s.location sa != 2

/-- Live heats on an association, whatever their key generation. -/
def State.saHeats (s : State) (sa : Nat) : Nat :=
  tabCount (fun _ f => match f with | some f => f.heat && f.sc * 4 + f.an == sa && !f.bypass | none => false) s.frames

/-- Heats that hold key generation `g` of an association (R138). -/
def State.keyRefs (s : State) (sa g : Nat) : Nat :=
  tabCount (fun _ f => match f with
    | some f => f.heat && f.sc * 4 + f.an == sa && f.keyGen == g && !f.bypass | none => false) s.frames

/-- Cache places in the 2,048 sets of 16 ways (R115). -/
def cacheSet (sa : Nat) : Nat := sa % 2048

/-- A context brought into the cache as the most recently used: where its set is full the least recently used entry
without a live heat or a pending fetch goes to DDR5; where every entry is held, the context stays in DDR5 (R115). -/
def State.cacheIn (s : State) (sa : Nat) : State :=
  if !s.ddrCtx || (s.saChan sa).pinned then s else
  let rest := s.sec.cache.filter (· != sa)
  let mates := rest.filter (fun x => cacheSet x == cacheSet sa)
  if mates.length < 16 then { s with sec := { s.sec with cache := sa :: rest } }
  else match mates.reverse.find? (fun x => s.saHeats x == 0 && !s.sec.misses.contains x) with
    | some v => { s with sec := { s.sec with cache := sa :: rest.filter (· != v) } }
    | none => s

def State.cacheOut (s : State) (sa : Nat) : State :=
  { s with sec := { s.sec with cache := s.sec.cache.filter (· != sa) } }

/-- Used: the entry becomes the most recently used. -/
def State.cacheTouch (s : State) (sa : Nat) : State :=
  if s.sec.cache.contains sa then { s with sec := { s.sec with cache := sa :: s.sec.cache.filter (· != sa) } } else s

/-! ## Express marks (R52, R94) -/

/-- GAT_CLASS_CFG marks the class express at the port. -/
def State.expressAt (s : State) (port cls : Nat) : Bool := s.flag (F.GAT_CLASS_CFG_W0_EXPRESS (8 * port + cls))

/-- At any egress port. -/
def State.expressAny (s : State) (cls : Nat) : Bool := (List.range 64).any fun n => s.expressAt n cls

/-- At any line port. -/
def State.expressLine (s : State) (cls : Nat) : Bool := (List.range 32).any fun n => s.expressAt (n + 32) cls

/-- PRT_MAP pairs the clear port with this line port (R21, R452). -/
def State.pairOf (s : State) (clr : Nat) : Option Nat :=
  if s.flag (F.PRT_MAP_VALID clr) then some (s.fld (F.PRT_MAP_LINE clr)) else none

/-- Datum is synchronised (R214). -/
def State.synced (s : State) : Bool := s.flag F.DAT_STATUS_SYNC

/-! ## Events -/

/-- An event of an association. -/
def State.saEvent (s : State) (num sa arg data : Nat) : State :=
  s.raise { num := num, scope := sa, arg := arg, parcel := some (s.saParcel sa), data := leBytes 8 data ++ zeros 8 }

/-- Event 0x18F: a SEC command refused or overrun. -/
def State.secRefused (s : State) (op idx code : Nat) : State := s.raise { num := 0x18F, scope := idx, arg := op + 16 * code }

/-- A Hearth event: HRT_ERR takes the first since VALID was cleared (R262). -/
def State.hrtErr (s : State) (num slot : Nat) : State :=
  if s.flag F.HRT_ERR_VALID then s
  else ((s.setFld F.HRT_ERR_VALID 1).setFld F.HRT_ERR_EVENT num).setFld F.HRT_ERR_SLOT slot

def State.hrtEvent (s : State) (o : Occ) (slot : Nat) : State := (s.hrtErr o.num slot).raise o

/-! ## Keys leaving associations (R118, R138) -/

/-- RETIRE_PEND follows the retire store. -/
def State.secSync (s : State) : State := s.setFld F.SEC_STATUS_RETIRE_PEND s.sec.retired.length

/-- The retire store has a place, or the key has no heat that holds it. -/
def State.retireRoom (s : State) (sa : Nat) : Bool :=
  decide (s.sec.retired.length < 256) || s.keyRefs sa (s.ctx sa).keyGen == 0

/-- The key leaves its association: zeroized where no heat holds it, and otherwise kept for those heats in the retire
store. -/
def State.retireKey (s : State) (sa : Nat) : State :=
  let x := s.ctx sa
  match x.key with
  | none => s
  | some _ =>
    let s := s.setCtx sa { x with key := none }
    if s.keyRefs sa x.keyGen = 0 then s.quenched 0
    else ({ s with sec := { s.sec with retired := s.sec.retired ++ [Retired.mk sa x.keyGen] } }).secSync

/-- Retired entries whose last reference has ended are zeroized (R118). -/
def State.sweepRetired (s : State) : State :=
  let (gone, left) := s.sec.retired.partition fun r => s.keyRefs r.sa r.keyGen == 0
  if gone.isEmpty then s
  else (({ s with sec := { s.sec with retired := left } }).secSync).quenched 0

/-! ## State changes (R96) -/

/-- UNUSABLE takes precedence over REVOKED, REVOKED over EXHAUSTED, EXHAUSTED over QUARANTINED. -/
def State.toUnusable (s : State) (sa : Nat) (many : Bool) : State :=
  let x := s.ctx sa
  if x.st = .empty ∨ x.st = .unusable then s else
  let s := (s.setCtx sa { x with st := .unusable }).retireKey sa
  if many then (s.bumpRef .unusable).raise39 0x18E sa (some (s.saParcel sa)) .unusable
  else s.saEvent 0x18E sa 0 0

def State.toRevoked (s : State) (sa : Nat) (many : Bool) : State :=
  let x := s.ctx sa
  if x.st = .empty ∨ x.st = .unusable ∨ x.st = .revoked then s else
  let s := (s.setCtx sa { x with st := .revoked }).retireKey sa
  if many then (s.bumpRef .revoked).raise39 0x18D sa (some (s.saParcel sa)) .revoked
  else s.saEvent 0x18D sa 0 0

/-- EXHAUSTED, with event 0x188 and the final NEXT_PN (R102, R104). -/
def State.toExhausted (s : State) (sa : Nat) : State :=
  let x := s.ctx sa
  if x.st = .active ∨ x.st = .draining ∨ x.st = .quarantined ∨ x.st = .installed then
    (s.setCtx sa { x with st := .exhausted }).saEvent 0x188 sa 0 (if (s.saChan sa).dir then x.high else x.next)
  else s

/-- A draining transmit association whose last heat has gone returns to INSTALLED with event 0x18B (R96, R102). -/
def State.drainDone (s : State) (sa : Nat) : State :=
  let x := s.ctx sa
  if x.st = .draining ∧ !(s.saChan sa).dir ∧ s.saHeats sa = 0 then
    (s.setCtx sa { x with st := .installed }).saEvent 0x18B sa 1 x.next
  else s

/-- A switch of a transmit channel to `an` (R97): CUR_AN moves, the old association drains, event 0x18B. -/
def State.doSwitch (s : State) (sc an : Nat) : State :=
  let c := s.chan sc
  let old := sc * 4 + c.curAn
  let new := sc * 4 + an
  let s := s.setChan sc { c with curAn := an, swAn := an, swPend := false }
  let s := if old ≠ new ∧ (s.ctx old).st = .active then s.setCtx old { s.ctx old with st := .draining } else s
  let s := s.setCtx new { s.ctx new with st := .active }
  let s := (s.raise { num := 0x18B, scope := sc, arg := c.curAn + 4 * an, parcel := some c.parcel }).tieExcuse
  if old ≠ new then s.drainDone old else s

/-- Whether the target of a pending or named switch is INSTALLED. -/
def State.switchable (s : State) (sc an : Nat) : Bool := (s.ctx (sc * 4 + an)).st = .installed

/-- A pending switch cancelled with event 0x18A (R99). -/
def State.cancelSwitch (s : State) (sc : Nat) : State :=
  let c := s.chan sc
  (s.setChan sc { c with swPend := false }).raise { num := 0x18A, scope := sc, arg := c.swAn, parcel := some c.parcel }

/-- A pending switch that is due, in the order of R98 and R99: performed, or cancelled. -/
def State.dueSwitch (s : State) (sc : Nat) : State :=
  let c := s.chan sc
  if !c.valid || !c.swPend || decide (0 < s.until_ c.swAt) then s
  else if (!s.synced && !s.flag F.SEC_CFG_ALLOW_UNSYNC) || !s.switchable sc c.swAn then s.cancelSwitch sc
  else s.doSwitch sc c.swAn

/-! ## STATUS codes (R122) -/

namespace Sc
def ok : Nat := 0
def badOp : Nat := 1
def badIndex : Nat := 2
def state : Nat := 3
def inUse : Nat := 4
def noRoom : Nat := 5
def unsync : Nat := 6
def past : Nat := 7
def noKey : Nat := 8
def denied : Nat := 9
def poison : Nat := 10
/-- Not a code of R122: the command stays BUSY (R118). -/
def busy : Nat := 100
end Sc

/-- The window SEC_DATA0 to 31. -/
def secWin : Nat := (F.SEC_DATA 0).addr
def State.secWords (s : State) : List Word := s.words secWin 32

/-! ## Channel commands -/

def State.scRead (s : State) (sc : Nat) : State × Nat :=
  if sc < 65536 ∧ (s.chan sc).valid then (s.setWords secWin (s.chan sc).toWords, Sc.ok) else (s, Sc.badIndex)

/-- R91: what makes an entry refused with DENIED; the codes 0b11 of OFFSET and CLEAR_TAGS are among the parts R85 does not
support (log entry 21). -/
def State.scDenied (s : State) (sc : Nat) (c : Chan) : Bool :=
  c.valid &&
  (decide (c.linePort < 32) || (c.static_ && !c.xpn) || c.offset == 3 || c.clearTags == 3 ||
   (c.dir && (decide (31 < c.boundClr) || decide (s.pairOf c.boundClr ≠ some c.linePort) ||
     (c.returnValid &&
       (let r := s.chan c.returnSc
        !r.valid || r.dir || r.parcel != c.parcel || r.linePort != c.linePort)) ||
     s.sec.chans.any (fun (k, o) => k != sc && o.valid && o.dir && o.linePort == c.linePort && o.sci == c.sci))))

/-- Some association of the channel is not EMPTY. -/
def State.scInUse (s : State) (sc : Nat) : Bool :=
  (List.range 4).any fun an => (s.ctx (4 * sc + an)).st != .empty || (s.ctx (4 * sc + an)).resvWait

/-- A creation beyond a limit of GLB_PARCEL_LIM: event 0x028 with the parcel and the limit, 0 SC_MAX, 1 PIN_MAX,
2 SLOT_MAX (R302). -/
def State.limitHit (s : State) (p limit : Nat) : State := s.raise { num := 0x028, scope := p, arg := limit, parcel := some p }

/-- GLB_PARCEL_USE of a parcel, whose number has 6 bits, follows the channels (R302). -/
def State.scUse (s : State) (p : Nat) : State :=
  (s.setFld (F.GLB_PARCEL_USE_W0_SCS (p % 64)) (tabCount (fun _ c => c.valid && c.parcel == p) s.sec.chans)).setFld
    (F.GLB_PARCEL_USE_W1_PINNED (p % 64)) (tabCount (fun _ c => c.valid && c.pinned && c.parcel == p) s.sec.chans)

/-- R91, R93, R302: a channel entry written. -/
def State.scPut (s : State) (sc : Nat) (c : Chan) : State × Nat :=
  let old := s.chan sc
  if 65536 ≤ sc then (s, Sc.badIndex)
  else if s.scDenied sc c then (s, Sc.denied)
  else if old.valid && s.scInUse sc &&
      (!c.valid || c.dir != old.dir || c.suite != old.suite || c.linePort != old.linePort || c.parcel != old.parcel ||
        c.pinned != old.pinned) then (s, Sc.inUse)
  else
    let was := b2n (old.valid && old.pinned)
    let will := b2n (c.valid && c.pinned)
    let n := s.fld F.SEC_PIN_PINNED_SCS - was + will
    let mine (c : Chan) : Bool := c.valid && c.parcel == old.parcel && old.valid
    if 4096 < n then (s, Sc.noRoom)
    else if c.valid && !mine c && decide (s.fld (F.GLB_PARCEL_LIM_W0_SC_MAX c.parcel) ≤ s.fld (F.GLB_PARCEL_USE_W0_SCS c.parcel))
    then (s.limitHit c.parcel 0, Sc.noRoom)
    else if c.valid && c.pinned && !(mine c && old.pinned) &&
        decide (s.fld (F.GLB_PARCEL_LIM_W1_PIN_MAX c.parcel) ≤ s.fld (F.GLB_PARCEL_USE_W1_PINNED c.parcel))
    then (s.limitHit c.parcel 1, Sc.noRoom)
    else
      let c := if old.valid && c.valid then
          { c with curAn := old.curAn, swAn := old.swAn, swAt := old.swAt, swPend := old.swPend }
        else { c with swAn := 0, swAt := 0, swPend := false }
      ((((s.setChan sc c).setFld F.SEC_PIN_PINNED_SCS n).scUse old.parcel).scUse c.parcel, Sc.ok)

def State.scWrite (s : State) (sc : Nat) : State × Nat := s.scPut sc (Chan.ofWords s.secWords)

/-! ## Association commands -/

/-- The context as the window shows it (R117): SAK and salt read zero (R118). -/
def State.ctxWords (s : State) (sa : Nat) : List Word :=
  let x := s.ctx sa
  let c := s.saChan sa
  [packW [(28, 4, x.st.code), (24, 1, b2n x.classValid), (21, 3, x.cls), (20, 1, b2n x.cmd), (19, 1, b2n x.poison),
      (17, 2, s.location sa), (0, 16, x.keyGen)], 0] ++
  words64 (if c.dir then x.lowest c.replayWindow else x.next) ++ words64 (if c.dir then x.high else 0) ++
  words64 x.soft ++ words64 x.limit ++ words64 x.resv ++ words64 x.quarUntil.toNat ++ words64 x.drainUntil.toNat ++
  List.replicate 16 0

/-- Whether an association index names an association of a valid channel. -/
def State.saOk (s : State) (sa : Nat) : Bool := decide (sa < 262144) && (s.saChan sa).valid

def State.saRead (s : State) (sa : Nat) : State × Nat :=
  if s.saOk sa then (s.setWords secWin (s.ctxWords sa), Sc.ok) else (s, Sc.badIndex)

/-- A live handoff by number (R241). -/
def State.handoff (s : State) (h : Nat) : Option Handoff :=
  match (tabGet {} s.hrt.hands (h % 64)).held with
  | some x => if x.seq = h / 64 ∧ !s.passed x.made cycS then some x else none
  | none => none

def State.handsUsed (s : State) : Nat := tabCount (fun _ (e : HandEnt) => e.held.isSome) s.hrt.hands

/-- A handoff entry emptied, its material zeroized (R254 HANDOFF). -/
def State.dropHand (s : State) (i : Nat) : State :=
  let e := tabGet {} s.hrt.hands i
  let s := { s with hrt := { s.hrt with hands := tabSet {} s.hrt.hands i { e with held := none } } }
  (s.setFld F.HRT_HANDOFF_IN_USE s.handsUsed).quenched 1

/-- Static-key associations installed (R110). -/
def State.staticCount (s : State) : Nat :=
  tabCount (fun k x => (x.st != .empty || x.resvWait) && (s.saChan k).static_) s.sec.ctxs

/-- Static-key mode is refused for store loss (R251). -/
def State.storeLossRefused (s : State) : Bool :=
  decide (s.hrt.ack < s.otp.storeLoss) || decide (64 ≤ s.otp.storeLoss)

/-- Associations outside pinned channels that are installed (R116). -/
def State.unpinnedCount (s : State) : Nat :=
  tabCount (fun k x => (x.st != .empty || x.resvWait) && !(s.saChan k).pinned) s.sec.ctxs

/-! ## Records in the Hearth store (R247 to R250) -/

/-- Record slots of an area. -/
def areaSlots : Nat → Nat
  | 0 => 64 | 1 => 2560 | 2 => 768 | 3 => 64 | _ => 0

def State.recSlot (s : State) (a i : Nat) : RecSlot := tabGet {} s.hrt.store (4096 * a + i)
def State.setRecSlot (s : State) (a i : Nat) (r : RecSlot) : State :=
  { s with hrt := { s.hrt with store := tabSet {} s.hrt.store (4096 * a + i) r } }

/-- Copies of a record: slot and copy. -/
def State.copies (s : State) (a id : Nat) : List (Nat × Rec) :=
  (List.range (areaSlots a)).filterMap fun i => match (s.recSlot a i).copy with
    | some r => if r.id = id then some (i, r) else none
    | none => none

/-- The valid copy with the highest GENERATION (R250). -/
def State.current (s : State) (a id : Nat) : Option Rec :=
  (s.copies a id).foldl (fun b e => if !(e.2.crcOk && e.2.macOk) then b else match b with
    | none => some e.2
    | some r => if r.gen < e.2.gen then some e.2 else b) none

/-- A commit queued (R249). -/
def State.commitLater (s : State) (area id : Nat) (p : Pay) : State :=
  { s with hrt := { s.hrt with commits := s.hrt.commits ++ [{ area := area, id := id, pay := p }] } }

/-- The STATIC_SAS field follows the contexts. -/
def State.staticSync (s : State) : State := s.setFld F.SEC_STATUS_STATIC_SAS s.staticCount

/-- The start of the 2^40 block that holds a PN (R113). -/
def pnBlock (pn : Nat) : Nat := pn / 2 ^ 40 * 2 ^ 40

/-- A new association from a context and its key (R101, R103, R104, R118, R119), INSTALLED at once or, under a static
key that transmits, once its first block is durable (R111).  A record of the store that a restart left behind is resumed from
(R112, R113); one committed as migrated leaves the association EXHAUSTED (R320). -/
def State.saPut (s : State) (sa : Nat) (w : List Word) (m : KeyMat) : State :=
  let c := s.saChan sa
  let limit := if val64 w 8 = 0 then c.pnMax else val64 w 8
  let soft := if val64 w 6 = 0 then
      (if c.xpn then s.fld F.SEC_PN_SOFT64_LO_SOFT + s.fld F.SEC_PN_SOFT64_HI_SOFT * 2 ^ 32
       else s.fld F.SEC_PN_SOFT32_SOFT) else val64 w 6
  let stx := c.static_ && !c.dir
  let old : Option Pay := if c.static_ then (s.current 2 sa).map (·.pay) else none
  let from_ : Nat := match old with | some (.pn v) => v | _ => 0
  let gone : Bool := match old with | some .migrated => stx | _ => false
  let x : Ctx :=
    { st := if gone then .exhausted else if stx then .empty else .installed
      classValid := bitsOf (w.getD 0 0) 24 1 == 1, cls := bitsOf (w.getD 0 0) 21 3
      cmd := bitsOf (w.getD 0 0) 20 1 == 1
      keyGen := ((s.ctx sa).keyGen + 1) % 65536
      next := if c.dir then 0 else max from_ (val64 w 2), floor := if c.dir then max from_ (val64 w 2) else 0
      high := if c.dir then val64 w 4 else 0, soft := soft, limit := limit
      resvNext := if stx && !gone then some (from_ + 2 ^ 40) else none, resvWait := stx && !gone, key := some m
      resv := if c.static_ && c.dir then pnBlock (max from_ (val64 w 2)) else 0 }
  let s := { s with saStat := s.saStat.filter (fun e => e.1 / 8 != sa) }
  let s := ((s.setCtx sa x).cacheIn sa).tieForget sa
  let s := if gone then s else if stx then s.commitLater 2 sa (.pn (from_ + 2 ^ 40))
    else if c.static_ then s.commitLater 2 sa (.pn (pnBlock (max from_ (val64 w 2)))) else s
  s.staticSync

/-- Whether a context asks for what only a pinned channel may carry (R94). -/
def State.needsPin (s : State) (w : Word) : Bool :=
  bitsOf w 20 1 == 1 || (bitsOf w 24 1 == 1 && s.expressAny (bitsOf w 21 3))

def State.saInstall (s : State) (sa h : Nat) : State × Nat :=
  let c := s.saChan sa
  let w := s.secWords
  if !s.saOk sa then (s, Sc.badIndex)
  else if (s.ctx sa).st ≠ .empty ∨ (s.ctx sa).resvWait then (s, Sc.state)
  else match s.handoff h with
    | none => (s, Sc.noKey)
    | some k =>
      let limit := val64 w 8
      let top := if limit = 0 then c.pnMax else limit
      if k.revoked then (s, Sc.noKey)
      else if k.parcel ≠ c.parcel ∨ k.mat.sak.length ≠ c.sakLen ∨ (c.xpn ∧ k.mat.salt.isNone) ∨ c.pnMax < limit ∨
          (!c.dir ∧ (val64 w 2 = 0 ∨ top < val64 w 2)) ∨ (!c.pinned ∧ s.needsPin (w.getD 0 0)) ∨
          (c.static_ ∧ (!c.xpn ∨ 256 ≤ s.staticCount)) then (s, Sc.denied)
      else if c.static_ ∧ s.storeLossRefused then
        (s.hrtEvent { num := 0x347, scope := 2, arg := sa } sa, Sc.denied)
      else if !c.pinned ∧ !s.ddrCtx ∧ 32768 ≤ s.unpinnedCount then (s, Sc.noRoom)
      else ((s.saPut sa w k.mat).dropHand (h % 64), Sc.ok)

/-- An association returned to EMPTY (R96, R118). -/
def State.saClear (s : State) (sa : Nat) : State :=
  let g := (s.ctx sa).keyGen
  let s := s.retireKey sa
  (((s.setCtx sa { keyGen := g }).cacheOut sa).tieForget sa).staticSync

def State.saDelete (s : State) (sa : Nat) : State × Nat :=
  if !s.saOk sa then (s, Sc.badIndex)
  else match (s.ctx sa).st with
    | .installed | .exhausted | .revoked | .unusable =>
      if s.retireRoom sa then (s.saClear sa, Sc.ok)
      else ({ s with sec := { s.sec with delWait := some sa } }, Sc.busy)
    | _ => (s, Sc.state)

def State.saEnable (s : State) (sa : Nat) : State × Nat :=
  if !s.saOk sa then (s, Sc.badIndex)
  else if (s.saChan sa).dir ∧ (s.ctx sa).st = .installed then (s.setCtx sa { s.ctx sa with st := .active }, Sc.ok)
  else (s, Sc.state)

/-- SA_RETIRE with a drain time in µs. -/
def State.saRetire (s : State) (sa us : Nat) : State × Nat :=
  if !s.saOk sa then (s, Sc.badIndex)
  else if 60000000 < us then (s, Sc.denied)
  else if (s.saChan sa).dir ∧ (s.ctx sa).st = .active then
    (s.setCtx sa (if us = 0 then { s.ctx sa with st := .installed }
      else { s.ctx sa with st := .draining, drainUntil := s.datumNs + BitVec.ofNat 64 (1000 * us) }), Sc.ok)
  else (s, Sc.state)

def State.scSwitch (s : State) (sc an : Nat) : State × Nat :=
  if !(decide (sc < 65536) && (s.chan sc).valid) then (s, Sc.badIndex)
  else if (s.chan sc).dir ∨ !s.switchable sc an then (s, Sc.state)
  else (s.doSwitch sc an, Sc.ok)

def State.scSchedule (s : State) (sc an : Nat) (at_ : BitVec 64) : State × Nat :=
  if !(decide (sc < 65536) && (s.chan sc).valid) then (s, Sc.badIndex)
  else if (s.chan sc).dir then (s, Sc.state)
  else if !s.synced ∧ !s.flag F.SEC_CFG_ALLOW_UNSYNC then (s, Sc.unsync)
  else if s.until_ at_ ≤ 0 then (s, Sc.past)
  else (s.setChan sc { s.chan sc with swAn := an, swAt := at_, swPend := true }, Sc.ok)

def State.scCancel (s : State) (sc : Nat) : State × Nat :=
  if decide (sc < 65536) && (s.chan sc).valid then (s.setChan sc { s.chan sc with swPend := false }, Sc.ok)
  else (s, Sc.badIndex)

/-- R105: NEXT_PN raised, and EXHAUSTED where the value lies above PN_LIMIT. -/
def State.raisePn (s : State) (sa v : Nat) : State :=
  let x := s.ctx sa
  let s := (s.setCtx sa { x with next := max x.next v }).tieDrew sa 0 x.next (max x.next v)
  if x.limit < v then s.toExhausted sa else s

/-- The raise armed at a Tie takeover, applied to association `sa` before its first draw (R400): a static-key association whose
reservation does not cover the raised value waits for one (R111). -/
def State.guardRaise (s : State) (sa : Nat) : State :=
  let v := tabGet 0 s.tie.armed sa
  if v = 0 then s
  else
    let s := { s with tie := { s.tie with armed := tabSet 0 s.tie.armed sa 0 } }
    let x := s.ctx sa
    let s := if (s.saChan sa).static_ ∧ x.resv ≤ v ∧ v ≤ x.limit then
        (s.setCtx sa { x with resvNext := some (pnBlock v + 2 ^ 40), resvWait := true }).commitLater 2 sa (.pn (pnBlock v + 2 ^ 40))
      else s
    s.raisePn sa v

def State.saRaisePn (s : State) (sa v : Nat) : State × Nat :=
  if !s.saOk sa then (s, Sc.badIndex)
  else if (s.saChan sa).dir ∨ (s.ctx sa).st = .empty then (s, Sc.state)
  else ((s.guardRaise sa).raisePn sa v, Sc.ok)

def State.saRevoke (s : State) (sa : Nat) : State × Nat :=
  if !s.saOk sa then (s, Sc.badIndex)
  else if (s.ctx sa).st = .empty ∨ (s.ctx sa).st = .unusable then (s, Sc.state)
  else (s.toRevoked sa false, Sc.ok)

def State.saStats (s : State) (sa : Nat) : State × Nat :=
  if !s.saOk sa then (s, Sc.badIndex)
  else
    let w := (List.range 7).flatMap fun k => words64 (tabGet 0 s.saStat (8 * sa + k)).toNat
    (s.setWords secWin (w ++ words64 (tabGet 0 s.sec.statPoison sa)), Sc.ok)

def State.saPn (s : State) (sa : Nat) : State × Nat :=
  if !s.saOk sa then (s, Sc.badIndex)
  else
    let x := s.ctx sa
    let c := s.saChan sa
    (s.setWords secWin (words64 (if c.dir then x.lowest c.replayWindow else max x.next (tabGet 0 s.tie.armed sa)) ++
      words64 (if c.dir then x.high else 0) ++ [BitVec.ofNat 32 x.st.code]), Sc.ok)

/-! ## Commands through SEC_CMD or a ring (R121, R335) -/

/-- A command of SEC_CMD by its OP; the window and the handoff as they stand.  A poisoned context answers POISON to all
but SA_READ and SA_DELETE (log entry 20). -/
def State.secOp (s : State) (op idx h : Nat) : State × Nat :=
  let saOp := [4, 6, 7, 0xB, 0xC, 0xD, 0xE].contains op
  if saOp && s.saOk idx && (s.ctx idx).poison then (s, Sc.poison) else
  let w := s.secWords
  match op with
  | 1 => s.scRead idx
  | 2 => s.scWrite idx
  | 3 => s.saRead idx
  | 4 => s.saInstall idx h
  | 5 => s.saDelete idx
  | 6 => s.saEnable idx
  | 7 => s.saRetire idx (w.getD 0 0).toNat
  | 8 => s.scSwitch idx (bitsOf (w.getD 0 0) 0 2)
  | 9 => s.scSchedule idx (bitsOf (w.getD 0 0) 0 2) (BitVec.ofNat 64 (val64 w 2))
  | 0xA => s.scCancel idx
  | 0xB => s.saRaisePn idx (val64 w 2)
  | 0xC => s.saRevoke idx
  | 0xD => s.saStats idx
  | 0xE => s.saPn idx
  | _ => (s, Sc.badOp)

/-- Class of a SEC command (R335). -/
def secClass (op : Nat) : Cls :=
  if [1, 3, 0xD, 0xE].contains op then .observe else if op = 2 ∨ op = 0xC then .secure else .operate

/-- The outcome of a SEC command in STATUS, BUSY and event 0x18F (R121, R122); a change goes to the standby (R391). -/
def State.secDone (x : State × Nat) (op idx : Nat) : State :=
  let (s, code) := x
  if code = Sc.busy then s.setFld F.SEC_CMD_BUSY 1
  else
    let s := (s.setFld F.SEC_CMD_BUSY 0).setFld F.SEC_CMD_STATUS code
    if code ≠ Sc.ok then s.secRefused op idx code
    else if secClass op = .observe then s
    else
      let w := wordBytes s.secWords
      match (if op = 4 ∧ s.fld F.TIE_STATUS_ROLE = 2 then (s.ctx idx).key else none) with
      | some m => let x := s.tieSak m; x.1.tieMirror (0x1500 + op) idx 0 (w ++ x.2)
      | none => s.tieMirror (0x1500 + op) idx 0 w

/-- Parcels a SEC command names (R331 step 6): the channel's, and for SC_WRITE the entry's own. -/
def secParcels (op : Nat) (s : State) (b : List Byte) : List Nat :=
  let i := blkIndex b
  let sc := if [1, 2, 8, 9, 0xA].contains op then i else i / 4
  (if (s.chan sc).valid then [(s.chan sc).parcel] else []) ++
  (if op = 2 then [(Chan.ofWords (s.setWords secWin (blkWords b)).secWords).parcel] else [])

/-- A SEC command by descriptor, its window filled: no result while SEC_CMD is BUSY with an earlier one, or once it is BUSY with
this one. -/
def State.secRun (op : Nat) (s : State) (b : List Byte) : State × Option (Nat × Nat) :=
  if s.flag F.SEC_CMD_BUSY then (s, none)
  else
    let s := s.setWords secWin (blkWords b)
    let r := s.secOp op (blkIndex b) (blkArg b)
    let t := State.secDone r op (blkIndex b)
    if r.2 = Sc.busy then ({ t with sec := { t.sec with delRing := true } }, none) else (t, some (r.2, 0))

/-- A SEC command however it arrives. -/
def secCmd (op : Nat) (v : Via) (s : State) : State :=
  match v with
  | .reg w word =>
    cmdReg F.SEC_CMD_OP F.SEC_CMD_BUSY (fun s => s.secRefused op (bitsOf word 0 18) 0) w word
      (fun s => State.secDone (s.secOp op (s.fld F.SEC_CMD_INDEX) (s.fld F.SEC_HANDOFF)) op (s.fld F.SEC_CMD_INDEX)) s
  | .ring d => blockCmdW d 5 op (secClass op) secWin 32 (secParcels op) (State.secRun op) s

/-- The SA_DELETE that waits, once the retire store has a place; then the SEC commands of rings that waited behind it
(R118, R332). -/
def State.secResume (s : State) : State :=
  match s.sec.delWait with
  | none => s
  | some sa =>
    if s.retireRoom sa then
      let ring := s.sec.delRing
      let s := ({ s with sec := { s.sec with delWait := none, delRing := false } }).saClear sa
      let s := State.secDone (s, Sc.ok) 5 sa
      let s := match (if ring then s.waits.find? (fun w => w.opcode == 0x1505 && blkIndex (descBody w.d) == sa) else none) with
        | some w => s.finishWait w (fun s => blkRes secWin 32 (s, 0, 0)) (16 + 4 * 32)
        | none => s
      (s.waits.filter fun w => w.opcode / 256 == 0x15).foldl (fun s w =>
        match State.secRun (w.opcode % 256) s (descBody w.d) with
        | (s, some x) => s.finishWait w (fun s => blkRes secWin 32 (s, x)) (16 + 4 * 32)
        | (s, none) => s) s
    else s

def execScRead (v : Via) (s : State) : Out := .next (secCmd 0x1 v s)
def execScWrite (v : Via) (s : State) : Out := .next (secCmd 0x2 v s)
def execSaRead (v : Via) (s : State) : Out := .next (secCmd 0x3 v s)
def execSaInstall (v : Via) (s : State) : Out := .next (secCmd 0x4 v s)
def execSaDelete (v : Via) (s : State) : Out := .next (secCmd 0x5 v s)
def execSaEnable (v : Via) (s : State) : Out := .next (secCmd 0x6 v s)
def execSaRetire (v : Via) (s : State) : Out := .next (secCmd 0x7 v s)
def execScSwitch (v : Via) (s : State) : Out := .next (secCmd 0x8 v s)
def execScSchedule (v : Via) (s : State) : Out := .next (secCmd 0x9 v s)
def execScCancel (v : Via) (s : State) : Out := .next (secCmd 0xA v s)
def execSaRaisePn (v : Via) (s : State) : Out := .next (secCmd 0xB v s)
def execSaRevoke (v : Via) (s : State) : Out := .next (secCmd 0xC v s)
def execSaStats (v : Via) (s : State) : Out := .next (secCmd 0xD v s)
def execSaPn (v : Via) (s : State) : Out := .next (secCmd 0xE v s)

/-! ## Times that come (R96, R98, R99) -/

/-- SCHEDULED_SWITCH_DUE (R99): the pending switch of a channel whose time has come while Datum is unsynchronised or
whose target is not INSTALLED is cancelled; one that may be made is made between two dispatches (R98). -/
def execScheduledSwitchDue (sc : BitVec 16) (s : State) : Out := .next (s.dueSwitch sc.toNat)

/-- DRAIN_EXPIRY (R96): a draining receive association whose DRAIN_UNTIL has come returns to INSTALLED. -/
def execDrainExpiry (sa : BitVec 18) (s : State) : Out :=
  let x := s.ctx sa.toNat
  if x.st = .draining ∧ (s.saChan sa.toNat).dir ∧ s.until_ x.drainUntil ≤ 0 then
    .next (s.setCtx sa.toNat { x with st := .installed })
  else .next s

/-- QUARANTINE_EXPIRY (R96): to ACTIVE, to DRAINING where it was draining and DRAIN_UNTIL has not passed, otherwise to
INSTALLED. -/
def execQuarantineExpiry (sa : BitVec 18) (s : State) : Out :=
  let x := s.ctx sa.toNat
  if x.st = .quarantined ∧ s.until_ x.quarUntil ≤ 0 then
    .next (s.setCtx sa.toNat { x with
      wasDraining := false
      st := if !x.wasDraining then .active else if 0 < s.until_ x.drainUntil then .draining else .installed })
  else .next s

end Sys2Proof.Machine
end

