-- ==== Sys2Proof/Machine/Datum.lean ====
section
/-! DEFINITION. Machine/Datum.lean: Datum, Meridian, benchmark inputs and stakes (spec/09_datum_meridian_time.md): what does
not involve the gates. -/

namespace Sys2Proof.Machine

/-! ## Time (R208 to R212) -/

/-- Datum in ns, fraction included. -/
def State.datumRat (s : State) : Rat := (s.datum.toInt : Rat) / 4294967296

/-- A Datum value in quarter-ns, `q` quarter-ns ago (R217). -/
def State.stamp (s : State) (q : Nat) : Int := (s.datumRat * 4).floor - q

/-- DAT_CYC in ns. -/
def State.cycNs (s : State) : Rat := (s.cyc.toNat : Rat) * 2 / 3

/-- A two's complement number of `w` bits. -/
def signed (w v : Nat) : Int := if v < 2 ^ (w - 1) then v else (v : Int) - 2 ^ w

/-- A field read as a signed number. -/
def State.sfld (s : State) (f : Fld) : Int := signed f.width (s.fld f)

/-- An integer as a field of `w` bits. -/
def toField (w : Nat) (v : Int) : Nat := (v % (2 ^ w : Int)).toNat

/-- An integer held between bounds. -/
def clampI (lo hi v : Int) : Int := max lo (min hi v)
def clampN (lo hi v : Nat) : Nat := max lo (min hi v)

/-- SLEW_PPM, within 1 to 100. -/
def State.slewPpm (s : State) : Nat := clampN 1 100 (s.fld F.DAT_CFG_SLEW_PPM)

/-- What a slew adds in one core cycle, in ns: at most the offset that is left (R212). -/
def State.slewStep (s : State) : Rat :=
  let m : Rat := (s.slewPpm : Rat) * 2 / 3000000
  if s.dat.slew < 0 then max s.dat.slew (-m) else min s.dat.slew m

/-- Datum one core cycle on (R208, R212), and DAT_CYC with it (R211). -/
def State.advance (s : State) : State :=
  let f : Rat := (s.sfld F.DAT_FREQ : Rat) / 65536000000
  let sl := s.slewStep
  let d : Rat := ((2 : Rat) / 3 * (1 + f) + sl) * 4294967296 + s.dat.rem
  { s with cyc := s.cyc + 1, datum := s.datum + BitVec.ofInt 96 d.floor
           dat := { s.dat with rem := d - d.floor, slew := s.dat.slew - sl } }

/-- A slew begun, in ns, in place of what remained (R212). -/
def State.startSlew (s : State) (ns : Int) : State :=
  ({ s with dat := { s.dat with slew := ns } }).setFlag F.DAT_STATUS_SLEWING (ns != 0)

/-- Datum's state changed with event 0x300; SYNC follows (R213, R214). -/
def State.datState (s : State) (new : Nat) : State :=
  let old := s.fld F.DAT_STATUS_STATE
  if old = new then s
  else
    let s := (s.setFld F.DAT_STATUS_STATE new).setFlag F.DAT_STATUS_SYNC (decide (2 ≤ new))
    let s := { s with dat := { s.dat with good := 0, bad := 0, hold := if new = 3 then s.cyc else s.dat.hold } }
    s.raise { num := 0x300, arg := old + 4 * new }

/-! ## Meridian (R220 to R222) -/

/-- 0 UNLOCKED, 1 ACQUIRING, 2 LOCKED, 3 HOLDOVER. -/
def State.merState (s : State) : Nat := s.fld F.MER_STATUS_STATE

def State.merGo (s : State) (new : Nat) : State :=
  let old := s.merState
  if old = new then s
  else
    let s := (s.setFld F.MER_STATUS_STATE new).setFld F.MER_STATUS_HOLD_LEFT
      (if new = 3 then max 1 (s.fld F.MER_HOLD_HOLD_CYCLES) else 0)
    let s := { s with dat := { s.dat with merGood := 0, merBad := 0, merHold := s.datumRat } }
    s.raise { num := 0x310, arg := old + 4 * new }

/-- Meridian's phase is valid. -/
def State.merValid (s : State) : Bool := decide (2 ≤ s.merState)

/-- Cycles in a ns at the tracked frequency. -/
def State.merRate (s : State) : Rat := ((max 1 s.dat.merF : Nat) : Rat) / 65536000000000

/-- φ(t) before reduction, in cycles. -/
def State.merCycles (s : State) (t : Rat) : Rat := (s.dat.merPhi : Rat) / 4294967296 + s.merRate * (t - s.dat.merT)

/-- The 32-bit phase at Datum `t` (R222). -/
def State.merPhase (s : State) (t : Rat) : Nat :=
  let c := s.merCycles t
  ((c - c.floor) * 4294967296).floor.toNat % 2 ^ 32

/-- The Datum time at or after `t` at which a phase next occurs (R222). -/
def State.merNext (s : State) (t : Rat) (phase : Nat) : Rat :=
  let p : Rat := (phase : Rat) / 4294967296
  let k := (s.merCycles t - p).ceil
  s.dat.merT + (p + k - (s.dat.merPhi : Rat) / 4294967296) / s.merRate

/-- MIN_HZ and MAX_HZ, within 1 to 10,000. -/
def State.merMin (s : State) : Nat := clampN 1 10000 (s.fld F.MER_RANGE_MIN_HZ)
def State.merMax (s : State) : Nat := clampN 1 10000 (s.fld F.MER_RANGE_MAX_HZ)

/-- The reference after an accepted edge at `t`: the measured period while acquiring without one; afterwards the loop's
phase and frequency, whose gains the spec does not give (R221, R222; free values). -/
def State.merTrack (s : State) (t : Rat) (period : Option Rat) : State :=
  if s.merState ≤ 1 ∧ s.dat.merGood = 0 then
    match period with
    | some p => { s with dat := { s.dat with merT := t, merPhi := s.fld F.MER_PHASE_OFFSET
                                             merF := ((65536000000000 : Rat) / p).floor.toNat } }
    | none => { s with dat := { s.dat with merT := t, merPhi := s.fld F.MER_PHASE_OFFSET } }
  else
    let s := { s with dat := { s.dat with merT := t, merPhi := s.openVal % 2 ^ 32 } }.drew
    let lo := 65536 * s.merMin
    let s := { s with dat := { s.dat with merF := lo + s.openVal % (65536 * (s.merMax - s.merMin) + 1) } }.drew
    s

/-- An accepted edge with phase error `e` (R221). -/
def State.merAccept (s : State) (t : Rat) (e : Nat) (period : Option Rat) : State :=
  let ok := decide (e ≤ s.fld F.MER_LOCK_THRESH)
  let s := (s.merTrack t period).setFld F.MER_FREQ s.dat.merF
  let s := s.setFld F.MER_FREQ s.dat.merF
  let s := { s with dat := { s.dat with merLast := t, merPrev := some t } }
  match s.merState with
  | 0 => s.merGo 1
  | 1 =>
    let n := if ok && period.isSome then s.dat.merGood + 1 else 0
    let s := { s with dat := { s.dat with merGood := n } }
    if max 1 (s.fld F.MER_CFG_LOCK_COUNT) ≤ n then s.merGo 2 else s
  | 2 =>
    let n := if ok then 0 else s.dat.merBad + 1
    let s := { s with dat := { s.dat with merBad := n } }
    if 4 ≤ n then s.merGo 1 else s
  | _ => if ok then s.merGo 2 else s.merGo 1

/-- MERID_IN_EDGE (R220): an edge, `q` quarter-ns ago, that ends a level of `us` microseconds; in ACQUIRING a rejected
edge starts the next period measured (log entry 30). -/
def execMeridInEdge (rise : Bool) (q : BitVec 8) (us : BitVec 32) (s : State) : Out :=
  if !s.flag F.MER_CFG_EN || rise == s.flag F.MER_CFG_EDGE || decide (us.toNat < s.fld F.MER_CFG_MIN_PULSE_US) then .next s
  else
    let t : Rat := (s.stamp q.toNat : Rat) / 4
    let off := s.fld F.MER_PHASE_OFFSET
    let e := signed 32 ((s.merPhase t + 2 ^ 32 - off) % 2 ^ 32)
    if s.merValid then
      let cycles := (s.merCycles t - s.merCycles s.dat.merLast + 1 / 2).floor
      let p := (t - s.dat.merLast) / (max 1 cycles : Int)
      if p * s.merMax < 1000000000 ∨ 1000000000 < p * s.merMin then .next ((s.bump C.MER_RANGE_ERR).raise { num := 0x311 })
      else if e.natAbs ≤ 2 ^ 26 then .next (s.merAccept t e.natAbs (some p))
      else .next (s.dropDev 0x312 0 none C.MER_SPURIOUS)
    else match s.dat.merPrev with
      | none => .next (s.merAccept t 0 none)
      | some prev =>
        let p := t - prev
        if p * s.merMax < 1000000000 ∨ 1000000000 < p * s.merMin then
          .next (({ s with dat := { s.dat with merPrev := some t, merGood := 0 } }.bump C.MER_RANGE_ERR).raise { num := 0x311 })
        else .next (s.merAccept t e.natAbs (some p))

/-- MERIDIAN_EDGE_MISSING (R221). -/
def execMeridianEdgeMissing (s : State) : Out :=
  if s.merState = 2 ∧ 3 / 2 < s.merRate * (s.datumRat - s.dat.merLast) then .next (s.merGo 3) else .next s

/-- Predicted cycles since HOLDOVER began. -/
def State.merHeld (s : State) : Nat := (s.merRate * (s.datumRat - s.dat.merHold)).floor.toNat

/-- MERIDIAN_HOLD_EXPIRY (R221). -/
def State.merExpire (s : State) : State :=
  if s.merState = 3 ∧ max 1 (s.fld F.MER_HOLD_HOLD_CYCLES) ≤ s.merHeld then
    ({ s with dat := { s.dat with merPrev := none } }).merGo 0 else s

/-! ## Reads that act (R210, R223) -/

/-- NOW_LATCH (R210). -/
def execNowLatch (s : State) : Out :=
  let d := s.datum.toNat
  let c := s.cyc.toNat
  let s := ((s.setFld F.DAT_NOW_FRAC (d % 2 ^ 32)).setFld F.DAT_NOW_LO (d / 2 ^ 32 % 2 ^ 32)).setFld F.DAT_NOW_HI (d / 2 ^ 64)
  let s := (s.setFld F.DAT_CYC_LO (c % 2 ^ 32)).setFld F.DAT_CYC_HI (c / 2 ^ 32)
  .next (s.setFld F.MER_PHASE (if s.merValid then s.merPhase s.datumRat else 0))

def State.bench (s : State) (i : Nat) : Bench := tabGet {} s.dat.bench i
def State.setBench (s : State) (i : Nat) (b : Bench) : State :=
  ({ s with dat := { s.dat with bench := tabSet {} s.dat.bench i b } }).setFld (F.DAT_BENCH_W0_LEVEL i) b.fifo.length

/-- BENCH_CAPTURE (R223): an edge on BENCH_IN[i], `q` quarter-ns ago. -/
def execBenchCapture (i : Fin 8) (rise : Bool) (q : BitVec 8) (s : State) : Out :=
  let i := i.val
  let b := s.bench i
  let want := s.fld (F.DAT_BENCH_W0_EDGE i)
  if !s.flag (F.DAT_BENCH_W0_EN i) || !(want == 3 || (rise && want == 1) || (!rise && want == 2)) then .next s
  else
    let close := match b.edge with | some e => !s.passed e 150 | none => false
    if close || decide (16 ≤ b.fifo.length) then
      .next (((s.setBench i { b with edge := some s.cyc }).bump (C.DAT_BENCH_OVF i)).raise { num := 0x320, scope := i })
    else
      let t := s.stamp q.toNat
      let c : BenchCap :=
        { ns := BitVec.ofInt 64 (t / 4), quarter := (t % 4).toNat, rise := rise, sync := s.synced, mlock := s.merState == 2
          phase := if s.merValid then s.merPhase ((t : Rat) / 4) / 65536 else 0 }
      let tell := b.fifo.isEmpty || (match b.told with | some e => s.passed e cycMs | none => true)
      let s := s.setBench i { fifo := b.fifo ++ [c], edge := some s.cyc, told := if tell then some s.cyc else b.told }
      .next (if tell then s.raise { num := 0x318 + i, scope := i } else s)

/-- BENCH_POP (R223): a read of DAT_BENCH_LO[i]; its registers show the entry taken, or zero. -/
def execBenchPop (i : Fin 8) (s : State) : Out :=
  let i := i.val
  let b := s.bench i
  let show_ (s : State) (lo hi w3 : Word) : State :=
    ((s.setWord (F.DAT_BENCH_W1_LO i).addr lo).setWord (F.DAT_BENCH_W2_HI i).addr hi).setWord (F.DAT_BENCH_W3_VALID i).addr w3
  match b.fifo with
  | [] => .next (show_ s 0 0 0)
  | c :: rest =>
    .next (show_ (s.setBench i { b with fifo := rest }) (c.ns.extractLsb' 0 32) (c.ns.extractLsb' 32 32)
      (packW [(31, 1, 1), (30, 1, b2n c.rise), (29, 1, b2n c.sync), (28, 1, b2n c.mlock), (16, 2, c.quarter), (0, 16, c.phase)]))

/-! ## Stakes (R224, R225) -/

def State.stake (s : State) (k : Nat) : Stake := tabGet {} s.dat.stakes k
def State.setStake (s : State) (k : Nat) (x : Stake) : State :=
  { s with dat := { s.dat with stakes := tabSet {} s.dat.stakes k x } }

/-- Firing indices a stake has in all: none where unlimited. -/
def Stake.total (x : Stake) : Option Nat :=
  match x.mode with
  | 0 => some 0
  | 1 => some 1
  | _ => if x.count = 0 then none else some x.count

def Stake.over (x : Stake) : Bool := match x.total with | some n => decide (n ≤ x.idx) | none => false

/-- ns until the next firing that is not fixed. -/
def State.stakeIn (s : State) (x : Stake) : Rat :=
  if x.mode = 3 then x.merNext - s.datumRat
  else
    let t := x.time + BitVec.ofNat 64 (x.idx * x.period)
    ((s.until_ t : Int) : Rat) - (s.datumRat - s.datumRat.floor)

/-- The stake after its next index is used up: in MERIDIAN mode the next is DIVIDE cycles on. -/
def State.stakeUsed (s : State) (x : Stake) (phase : Nat) : Stake :=
  { x with idx := x.idx + 1
           merNext := if x.mode = 3 then s.merNext (x.merNext + ((x.divide : Rat) - 1 / 2) / s.merRate) phase else x.merNext }

/-- Firings less than 1,024 ns ahead become fixed at their instant (R225). -/
def State.fixStake (s : State) (k : Nat) : Nat → Stake → Stake
  | 0, x => x
  | n + 1, x =>
    if x.over || decide (1024 ≤ s.stakeIn x) then x
    else
      let wait := max 0 (s.stakeIn x)
      let c := s.cyc + BitVec.ofNat 64 (wait * 3 / 2).ceil.toNat
      s.fixStake k n { s.stakeUsed x (s.fld (F.DAT_STAKE_W3_PERIOD_PHASE k)) with
        fixed := x.fixed ++ [(c, if x.mode = 3 then 2 else if x.reqSync then 1 else 0)] }

def State.fixStakes (s : State) : State :=
  (List.range 8).foldl (fun s k => if s.flag (F.DAT_STAKE_W0_ARMED k) then s.setStake k (s.fixStake k 16 (s.stake k)) else s) s

/-- A forward step past firings that are not fixed skips them (R225): `ns` is the step. -/
def State.stakesStep (s : State) (ns : Int) : State :=
  (List.range 8).foldl (fun s k =>
    let x := s.stake k
    if !s.flag (F.DAT_STAKE_W0_ARMED k) || x.over then s
    else if x.mode = 3 then s.setStake k { x with merNext := x.merNext + ns }
    else
      let left := s.stakeIn x - ns
      if 0 < left then s
      else
        let n : Nat := if x.mode = 1 then 1 else (-left / ((max 1 x.period : Nat) : Rat)).floor.toNat + 1
        let n := match x.total with | some t => min n (t - x.idx) | none => n
        let s := (s.setStake k { x with idx := x.idx + n }).bumpBy (C.DAT_STAKE_MISSED k) n
        s.raise { num := 0x328, scope := k, arg := n }) s

/-- STAKE_FIRING (R225): stake `k`'s next fixed firing, once its instant has come, is driven or suppressed; after its last
index the stake is no longer armed. -/
def execStakeFiring (k : Fin 8) (s : State) : Out :=
  let k := k.val
  let s := s.fixStakes
  let x := s.stake k
  match x.fixed with
  | [] => .next s
  | (c, need) :: rest =>
    if 0 < (c - s.cyc).toInt then .next s
    else
      let x := { x with fixed := rest }
      let s := if x.over && rest.isEmpty then s.setFld (F.DAT_STAKE_W0_ARMED k) 0 else s
      if (need = 1 ∧ !s.synced) ∨ (need = 2 ∧ !s.merValid) then
        .next ((s.setStake k x).dropDev 0x32A k none (C.DAT_STAKE_SUPP k))
      else
        let s := s.setStake k { x with on := some (s.cyc + BitVec.ofNat 64 ((3 * s.fld (F.DAT_STAKE_W6_WIDTH_NS k) + 1) / 2)) }
        .next ((s.bump (C.DAT_STAKE_FIRED k)).setFld (F.DAT_STAKE_W7_FIRED k) (s.fld (F.DAT_STAKE_W7_FIRED k) + 1))

/-- STAKE_PULSE_END (R224): the output of stake `k` returns to its inactive level. -/
def execStakePulseEnd (k : Fin 8) (s : State) : Out :=
  let x := s.stake k.val
  match x.on with
  | some c => if 0 < (c - s.cyc).toInt then .next s else .next (s.setStake k.val { x with on := none })
  | none => .next s

/-- Why an ARM is refused: 1 PAST, 2 INVALID. -/
def State.stakeRefusal (s : State) (k : Nat) : Nat :=
  let mode := s.fld (F.DAT_STAKE_W0_MODE k)
  let w := s.fld (F.DAT_STAKE_W6_WIDTH_NS k)
  let p := s.fld (F.DAT_STAKE_W3_PERIOD_PHASE k)
  let t := BitVec.ofNat 64 (s.fld (F.DAT_STAKE_W1_TIME_LO k) + 2 ^ 32 * s.fld (F.DAT_STAKE_W2_TIME_HI k))
  if w < 10 ∨ (mode = 2 ∧ (p < w + 10 ∨ p < 100)) ∨ (mode = 3 ∧ s.fld (F.DAT_STAKE_W5_DIVIDE k) = 0) then 2
  else if (mode = 1 ∨ mode = 2) ∧ s.until_ t < 1024 then 1 else 0

/-- A write of a stake's first word (R224): its fields, then DISARM or ARM. -/
def State.stakeWrite (s : State) (w : World) (k : Nat) (v : Word) : State :=
  let s := s.writeReg w (F.DAT_STAKE_W0_ARM k).addr v
  let arm := s.flag (F.DAT_STAKE_W0_ARM k)
  let disarm := s.flag (F.DAT_STAKE_W0_DISARM k)
  let s := (s.setFld (F.DAT_STAKE_W0_ARM k) 0).setFld (F.DAT_STAKE_W0_DISARM k) 0
  let refuse (s : State) (code : Nat) : State :=
    (s.setFld (F.DAT_STAKE_W0_ARM_STATUS k) code).raise { num := 0x329, scope := k, arg := code }
  let stop (s : State) : State :=
    let s := s.fixStakes
    (s.setStake k { s.stake k with mode := 0 }).setFld (F.DAT_STAKE_W0_ARMED k) 0
  if disarm then (if arm then refuse (stop s) 2 else stop s)
  else if !arm then s
  else
    let code := s.stakeRefusal k
    if code ≠ 0 then refuse s code
    else
      let s := s.fixStakes
      let mode := s.fld (F.DAT_STAKE_W0_MODE k)
      let phase := s.fld (F.DAT_STAKE_W3_PERIOD_PHASE k)
      let x : Stake :=
        { mode := mode, reqSync := s.flag (F.DAT_STAKE_W0_REQ_SYNC k)
          time := BitVec.ofNat 64 (s.fld (F.DAT_STAKE_W1_TIME_LO k) + 2 ^ 32 * s.fld (F.DAT_STAKE_W2_TIME_HI k))
          period := phase, count := s.fld (F.DAT_STAKE_W4_COUNT k), divide := s.fld (F.DAT_STAKE_W5_DIVIDE k)
          width := s.fld (F.DAT_STAKE_W6_WIDTH_NS k), merNext := s.merNext s.datumRat phase
          fixed := (s.stake k).fixed, on := (s.stake k).on }
      let s := (s.setStake k x).setFld (F.DAT_STAKE_W0_ARM_STATUS k) 0
      (s.setFlag (F.DAT_STAKE_W0_ARMED k) (mode != 0)).setFld (F.DAT_STAKE_W7_FIRED k) 0

/-- STAKE_ARM (R224): a write of stake `k`'s control word with ARM. -/
def execStakeArm (w : World) (k : Fin 8) (v : Word) (s : State) : Out :=
  .next (secureOnly w (F.DAT_STAKE_W0_ARM k.val).addr (fun s => s.stakeWrite w k.val v) s)

/-- STAKE_DISARM (R224): a write of stake `k`'s control word with DISARM. -/
def execStakeDisarm (w : World) (k : Fin 8) (v : Word) (s : State) : Out :=
  .next (secureOnly w (F.DAT_STAKE_W0_ARM k.val).addr (fun s => s.stakeWrite w k.val v) s)

/-! ## PPS_OUT and TOD (R215, R219) -/

/-- One bit of CRC-16 with polynomial 0x1021. -/
def crc16Bit (c : Nat) : Nat := if 0x8000 ≤ c then Nat.xor (c * 2 % 65536) 0x1021 else c * 2

def crc16Byte (c : Nat) (b : Byte) : Nat :=
  crc16Bit (crc16Bit (crc16Bit (crc16Bit (crc16Bit (crc16Bit (crc16Bit (crc16Bit (Nat.xor c (b.toNat * 256)))))))))

def crc16 (l : List Byte) : Nat := l.foldl crc16Byte 0xFFFF

/-- PPS_OUT_SECOND (R219): Datum has reached another whole second.  Flag [3] of the message, traceable source, is left open. -/
def execPpsOutSecond (s : State) : Out :=
  let sec := s.datumNs.toInt / 1000000000
  if sec = s.dat.ppsSec then .next s
  else
    let s := { s with dat := { s.dat with ppsSec := sec } }
    if s.flag F.DAT_CFG_PPS_OUT_EN && (s.synced || s.flag F.DAT_CFG_PPS_FREE) then
      let flags := b2n s.synced + 2 * s.fld F.DAT_UTC_LEAP + 8 * (s.openVal % 2)
      let m := [0x5A, 0x44, 1] ++ leBytes 1 flags ++ leBytes 6 (toField 48 sec) ++ leBytes 2 (s.fld F.DAT_UTC_UTC_OFS) ++ zeros 2
      .next ({ s with dat := { s.dat with ppsOut := some s.cyc, todOut := m ++ leBytes 2 (crc16 m) } }.drew)
    else .next s

/-- PPS_OUT_PULSE_END (R219). -/
def execPpsOutPulseEnd (s : State) : Out :=
  match s.dat.ppsOut with
  | some c =>
    if s.passed c (cycMs * clampN 1 250 (s.fld F.DAT_CFG_PPS_WIDTH_MS)) then
      .next { s with dat := { s.dat with ppsOut := none } } else .next s
  | none => .next s

/-- PPS_IN_EDGE (R215): an edge, `q` quarter-ns ago, waits for its message. -/
def execPpsInEdge (rise : Bool) (q : BitVec 8) (s : State) : Out :=
  if s.fld F.DAT_CFG_SRC = 1 ∧ rise ≠ s.flag F.DAT_CFG_PPS_EDGE then
    .next { s with dat := { s.dat with pps := some (s.stamp q.toNat, s.cyc) } }
  else .next s

/-! ## Commands that do not step (R212, R228) -/

/-- SLEW_DONE (R212). -/
def execDatSlewDone (s : State) : Out :=
  if s.flag F.DAT_STATUS_SLEWING && s.dat.slew == 0 then .next (s.setFld F.DAT_STATUS_SLEWING 0) else .next s

/-- A write of DAT_FREQ, clamped with event 0x304 (R212). -/
def State.freqWrite (s : State) (v : Word) : State :=
  let x := v.toInt
  let c := clampI (-13107200) 13107200 x
  let s := s.setFld F.DAT_FREQ (toField 32 c)
  if c = x then s else s.raise { num := 0x304, data := leBytes 8 (toField 64 x) ++ zeros 8 }

/-- FREQ_WRITE (R212). -/
def execFreqWrite (w : World) (v : Word) (s : State) : Out :=
  .next (secureOnly w F.DAT_FREQ.addr (fun s => s.freqWrite v) s)

/-- A write of DAT_CFG (R213): a change of SRC moves Datum's state. -/
def State.srcWrite (s : State) (w : World) (v : Word) : State :=
  let code (s : State) : Nat := if s.fld F.DAT_CFG_SRC = 3 then 0 else s.fld F.DAT_CFG_SRC
  let old := code s
  let s := s.writeReg w F.DAT_CFG_SRC.addr v
  let new := code s
  if new = 0 then s.datState 0
  else if s.fld F.DAT_STATUS_STATE = 0 ∧ old ≠ new then { s.datState 1 with dat := { (s.datState 1).dat with meas := s.cyc } }
  else if s.fld F.DAT_STATUS_STATE = 2 ∧ old ≠ new then s.datState 3
  else s

/-- SOURCE_CHANGE (R213). -/
def execSourceChange (w : World) (v : Word) (s : State) : Out :=
  .next (secureOnly w F.DAT_CFG_SRC.addr (fun s => s.srcWrite w v) s)

/-- SOURCE_LOST (R215, R216): 1.5 s without a measurement, or PTP's announce timeout. -/
def execSourceLost (announce : Bool) (s : State) : Out :=
  if s.fld F.DAT_STATUS_STATE = 2 ∧
      ((announce ∧ s.fld F.DAT_CFG_SRC = 2) ∨ s.passed s.dat.meas (cycS + cycS / 2)) then
    .next ((s.datState 3).raise { num := 0x302 })
  else .next s

/-- DATUM_HOLDOVER_EXPIRY (R213). -/
def execDatumHoldoverExpiry (s : State) : Out :=
  if s.fld F.DAT_STATUS_STATE = 3 ∧ s.passed s.dat.hold (cycS * s.fld F.DAT_HOLD_HOLDOVER_S) then .next (s.datState 0) else .next s

end Sys2Proof.Machine
end

