-- ==== Sys2Proof/Machine/FieldBook.lean ====
section
/-! DEFINITION. Machine/FieldBook.lean: histograms, extremes, the life block, the frame sampler, bandwidth windows and the
counter and field-book commands (spec/18_field_book_and_counters.md). -/

namespace Sys2Proof.Machine

/-! ## Histograms and extremes (R423 to R426) -/

/-- Bins by octave: 0 for 0, b for 2^(b-1) ≤ v < 2^b, at most `top`. -/
def octave (top v : Nat) : Nat := if v = 0 then 0 else min top (v.log2 + 1)

/-- The latency bin of a latency in quarter-nanoseconds (R425). -/
def latBin (q : Nat) : Nat :=
  if q < 320 then 0
  else
    let e := (q / 256).log2
    min 63 (4 * e + q / (64 * 2 ^ e) - 4)

/-- A measured value's bin: (v - base) / step, clamped to 0 to `top`. -/
def stepBin (base step top : Int) (v : Int) : Nat := (clampI 0 top ((v - base) / step)).toNat

def optMin (a : Option Int) (v : Int) : Option Int := match a with | some x => some (min x v) | none => some v
def optMax (a : Option Int) (v : Int) : Option Int := match a with | some x => some (max x v) | none => some v

def Hist.addLat (h : Hist) (i q minute : Nat) : Hist :=
  { h with latency := tabMod 0 h.latency (64 * i + latBin q) (· + 1)
           latMax := if (tabGet (0, 0) h.latMax i).1 < q then tabSet (0, 0) h.latMax i (q, minute) else h.latMax }

def Hist.addDepth (h : Hist) (port v minute : Nat) : Hist :=
  { h with depth := tabMod 0 h.depth (20 * port + octave 19 v) (· + 1)
           depthMax := if (tabGet (0, 0) h.depthMax port).1 < v then tabSet (0, 0) h.depthMax port (v, minute) else h.depthMax }

def Hist.addExtreme (h : Hist) (i : Nat) (v : Int) : Hist :=
  { h with envMin := tabMod none h.envMin i (optMin · v), envMax := tabMod none h.envMax i (optMax · v) }

def Hist.addTemp (h : Hist) (i : Nat) (v : Int) : Hist :=
  ({ h with temp := tabMod 0 h.temp (64 * i + stepBin (-160) 10 63 v) (· + 1) }).addExtreme i v

def Hist.addSupply (h : Hist) (i : Nat) (base step v : Int) : Hist :=
  ({ h with supply := tabMod 0 h.supply (32 * i + stepBin base step 31 v) (· + 1) }).addExtreme (4 + i) v

def Hist.addEcc (h : Hist) (i v : Nat) : Hist := { h with eccRate := tabMod 0 h.eccRate (16 * i + octave 15 v) (· + 1) }

/-- Both the live histograms and the hour's increments changed. -/
def State.histAdd (s : State) (f : Hist → Hist) : State :=
  if s.flag F.FBK_CFG_HIST_EN then { s with fbk := { s.fbk with hist := f s.fbk.hist, hour := f s.fbk.hour } } else s

/-- Histogram `h` takes frames of an egress port and class (R424). -/
def State.hselTakes (s : State) (h port cls : Nat) : Bool :=
  s.flag (F.FBK_HSEL_VALID h) && s.fld (F.FBK_HSEL_CLASS h) == cls &&
  match s.fld (F.FBK_HSEL_MODE h) with
  | 1 => decide (port < 32)
  | 2 => decide (32 ≤ port)
  | _ => s.fld (F.FBK_HSEL_PORT h) == port

/-- A frame sent with an egress timestamp enters its latency histograms (R424). -/
def State.latSample (s : State) (port cls q : Nat) : State :=
  (List.range 32).foldl (fun s h => if s.hselTakes h port cls then s.histAdd (·.addLat h q s.opMin) else s) s

def State.depthSample (s : State) (port v : Nat) : State := s.histAdd (·.addDepth port v s.opMin)

/-- A write of FBK_HSEL[h] (R424): histogram `h` and its extreme are cleared and the selector takes what is written. -/
def State.hselWrite (s : State) (w : World) (h : Nat) (v : Word) : State :=
  let a := (F.FBK_HSEL_VALID h).addr
  secureOnly w a (fun s =>
    let x := s.fbk.hist
    let x := { x with latency := x.latency.filter (fun e => e.1 / 64 != h), latMax := tabSet (0, 0) x.latMax h (0, 0) }
    ({ s with fbk := { s.fbk with hist := x } }).writeReg w a v) s

/-- HSEL_WRITE (R424). -/
def execHselWrite (w : World) (h : Fin 32) (v : Word) (s : State) : Out := .next (s.hselWrite w h.val v)

/-- ENVIRONMENT_SAMPLE (R423): the measurements as ENV_MEAS shows them; once per second of DAT_CYC they enter the
histograms. -/
def execEnvironmentSample (m : Meas) (s : State) : Out :=
  let vals := [m.vddCore, m.vddIo, m.refDev, m.temp0, m.temp1, m.temp2, m.temp3, m.vbat]
  let s := (vals.zipIdx).foldl (fun s p => s.setFld (F.ENV_MEAS_VALUE p.2) p.1.toNat) s
  if s.passed s.fbk.envAt cycS then
    let s := { s with fbk := { s.fbk with envAt := s.cyc } }
    .next (s.histAdd fun h =>
      ((((((h.addTemp 0 m.temp0.toInt).addTemp 1 m.temp1.toInt).addTemp 2 m.temp2.toInt).addTemp 3 m.temp3.toInt).addSupply 0
        670 5 m.vddCore.toNat).addSupply 1 1640 10 m.vddIo.toNat).addSupply 2 2000 50 m.vbat.toNat)
  else .next s

/-! ## Life block and archive (R427 to R429) -/

/-- Counts of two tables added. -/
def tabAdd (a b : Tab Nat) : Tab Nat := b.foldl (fun t e => tabMod 0 t e.1 (· + e.2)) a

/-- The larger first component wins. -/
def tabMax2 (a b : Tab (Nat × Nat)) : Tab (Nat × Nat) :=
  b.foldl (fun t e => if (tabGet (0, 0) t e.1).1 < e.2.1 then tabSet (0, 0) t e.1 e.2 else t) a

def tabOpt (f : Option Int → Int → Option Int) (a b : Tab (Option Int)) : Tab (Option Int) :=
  b.foldl (fun t e => match e.2 with | some v => tabMod none t e.1 (f · v) | none => t) a

def Hist.merge (a b : Hist) : Hist :=
  { latency := tabAdd a.latency b.latency, depth := tabAdd a.depth b.depth, temp := tabAdd a.temp b.temp
    supply := tabAdd a.supply b.supply, eccRate := tabAdd a.eccRate b.eccRate
    latMax := tabMax2 a.latMax b.latMax, depthMax := tabMax2 a.depthMax b.depthMax
    envMin := tabOpt optMin a.envMin b.envMin, envMax := tabOpt optMax a.envMax b.envMax }

/-- `n` counts of a table as 8-byte numbers. -/
def binBytes (t : Tab Nat) (n : Nat) : List Byte := (List.range n).flatMap fun i => leBytes 8 (tabGet 0 t i)

/-- Bytes 0 to 49,119 of a block (R429). -/
def LifeBlock.body (b : LifeBlock) (hsel : List Word) : List Byte :=
  (if b.period then [0x5A, 0x47, 0x50, 0x52] else [0x5A, 0x47, 0x46, 0x42]) ++ leBytes 4 b.generation ++ leBytes 4 b.opMin ++
  leBytes 4 b.pwr ++ leBytes 4 b.secOverflow ++ leBytes 4 b.clears ++ zeros 8 ++ binBytes b.hist.latency 2048 ++
  binBytes b.hist.depth 1280 ++ binBytes b.hist.temp 256 ++ binBytes b.hist.supply 96 ++ binBytes b.hist.eccRate 176 ++
  ((List.range 32).flatMap fun h =>
    let x := tabGet (0, 0) b.hist.latMax h
    leBytes 4 x.1 ++ leBytes 4 x.2 ++ leBytes 4 (hsel.getD h 0).toNat ++ zeros 4) ++
  ((List.range 64).flatMap fun n => let x := tabGet (0, 0) b.hist.depthMax n; leBytes 4 x.1 ++ leBytes 4 x.2) ++
  ((List.range 7).flatMap fun i =>
    leBytes 2 (toField 16 ((tabGet none b.hist.envMin i).getD 0)) ++ leBytes 2 (toField 16 ((tabGet none b.hist.envMax i).getD 0)) ++
    zeros 4) ++ zeros 8 ++ zeros 17152

/-- AES-CMAC under FB_KEY, 16 bytes. -/
def fbMac16 (b : List Byte) : List Byte :=
  leBytes 16 (Config.aesCmac (Config.kmac256 Config.huk [] 256 (label "ZGD fb")) b)

/-- The 49,152 bytes of a block (R429). -/
def LifeBlock.bytes (b : LifeBlock) (hsel : List Word) : List Byte :=
  let x := b.body hsel
  let x := x ++ fbMac16 x
  x ++ leBytes 4 (Config.crc32c x) ++ zeros 12

def State.hselWords (s : State) : List Word := s.words (F.FBK_HSEL_VALID 0).addr 32

/-- Memories that the ECC histogram keeps: 0 to 9, and 15 as index 10 (R423). -/
def eccMem (i : Nat) : Nat := if i = 10 then 15 else i

/-- The hour's increase of every memory's ECC_CE enters its histogram (R423). -/
def State.eccHour (s : State) : State :=
  (List.range 11).foldl (fun s i =>
    let now := (s.count (C.ECC_CE (eccMem i))).toNat
    let s := s.histAdd (·.addEcc i ((now + 2 ^ 64 - tabGet 0 s.fbk.ceAtHour i) % 2 ^ 64))
    { s with fbk := { s.fbk with ceAtHour := tabSet 0 s.fbk.ceAtHour i now } }) s

/-- HOURLY_COMMIT (R427, R428): at a whole operating hour the increments join the life block and, with an archive, become a
period record; `good` is false where both read-backs of the commit fail. -/
def execHourlyCommit (good : Bool) (s : State) : Out :=
  if s.opMin < s.fbk.hourAt + 60 then .next s
  else
    let s := s.eccHour
    let b := { s.fbk with hourAt := s.opMin }
    let s := { s with fbk := b }
    if !good then .next (s.raise { num := 0x3F5, alarm := true })
    else
      let life : LifeBlock := { b.life with
        generation := b.life.generation + 1, opMin := s.opMin, pwr := s.powerCycles
        secOverflow := s.fld F.FBK_SEC_OVF_OVERFLOW, hist := b.life.hist.merge b.hour }
      let keep := s.flag F.FBK_STATUS_ARCHIVE && s.flag F.FBK_CFG_ARCHIVE_EN
      let rec_ : LifeBlock := { period := true, generation := b.archiveGen + 1, opMin := s.opMin, pwr := s.powerCycles
                                secOverflow := life.secOverflow, clears := life.clears, hist := b.hour }
      let slots := s.fld (F.TMP_REGION_W1_SIZE_MIB 2) * 1048576 / 49152
      .next { s with fbk := { b with
        life := life, hour := {}
        archive := if keep then (rec_ :: b.archive).take slots else b.archive
        archiveGen := if keep then b.archiveGen + 1 else b.archiveGen } }

/-- OPERATING_MINUTE (R432, R247): another 60 s of operation; area 3 and pending repeat counts reach the store. -/
def execOperatingMinute (s : State) : Out :=
  if s.passed s.fbk.minAt (60 * cycS) then
    let s := { s with opMin := s.opMin + 1, fbk := { s.fbk with minAt := s.fbk.minAt + BitVec.ofNat 64 (60 * cycS), opPend := 0 } }
    .next (s.commitLater 3 0 (.counters s.opMin s.powerCycles s.boots))
  else .next s

/-! ## Frame sampler (R441 to R443) -/

/-- A sample record's 32 bytes (R442). -/
def Sample.bytes (x : Sample) : List Byte :=
  leBytes 8 (toField 64 x.inTs) ++ leBytes 4 x.latency ++ leBytes 4 (x.sa % 2 ^ 18 + 2 ^ 18 * (x.anvil % 64) + 2 ^ 24 * x.cls) ++
  leBytes 4 (x.cellsAhead % 2 ^ 19) ++ leBytes 2 (x.length % 2 ^ 14) ++ leBytes 1 (x.inPort + 64 * x.release) ++
  leBytes 1 (x.outPort + 64 * b2n x.express + 128 * b2n x.command) ++ leBytes 1 (x.parcel + 64 * x.trigger) ++
  leBytes 1 x.outcome ++
  leBytes 2 (x.event % 1024 + 1024 * b2n x.poisoned + 2048 * b2n x.synced + 4096 * b2n x.shadow + 8192 * b2n x.stored +
    16384 * b2n x.bypass) ++ leBytes 4 x.seq

/-- Records go to region 1 of DDR5 (R443). -/
def State.smpRegion (s : State) : Bool :=
  s.flag (F.TMP_REGION_W0_VALID 1) && s.flag F.TMP_STATUS_PRESENT && !s.flag F.FBK_SMP_CFG_ONCHIP

def State.smpCap (s : State) : Nat := if s.smpRegion then 32768 * s.fld (F.TMP_REGION_W1_SIZE_MIB 1) else 4096

/-- A record placed in its slot; `alone` zeroes the other half of its line. -/
def State.smpPut (s : State) (x : Sample) (alone : Bool) : State :=
  let i := (x.seq + 2 ^ 32 - 1) % 2 ^ 32 % max 1 s.smpCap
  let put (t : Tab (Option Sample)) : Tab (Option Sample) :=
    let t := tabSet none t i (some x)
    if alone then tabSet none t (if i % 2 = 0 then i + 1 else i - 1) none else t
  let b := if s.smpRegion then { s.fbk with regionSamples := put s.fbk.regionSamples }
    else { s.fbk with samples := put s.fbk.samples }
  ({ s with fbk := b }).bump C.FBK_SMP_RECORDS

/-- Buffered records written while time allows, 30 core cycles each: whole lines, and a first half alone once it has waited
1 µs (R443). -/
def State.smpDrain : Nat → State → State
  | 0, s => s
  | n + 1, s =>
    let pop (s : State) (rest : List (Sample × BitVec 64)) (k : Nat) : State :=
      { s with fbk := { s.fbk with buffer := rest, bufAt := s.fbk.bufAt + BitVec.ofNat 64 (30 * k) } }
    match s.fbk.buffer with
    | [] => { s with fbk := { s.fbk with bufAt := s.cyc } }
    | (x, t) :: rest =>
      if x.seq % 2 = 0 then
        if s.passed s.fbk.bufAt 30 then ((pop s rest 1).smpPut x false).smpDrain n else s
      else match rest with
        | (y, _) :: rest' =>
          if y.seq = x.seq + 1 then
            if s.passed s.fbk.bufAt 60 then (((pop s rest' 2).smpPut x false).smpPut y false).smpDrain n else s
          else if s.passed s.fbk.bufAt 30 then ((pop s rest 1).smpPut x true).smpDrain n else s
        | [] => if s.passed t cycUs && s.passed s.fbk.bufAt 30 then ((pop s [] 1).smpPut x true).smpDrain n else s

def State.smpNow (s : State) : State := s.smpDrain (s.fbk.buffer.length + 1)

/-- A record chosen: SEQ advances; lost where the buffer is full or the ring has stopped (R443). -/
def State.smpRecord (s : State) (x : Sample) : State :=
  let s := s.smpNow
  let q := (s.fld F.FBK_SMP_SEQ + 1) % 2 ^ 32
  let s := s.setFld F.FBK_SMP_SEQ q
  if s.flag F.FBK_STATUS_SMP_STOPPED || decide (1024 ≤ s.fbk.buffer.length) then s.dropDev 0x3F3 0 none C.FBK_SMP_LOST
  else
    let b := s.fbk
    let s := { s with fbk := { b with buffer := b.buffer ++ [({ x with seq := q }, s.cyc)], written := b.written + 1
                                      bufAt := if b.buffer.isEmpty then s.cyc else b.bufAt } }
    if s.flag F.FBK_SMP_CFG_STOP && decide (s.smpCap ≤ s.fbk.written) then
      (s.setFld F.FBK_STATUS_SMP_STOPPED 1).raise { num := 0x3F4 }
    else s

/-- Which trigger takes a frame that settles, and the state with the trigger's own accounts (R441). -/
def State.smpTrigger (s : State) (f : Frm) (outcome : Nat) (lat : Option Nat) : State × Option Nat :=
  let p := f.inPort
  let n := tabGet 0 s.fbk.periodic p + 1
  let rate := s.fld F.FBK_SMP_CFG_RATE_LOG2
  let per := rate != 31 && bitsOf (s.word (F.FBK_SMP_PORTS (p / 32)).addr) (p % 32) 1 == 1 && decide (2 ^ rate ≤ n)
  let one := s.flag F.FBK_SMP_ONE_ARM && s.fld F.FBK_SMP_ONE_PORT == p
  let late := match lat with
    | some q => s.fld F.FBK_SMP_LAT_LAT_NS != 0 && decide (4 * s.fld F.FBK_SMP_LAT_LAT_NS < q)
    | none => false
  let s := { s with fbk := { s.fbk with periodic := tabSet 0 s.fbk.periodic p (if per then 0 else n) } }
  let s := if one then s.setFld F.FBK_SMP_ONE_ARM 0 else s
  if per then (s, some 0)
  else if f.sample && s.flag F.FBK_SMP_CFG_RULE_EN then (s, some 1)
  else if s.fld F.FBK_SMP_CFG_OUT_MASK / 2 ^ outcome % 2 == 1 || (f.express && s.flag F.FBK_SMP_CFG_EXPRESS_EN) || late then
    (s, some 2)
  else if one then (s, some 3) else (s, none)

/-- A frame that settles, offered to the sampler: OUTCOME, event number of its drop counter, latency in quarter-ns where it
has one, and length.  Frames the T64 originates have no ingress and are not sampled (log entry 31). -/
def State.settle (s : State) (f : Frm) (outcome event : Nat) (lat : Option Nat) (len : Nat) : State :=
  if !s.flag F.FBK_SMP_CFG_EN || f.origin then s
  else match s.smpTrigger f outcome lat with
    | (s, none) => s
    | (s, some t) => s.smpRecord
      { inTs := f.inTs, latency := match lat with | some q => min q (2 ^ 32 - 1) | none => 2 ^ 32 - 1, sa := f.sc * 4 + f.an
        anvil := f.anvil.getD 63, cls := f.cls, cellsAhead := f.ahead, length := len, inPort := f.inPort
        release := if f.enc || f.bypass then 0 else if f.spec then 2 else 1, outPort := f.outPort, express := f.express
        command := f.cmd, parcel := f.parcel, trigger := t, outcome := outcome, event := event
        poisoned := f.poison || f.outPoison, synced := f.synced, shadow := f.shadowed, stored := f.stored
        bypass := f.bypass, seq := 0 }

/-- SAMPLE_PAIR_TIMEOUT (R443). -/
def execSamplePairTimeout (s : State) : Out := .next s.smpNow

/-- ONE_SHOT_ARM (R441): a write of FBK_SMP_ONE, the later write winning (R446). -/
def execOneShotArm (w : World) (v : Word) (s : State) : Out := .next (s.writeReg w F.FBK_SMP_ONE_ARM.addr v)

/-- A write of FBK_SMP_CFG; RESTART empties the store and clears SMP_STOPPED, and reads 0. -/
def State.smpCfgWrite (s : State) (w : World) (v : Word) : State :=
  let s := s.writeReg w F.FBK_SMP_CFG_EN.addr v
  if s.flag F.FBK_SMP_CFG_RESTART then
    let s := { s with fbk := { s.fbk with samples := [], regionSamples := [], buffer := [], written := 0 } }
    (s.setFld F.FBK_SMP_CFG_RESTART 0).setFld F.FBK_STATUS_SMP_STOPPED 0
  else s

/-- SAMPLER_RESTART (R443): a write of FBK_SMP_CFG. -/
def execSamplerRestart (w : World) (v : Word) (s : State) : Out :=
  .next (secureOnly w F.FBK_SMP_CFG_EN.addr (fun s => s.smpCfgWrite w v) s)

/-! ## Bandwidth windows (R444) -/

/-- A frame of `n` bytes received or transmitted at a port; `k` is 0 on receive, 2 on transmit. -/
def State.bwCount (s : State) (port k n : Nat) : State :=
  { s with fbk := { s.fbk with window := tabMod 0 (tabMod 0 s.fbk.window (4 * port + k) (· + n)) (4 * port + k + 1) (· + 1) } }

/-- WINDOW_US, within 1 to 16,000,000. -/
def State.windowUs (s : State) : Nat := clampN 1 16000000 (s.fld F.FBK_BW_CFG_WINDOW_US)

/-- BANDWIDTH_WINDOW_END (R444). -/
def execBandwidthWindowEnd (s : State) : Out :=
  if s.passed s.fbk.winAt (cycUs * s.windowUs) then
    let words := (List.range 256).flatMap fun i => words64 (tabGet 0 s.fbk.window i)
    let t := (words.zipIdx).foldl (fun t p => tabSet 0 t p.2 p.1) ([] : Tab Word)
    let s := { s with fbk := { s.fbk with latched := t, window := [], winAt := s.fbk.winAt + BitVec.ofNat 64 (cycUs * s.windowUs) } }
    .next ((List.range 64).foldl (fun s n => s.setFld (F.FBK_BW (8 * n)) (tabGet 0 t (8 * n)).toNat) s)
  else .next s

/-- A write of FBK_BW_CFG (R444): the partial window is discarded and a new one starts. -/
def State.windowWrite (s : State) (w : World) (v : Word) : State :=
  secureOnly w F.FBK_BW_CFG_WINDOW_US.addr (fun s =>
    let old := s.windowUs
    let s := s.writeReg w F.FBK_BW_CFG_WINDOW_US.addr v
    if s.windowUs = old then s else { s with fbk := { s.fbk with window := [], winAt := s.cyc } }) s

/-- WINDOW_US_WRITE (R444). -/
def execWindowUsWrite (w : World) (v : Word) (s : State) : Out := .next (s.windowWrite w v)

/-- BANDWIDTH_READ (R444): a read of word 0 of port `n` latches words 1 to 7. -/
def execBandwidthRead (n : Fin 64) (s : State) : Out :=
  .next ((List.range 7).foldl (fun s k =>
    s.setFld (F.FBK_BW (8 * n.val + k + 1)) (tabGet 0 s.fbk.latched (8 * n.val + k + 1)).toNat) s)

/-! ## Counters (R437 to R440, R445) -/

/-- COUNTER_LOW_READ (R437): the high word of counter `i` is latched for the reading master (0 to 63 a function, 64 service
firmware, 65 the secure monitor). -/
def execCounterLowRead (m : Fin 66) (i : BitVec 13) (s : State) : Out :=
  .next { s with fbk := { s.fbk with cntLatch := tabSet (0, 0) s.fbk.cntLatch m.val (i.toNat, (s.count i.toNat).extractLsb' 32 32) } }

/-- Counter `k` of parcel `p`'s list (R440). -/
def parcelCounter (p k : Nat) : Option Nat :=
  [C.GLB_PARCEL_DROP p, C.GLB_CMD_REFUSED p, C.TRV_POLICY_DROP_P p, C.TRV_FLOOD p, C.PLT_UNKNOWN_DROP p, C.HRT_UNWRAP_FAIL p,
   C.PLT_LEARN_FULL p, C.PLT_LEARNED p, C.PLT_AGED p, C.PLT_LEARN_LIMIT p, C.BLW_POLICE_DROP p, C.HRT_REPLAY p][k]?

/-- The counter a function's index addresses: for a VF, its parcel's list. -/
def fnCounter (f i : Nat) : Option Nat := if f = 0 then some i else parcelCounter f i

/-- COUNT and FIRST + COUNT within R445's bounds. -/
def cntPayOk (b : List Byte) : Bool :=
  b.length == 4 && decide (1 ≤ leAt b 2 2) && decide (leAt b 2 2 ≤ 1024) && decide (leAt b 0 2 + leAt b 2 2 ≤ 8192)

/-- COUNTER_READ (R438, R445): the cycle of the last read, at most 4 core cycles per counter on, is left open. -/
def execCounterRead (d : Desc) (s : State) : Out :=
  .next (ringCmd d { opcode := 0x0202, cls := .observe, payMax := 4, payOk := cntPayOk, rspSize := fun b => 16 + 8 * leAt b 2 2 }
    (fun s b =>
      let n := leAt b 2 2
      let vals := (List.range n).flatMap fun k =>
        leBytes 8 (match fnCounter d.fn.val (leAt b 0 2 + k) with | some i => (s.count i).toNat | none => 0)
      { st := s.drew, rsp := leBytes 8 s.cyc.toNat ++ leBytes 8 (s.cyc.toNat + s.openVal % (4 * (n - 1) + 1)) ++ vals }) s)

/-- COUNTER_CLEAR (R439). -/
def execCounterClear (d : Desc) (s : State) : Out :=
  .next (ringCmd d { opcode := 0x0203, cls := .operate, payMax := 4, payOk := cntPayOk }
    (fun s b =>
      let s := (List.range (leAt b 2 2)).foldl (fun s k =>
        match fnCounter d.fn.val (leAt b 0 2 + k) with | some i => s.setCount i 0 | none => s) s
      { st := s.raise { num := 0x3F2, scope := leAt b 0 2, arg := leAt b 2 2 } }) s)

/-! ## Reading and clearing the field book (R434, R445) -/

/-- The records an FB_READ of a log or of samples returns: header and 32 bytes each. -/
def State.fbRecords (s : State) (l : List (Nat × List Byte)) (start count : Nat) : List Byte :=
  let l := (l.filter fun e => decide (start ≤ e.1)).take count
  leBytes 4 (match l with | e :: _ => e.1 | [] => 0) ++ leBytes 4 l.length ++ leBytes 4 s.opMin ++ leBytes 4 s.powerCycles ++
  l.flatMap (·.2)

/-- An FB_READ of a block of R429. -/
def State.fbBlock (s : State) (b : Option LifeBlock) : List Byte :=
  leBytes 4 0 ++ leBytes 4 (b2n b.isSome) ++ leBytes 4 s.opMin ++ leBytes 4 s.powerCycles ++
  (match b with | some b => b.bytes s.hselWords | none => zeros 49152)

def insSample (x : Sample) : List Sample → List Sample
  | [] => [x]
  | y :: t => if x.seq ≤ y.seq then x :: y :: t else y :: insSample x t

/-- The sample records present, in order of SEQ; a VF sees its own parcel's. -/
def State.fbSamples (s : State) (f : Nat) : List (Nat × List Byte) :=
  let t := if s.smpRegion then s.fbk.regionSamples else s.fbk.samples
  let l := t.filterMap (fun e => e.2)
  let l := if f = 0 then l else l.filter fun x => x.parcel == f
  (l.foldr insSample []).map fun x => (x.seq, x.bytes)

def LogRec.bytes (r : LogRec) : List Byte := r.body ++ leBytes 8 r.mac

/-- FB_READ (R445): kinds 0 to 4 are refused to a VF with CLASS_DENIED. -/
def execFbRead (d : Desc) (s : State) : Out :=
  .next (ringCmd d
    { opcode := 0x0204, cls := .observe, payMax := 12
      payOk := fun b => b.length == 12 && decide (leAt b 0 1 ≤ 5) && leAt b 1 3 == 0 &&
        ([2, 3, 4].contains (leAt b 0 1) || (decide (1 ≤ leAt b 8 4) && decide (leAt b 8 4 ≤ 4096)))
      rspSize := fun b => if [2, 3, 4].contains (leAt b 0 1) then 49168 else 16 + 32 * leAt b 8 4 }
    (fun s b =>
      let start := leAt b 4 4
      let n := leAt b 8 4
      let s := s.smpNow
      if d.fn.val ≠ 0 ∧ leAt b 0 1 ≠ 5 then { st := s, status := St.classDenied }
      else { st := s, rsp := match leAt b 0 1 with
        | 0 => s.fbRecords (s.fbk.secLog.map fun r => (r.seq, r.bytes)) start n
        | 1 => s.fbRecords (s.fbk.opLog.map fun r => (r.seq, r.bytes)) start n
        | 2 => s.fbBlock (some s.fbk.life)
        | 3 => s.fbBlock (some { opMin := s.opMin, pwr := s.powerCycles, secOverflow := s.fld F.FBK_SEC_OVF_OVERFLOW
                                 clears := s.fbk.life.clears, hist := s.fbk.hist })
        | 4 => s.fbBlock s.fbk.archive[start]?
        | _ => s.fbRecords (s.fbSamples d.fn.val) start n }) s)

/-- FB_CLEAR (R434): the record of event 0x3F2 first, with the signed header; then the parts selected. -/
def execFbClear (d : Desc) (s : State) : Out :=
  .next (ringCmd d { opcode := 0x0205, cls := .secure, payMax := 4, payOk := fun b => b.length == 4 }
    (fun s b =>
      let what := leAt b 0 4
      let bit (i : Nat) : Bool := what / 2 ^ i % 2 == 1
      let n := s.fbk.secLog.length
      let s := if bit 0 then
          (({ s with fbk := { s.fbk with secLog := [] } }.setFld F.FBK_STATUS_SEC_USED 0).setFld F.FBK_STATUS_SEC_FULL 0).setFld
            F.FBK_SEC_OVF_OVERFLOW 0
        else s
      let s := s.raiseSec { num := 0x3F2, scope := what, arg := if bit 0 then n else 0 } (descHeader d s.otp 0x0205)
      let x := s.fbk
      { st := { s with fbk := { x with
          opLog := if bit 1 then [] else x.opLog
          life := if bit 2 then { generation := x.life.generation, opMin := s.opMin, pwr := s.powerCycles
                                  clears := x.life.clears + 1 } else x.life
          hist := if bit 3 then {} else x.hist
          archive := if bit 4 then [] else x.archive } } }) s)

end Sys2Proof.Machine
end

