-- ==== Sys2Proof/Machine/Plat.lean ====
section
/-! DEFINITION. Machine/Plat.lean: the station table, its learning, aging, rebuild and commands
(spec/03_plat_station_table.md). -/

namespace Sys2Proof.Machine

/-! ## Entries (R65, R67) -/

/-- Bits [hi:lo] of an entry. -/
def pltF (e : BitVec 128) (hi lo : Nat) : Nat := (e.extractLsb' lo (hi - lo + 1)).toNat

def pltValid (e : BitVec 128) : Bool := e.getLsbD 127
def pltStatic (e : BitVec 128) : Bool := e.getLsbD 126
def pltGen (e : BitVec 128) : Bool := e.getLsbD 125
def pltHold (e : BitVec 128) : Bool := e.getLsbD 124
def pltParcel (e : BitVec 128) : Nat := pltF e 123 118
def pltVid (e : BitVec 128) : Nat := pltF e 117 106
def pltMac (e : BitVec 128) : Nat := pltF e 105 58
def pltSc (e : BitVec 128) : Nat := pltF e 57 42
def pltPort (e : BitVec 128) : Nat := pltF e 41 36
def pltTag (e : BitVec 128) : Nat := pltF e 35 24
def pltSrc (e : BitVec 128) : Nat := pltF e 23 8
def pltHit (e : BitVec 128) : Bool := e.getLsbD 7
def pltAge (e : BitVec 128) : Bool := e.getLsbD 6

/-- The entry with bits [hi:lo] set to `v`. -/
def pltPut (e : BitVec 128) (hi lo v : Nat) : BitVec 128 :=
  let m := BitVec.ofNat 128 (2 ^ (hi - lo + 1) - 1) <<< lo
  (e &&& ~~~m) ||| (BitVec.ofNat 128 (v % 2 ^ (hi - lo + 1)) <<< lo)

/-- Even parity of a number's bits, over `n` of them. -/
def parityOf : Nat → Nat → Bool
  | 0, _ => false
  | n + 1, v => (v % 2 == 1) ^^ parityOf n (v / 2)

/-- The four parity bits: word i without HIT, AGE and PARITY itself (R67). -/
def pltParity (e : BitVec 128) : Nat :=
  let c := pltPut (pltPut e 7 6 0) 3 0 0
  (List.range 4).foldl (fun a i => a + (if parityOf 32 (c.extractLsb' (32 * i) 32).toNat then 2 ^ i else 0)) 0

/-- The entry with fresh parity (R68). -/
def pltSeal (e : BitVec 128) : BitVec 128 := pltPut e 3 0 (pltParity e)

/-- Whether the parity check passes (R79). -/
def pltOk (e : BitVec 128) : Bool := pltParity e == pltF e 3 0

/-- A key: parcel, VID, MAC (R65). -/
structure PKey where
  parcel : Nat
  vid : Nat
  mac : Nat
  deriving DecidableEq

def pltKey (e : BitVec 128) : PKey := ⟨pltParcel e, pltVid e, pltMac e⟩

/-- The key of a frame of parcel `p`: VID 0 where untagged or IVL is 0 (R65). -/
def State.pltKeyOf (s : State) (p vid mac : Nat) : PKey :=
  ⟨p, if s.flag (F.PLT_PARCEL_CFG_IVL p) then vid else 0, mac⟩

/-! ## Hashes (R65) -/

/-- One bit of a reflected CRC-32. -/
def crcBit (poly c : BitVec 32) : BitVec 32 := if c.getLsbD 0 then (c >>> 1) ^^^ poly else c >>> 1

/-- One byte of a reflected CRC-32. -/
def crcByte (poly c : BitVec 32) (b : Byte) : BitVec 32 :=
  let c := c ^^^ b.setWidth 32
  crcBit poly (crcBit poly (crcBit poly (crcBit poly (crcBit poly (crcBit poly (crcBit poly (crcBit poly c)))))))

def crcOf (poly init : BitVec 32) (l : List Byte) : BitVec 32 := l.foldl (crcByte poly) init

def pltBytes (k : PKey) : List Byte := leBytes 1 (k.parcel % 64) ++ beBytes 2 (k.vid % 4096) ++ beBytes 6 k.mac

/-- H0: CRC-32C, reflected, no final XOR; H1: CRC-32 of polynomial 0x04C11DB7, reflected, no final XOR. -/
def pltHash0 (seed : BitVec 32) (k : PKey) : Nat := (crcOf 0x82F63B78 seed (pltBytes k)).toNat
def pltHash1 (seed : BitVec 32) (k : PKey) : Nat := (crcOf 0xEDB88320 seed (pltBytes k)).toNat

/-- The indices of the 16 candidate ways under two seeds, bank 0 to 3 in order and the lowest way first (R65, R73). -/
def pltCands (seed0 seed1 : BitVec 32) (k : PKey) : List Nat :=
  let h0 := pltHash0 seed0 k
  let h1 := pltHash1 seed1 k
  [h0 % 16384, h0 / 65536 % 16384, h1 % 16384, h1 / 65536 % 16384].zipIdx.flatMap
    fun (b, bank) => (List.range 4).map fun w => 65536 * bank + 4 * b + w

/-! ## Places -/

def State.pltWay (s : State) (i : Nat) : BitVec 128 := tabGet 0 s.plat.ways i
def State.pltStashAt (s : State) (i : Nat) : BitVec 128 := tabGet 0 s.plat.stash i

/-- A place of the table: a way by index, or a stash entry. -/
inductive PLoc where
  | way (i : Nat)
  | stash (i : Nat)
  deriving DecidableEq

def State.pltAt (s : State) : PLoc → BitVec 128
  | .way i => s.pltWay i
  | .stash i => s.pltStashAt i

def State.pltSet (s : State) (l : PLoc) (e : BitVec 128) : State :=
  match l with
  | .way i => { s with plat := { s.plat with ways := tabSet 0 s.plat.ways i e } }
  | .stash i => { s with plat := { s.plat with stash := tabSet 0 s.plat.stash i e } }

/-- Stash entries in use, and the register that shows them. -/
def State.pltStashUsed (s : State) : Nat := tabCount (fun _ e => pltValid e) s.plat.stash

/-- PLT_OCC and STASH_USED follow the table (R78). -/
def State.pltSync (s : State) : State :=
  (s.setFld F.PLT_STATUS_STASH_USED s.pltStashUsed).setFld F.PLT_OCC_OCCUPANCY
    (tabCount (fun _ e => pltValid e) s.plat.ways + s.pltStashUsed)

/-- Whether the sweeper has already visited the place in its present pass (R75). -/
def State.pltVisited (s : State) : PLoc → Bool
  | .way i => decide (i / 4 < s.plat.sweeper)
  | .stash _ => decide (65536 < s.plat.sweeper)

/-- A field counted up, and down to no less than zero. -/
def State.fldUp (s : State) (f : Fld) : State := s.setFld f (s.fld f + 1)
def State.fldDown (s : State) (f : Fld) : State := s.setFld f (s.fld f - 1)

/-- Charges of an entry at a place, raised or released: parcel always, port for a dynamic entry; the tally too where the
sweeper has passed the place (R72, R75). -/
def State.pltCharge (s : State) (e : BitVec 128) (l : PLoc) (up : Bool) : State :=
  let n := pltPort e - 32
  let step (s : State) (f : Fld) : State := if up then s.fldUp f else s.fldDown f
  let bump (x : Nat) : Nat := if up then x + 1 else x - 1
  let s := step s (F.PLT_PARCEL_OCC_COUNT (pltParcel e))
  let noPort := pltStatic e || decide (pltPort e < 32)
  let s := if noPort then s else step s (F.PLT_PORT_OCC_COUNT n)
  if s.pltVisited l then
    { s with plat := { s.plat with
        tallyParcel := tabMod 0 s.plat.tallyParcel (pltParcel e) bump
        tallyPort := if noPort then s.plat.tallyPort else tabMod 0 s.plat.tallyPort (pltPort e) bump } }
  else s

/-! ## Parity (R79) -/

/-- A way that failed its parity check: cleared, counted, recorded, event 0x113. The charge stays until the sweep
ends. -/
def State.pltParityFail (s : State) (l : PLoc) : State :=
  let s := (s.pltSet l 0).pltSync
  let s := if s.flag F.PLT_PERR_VALID then s else
    let s := s.setFld F.PLT_PERR_VALID 1
    match l with
    | .way i => (((s.setFld F.PLT_PERR_STASH 0).setFld F.PLT_PERR_BANK (i / 65536)).setFld F.PLT_PERR_BUCKET
        (i % 65536 / 4)).setFld F.PLT_PERR_WAY (i % 4)
    | .stash i => (((s.setFld F.PLT_PERR_STASH 1).setFld F.PLT_PERR_BANK 0).setFld F.PLT_PERR_BUCKET i).setFld
        F.PLT_PERR_WAY 0
  s.dropDev 0x113 0 none C.PLT_PARITY_ERR

/-- The places a lookup of a key reads, in order of priority: during a rebuild the new-seed candidates, then the
old-seed candidates; then the stash (R66, R77). -/
def State.pltPlaces (s : State) (k : PKey) : List PLoc :=
  let p := s.plat
  (if s.flag F.PLT_STATUS_REBUILD_ACTIVE then (pltCands p.next0 p.next1 k).map PLoc.way else []) ++
  (pltCands p.seed0 p.seed1 k).map PLoc.way ++ (List.range 64).map PLoc.stash

/-- Whether the entry at a place counts for a lookup: during a rebuild a copy counts in the candidates of its own seed
generation (R77). -/
def State.pltGenOk (s : State) (k : PKey) (l : PLoc) (e : BitVec 128) : Bool :=
  match l with
  | .stash _ => true
  | .way i =>
    if s.flag F.PLT_STATUS_REBUILD_ACTIVE then
      if pltGen e == s.flag F.PLT_STATUS_SEED_GEN then (pltCands s.plat.seed0 s.plat.seed1 k).contains i
      else (pltCands s.plat.next0 s.plat.next1 k).contains i
    else true

/-- Whether the entry at a place is the valid copy of a key. -/
def State.pltIs (s : State) (k : PKey) (l : PLoc) : Bool :=
  let e := s.pltAt l
  pltValid e && pltOk e && decide (pltKey e = k) && s.pltGenOk k l e

/-- Where a key's copy stands. -/
def State.pltFind (s : State) (k : PKey) : Option PLoc := (s.pltPlaces k).find? (s.pltIs k)

/-- A lookup clears every way it reads whose parity fails, and answers the place of the key (R66, R77, R79). -/
def State.pltLookup (s : State) (k : PKey) : State × Option PLoc :=
  let s := (s.pltPlaces k).foldl
    (fun s l => if pltValid (s.pltAt l) && !pltOk (s.pltAt l) then s.pltParityFail l else s) s
  (s, s.pltFind k)

/-- HIT set on the entry at a place (R68, R74). -/
def State.pltTouch (s : State) (l : PLoc) : State := s.pltSet l (pltPut (s.pltAt l) 7 7 1)

/-- The destination lookup of Traverse: the entry hit, with HIT set (R66, R74). -/
def State.pltDest (s : State) (p vid mac : Nat) : State × Option (BitVec 128) :=
  match s.pltLookup (s.pltKeyOf p vid mac) with
  | (s, some l) => (s.pltTouch l, some (s.pltAt l))
  | (s, none) => (s, none)

/-! ## Insertion (R73) -/

/-- The candidates of an entry under its own seed generation (R76). -/
def State.pltOwnCands (s : State) (e : BitVec 128) : List Nat :=
  if s.flag F.PLT_STATUS_REBUILD_ACTIVE && (pltGen e != s.flag F.PLT_STATUS_SEED_GEN) then
    pltCands s.plat.next0 s.plat.next1 (pltKey e)
  else pltCands s.plat.seed0 s.plat.seed1 (pltKey e)

def State.pltFreeIn (s : State) (cands : List Nat) : Option Nat := cands.find? (fun i => !pltValid (s.pltWay i))

/-- Dynamic entries among the candidates, that a relocation may move (R73). -/
def State.pltVictims (s : State) (cands seen : List Nat) : List Nat :=
  cands.filter fun i => pltValid (s.pltWay i) && pltOk (s.pltWay i) && !pltStatic (s.pltWay i) && !seen.contains i

/-- A chain of at most `fuel` moves, in the order they are made, that frees one of the candidates: a victim with a free candidate of its own
where there is one, else the first victim, for which a place is made in turn (R73; which entry moves is the model's
choice, log entry 12). -/
def State.pltChain (s : State) : Nat → List Nat → List Nat → Option (List (Nat × Nat))
  | 0, _, _ => none
  | fuel + 1, cands, seen =>
    let vs := s.pltVictims cands seen
    match vs.find? (fun v => (s.pltFreeIn (s.pltOwnCands (s.pltWay v))).isSome) with
    | some v => match s.pltFreeIn (s.pltOwnCands (s.pltWay v)) with
      | some to_ => some [(v, to_)]
      | none => none
    | none => match vs with
      | [] => none
      | v :: _ => match s.pltChain fuel (s.pltOwnCands (s.pltWay v)) (seen ++ cands) with
        | some ms => match ms.getLast? with
          | some m => some (ms ++ [(v, m.1)])
          | none => none
        | none => none

/-- One relocation move: the copy written whole, HIT carried, the old way cleared, the move counted (R73). -/
def State.pltMove (s : State) (m : Nat × Nat) : State :=
  let e := s.pltWay m.1
  let s := (s.pltCharge e (.way m.1) false).pltCharge e (.way m.2) true
  (((s.pltSet (.way m.2) e).pltSet (.way m.1) 0).bump C.PLT_RELOC)

/-- Where a new entry can stand: a free candidate, one freed by at most 64 moves, or the stash (R73). -/
def State.pltRoom (s : State) (cands : List Nat) : State × Option PLoc :=
  match s.pltFreeIn cands with
  | some i => (s, some (.way i))
  | none => match s.pltChain 64 cands [] with
    | some ms =>
      let s := ms.foldl State.pltMove s
      (s, (s.pltFreeIn cands).map PLoc.way)
    | none => (s, ((List.range 64).find? (fun i => !pltValid (s.pltStashAt i))).map PLoc.stash)

/-- The seeds and generation new entries are placed under (R76). -/
def State.pltNewGen (s : State) : Bool × BitVec 32 × BitVec 32 :=
  if s.flag F.PLT_STATUS_REBUILD_ACTIVE then (!s.flag F.PLT_STATUS_SEED_GEN, s.plat.next0, s.plat.next1)
  else (s.flag F.PLT_STATUS_SEED_GEN, s.plat.seed0, s.plat.seed1)

/-- Event 0x117 when STASH_USED reaches AUTO_THRESH (R73, R84). -/
def State.pltStashEvent (s : State) (before : Nat) : State :=
  let t := s.fld F.PLT_STASH_CFG_AUTO_THRESH
  if t ≠ 0 ∧ before < t ∧ t ≤ s.pltStashUsed then s.raise { num := 0x117, arg := s.pltStashUsed } else s

/-- An entry placed under R73, charged unless it only changes its place; none where the insertion fails. -/
def State.pltPlace (s : State) (e : BitVec 128) (charge : Bool) : State × Option PLoc :=
  let (g, s0, s1) := s.pltNewGen
  let e := pltSeal (pltPut e 125 125 (if g then 1 else 0))
  let before := s.pltStashUsed
  match s.pltRoom (pltCands s0 s1 (pltKey e)) with
  | (s, some l) =>
    let s := s.pltSet l e
    let s := if charge then s.pltCharge e l true else s
    ((s.pltSync).pltStashEvent before, some l)
  | (s, none) => (s.pltSync, none)

/-- An entry removed from its place, with its charge (R74, R80, R81). -/
def State.pltRemove (s : State) (l : PLoc) : State :=
  let e := s.pltAt l
  ((s.pltSet l 0).pltCharge e l false).pltSync

/-! ## Learning (R69 to R72) -/

/-- What the source lookup says at classification: the request to make after verification, and whether the limit
check at classification fails (R70, R72). -/
def State.pltSource (s : State) (p vid mac port rxSc retSc : Nat) : State × Option LearnReq × Bool :=
  let k := s.pltKeyOf p vid mac
  let req (kd : LearnKind) : LearnReq :=
    { kind := kd, parcel := k.parcel, vid := k.vid, mac := k.mac, rxSc := rxSc, sc := retSc, port := port }
  let portFull (s : State) := decide (s.fld (F.PLT_PORT_LIMIT (port - 32)) ≤ s.fld (F.PLT_PORT_OCC_COUNT (port - 32)))
  let parcelFull (s : State) := decide (s.fld (F.PLT_PARCEL_CFG_QUOTA p) ≤ s.fld (F.PLT_PARCEL_OCC_COUNT p))
  match s.pltLookup k with
  | (s, some l) =>
    let e := s.pltAt l
    if pltSrc e = rxSc then (s, if pltHit e then none else some (req .refresh), false)
    else if pltStatic e || pltHold e then (s, some (req .conflict), false)
    else (s, some (req .move), portFull s)
  | (s, none) => (s, some (req .learn), portFull s || parcelFull s)

/-- A learn request queued, or discarded where 2,048 wait (R71). -/
def State.pltRequest (s : State) (r : LearnReq) : State :=
  if s.plat.queue.length < 2048 then { s with plat := { s.plat with queue := s.plat.queue ++ [r] } }
  else s.bump C.PLT_LEARN_SKIP

/-- The lowest hold-down record not live (R71). -/
def State.pltFreeHold (s : State) : Option Nat :=
  (List.range 4096).find? (fun i => (tabGet none s.plat.hold i).isNone)

def State.pltHoldSet (s : State) (i : Nat) (r : Option HoldRec) : State :=
  { s with plat := { s.plat with hold := tabSet none s.plat.hold i r } }

/-- A conflicting learn (R70, R71). -/
def State.pltConflict (s : State) (r : LearnReq) : State :=
  s.dropDev 0x112 r.port none (C.PLT_MOVE_CONFLICT r.port)

/-- A move: the entry rewritten with a new source, HOLD set under a new record, its charge moved (R70, R71). -/
def State.pltDoMove (s : State) (r : LearnReq) (l : PLoc) : State :=
  let e := s.pltAt l
  if pltStatic e || pltHold e then s.pltConflict r
  else if s.fld (F.PLT_PORT_LIMIT (r.port - 32)) ≤ s.fld (F.PLT_PORT_OCC_COUNT (r.port - 32)) then
    s.bump (C.PLT_LEARN_LIMIT r.parcel)
  else match s.pltFreeHold with
    | none => s.bump C.PLT_LEARN_SKIP
    | some h =>
      let e' := pltPut (pltPut (pltPut (pltPut (pltPut e 57 42 r.sc) 41 36 r.port) 23 8 r.rxSc) 124 124 1) 35 24 h
      let s := (s.pltCharge e l false).pltSet l (pltSeal e')
      let s := (s.pltCharge e' l true).pltHoldSet h (some ⟨r.parcel, r.vid, r.mac, s.cyc⟩)
      s.bump (C.PLT_MOVED r.port)

/-- A learn of an absent key (R70, R72, R73). -/
def State.pltDoLearn (s : State) (r : LearnReq) : State :=
  if s.fld (F.PLT_PORT_LIMIT (r.port - 32)) ≤ s.fld (F.PLT_PORT_OCC_COUNT (r.port - 32)) ∨
     s.fld (F.PLT_PARCEL_CFG_QUOTA r.parcel) ≤ s.fld (F.PLT_PARCEL_OCC_COUNT r.parcel) then
    s.bump (C.PLT_LEARN_LIMIT r.parcel)
  else match s.pltFreeHold with
    | none => s.bump C.PLT_LEARN_SKIP
    | some h =>
      let e : BitVec 128 := pltPut (pltPut (pltPut (pltPut (pltPut (pltPut (pltPut (pltPut (pltPut 0 127 127 1) 124 124 1)
        123 118 r.parcel) 117 106 r.vid) 105 58 r.mac) 57 42 r.sc) 41 36 r.port) 35 24 h) 23 8 r.rxSc
      match s.pltPlace (pltPut e 7 7 1) true with
      | (s, some _) => (s.pltHoldSet h (some ⟨r.parcel, r.vid, r.mac, s.cyc⟩)).bump (C.PLT_LEARNED r.parcel)
      | (s, none) => s.dropDev 0x114 r.parcel (some r.parcel) (C.PLT_LEARN_FULL r.parcel)

/-- The learn engine's service of one request against the entry as it stands (R70). -/
def State.pltServe (s : State) (r : LearnReq) : State :=
  let (s, at_) := s.pltLookup ⟨r.parcel, r.vid, r.mac⟩
  match r.kind, at_ with
  | .refresh, some l => if pltSrc (s.pltAt l) = r.rxSc then s.pltTouch l else s
  | .refresh, none => s
  | .learn, none => s.pltDoLearn r
  | .learn, some l => if pltSrc (s.pltAt l) = r.rxSc then s.pltTouch l else s.pltDoMove r l
  | .move, some l => if pltSrc (s.pltAt l) = r.rxSc then s.pltTouch l else s.pltDoMove r l
  | .move, none => s.pltDoLearn r
  | .conflict, _ => s.pltConflict r

/-! ## Flush (R81) -/

/-- Whether an entry matches a PLT_FLUSH selector; static entries only where the selector includes them. -/
def flushHits (sel : Word) (static : Bool) (parcel port sc : Nat) : Bool :=
  (!static || bitsOf sel 31 1 == 1) &&
  match bitsOf sel 28 3 with
  | 0 => true
  | 1 => parcel == bitsOf sel 22 6
  | 2 => port == bitsOf sel 16 6
  | 3 => sc == bitsOf sel 0 16
  | _ => false

/-- Whether a running FLUSH takes an entry of these parts. -/
def flushTakes (f : Word × Option Nat) (static : Bool) (parcel port sc : Nat) : Bool :=
  flushHits f.1 static parcel port sc && (match f.2 with | some p => parcel == p | none => true)

/-- Every entry that matches the selector removed, with its charge. -/
def State.pltFlushNow (s : State) (f : Word × Option Nat) : State :=
  let hit (e : BitVec 128) : Bool := pltValid e && flushTakes f (pltStatic e) (pltParcel e) (pltPort e) (pltSc e)
  let s := (s.plat.ways.filter fun p => hit p.2).foldl (fun s p => s.pltRemove (.way p.1)) s
  (s.plat.stash.filter fun p => hit p.2).foldl (fun s p => s.pltRemove (.stash p.1)) s

/-- A request that the running flush holds back (R81). -/
def State.pltHeld (s : State) (r : LearnReq) : Bool :=
  match s.plat.flush with
  | some f => flushTakes f false r.parcel r.port r.sc
  | none => false

/-- LEARN_REQUEST (R70): the oldest request that no running flush holds is served. -/
def execLearnRequest (s : State) : Out :=
  match s.plat.queue.find? (fun r => !s.pltHeld r) with
  | some r => .next ({ s with plat := { s.plat with queue := s.plat.queue.erase r } }.pltServe r)
  | none => .next s

/-- HOLD_DOWN_EXPIRY (R71): record `n`, 1 ms after it was written, clears HOLD where HOLD_TAG still names it. -/
def execHoldDownExpiry (n : BitVec 12) (s : State) : Out :=
  match tabGet none s.plat.hold n.toNat with
  | none => .next s
  | some h =>
    if s.passed h.since cycMs then
      let s := s.pltHoldSet n.toNat none
      match s.pltLookup ⟨h.parcel, h.vid, h.mac⟩ with
      | (s, some l) =>
        if pltTag (s.pltAt l) = n.toNat then .next (s.pltSet l (pltSeal (pltPut (s.pltAt l) 124 124 0))) else .next s
      | (s, none) => .next s
    else .next s

/-! ## Aging (R74, R75) -/

/-- The sweeper's visit of one place: parity, then HIT and AGE of a dynamic entry when aging is on, then the tally. -/
def State.pltSweepAt (s : State) (l : PLoc) : State :=
  let e := s.pltAt l
  if !pltValid e then s
  else if !pltOk e then s.pltParityFail l
  else
    let tally (s : State) (e : BitVec 128) : State := { s with plat := { s.plat with
        tallyParcel := tabMod 0 s.plat.tallyParcel (pltParcel e) (· + 1)
        tallyPort := if pltStatic e then s.plat.tallyPort else tabMod 0 s.plat.tallyPort (pltPort e) (· + 1) } }
    if pltStatic e || !s.flag F.PLT_AGE_EN then tally s e
    else if pltHit e then tally (s.pltSet l (pltPut e 7 6 0)) e
    else if pltAge e then (s.pltRemove l).bump (C.PLT_AGED (pltParcel e))
    else tally (s.pltSet l (pltPut e 6 6 1)) e

/-- AGING_SWEEP (R74): the sweeper visits its next bucket, or the stash after the last one. -/
def execAgingSweep (s : State) : Out :=
  let n := s.plat.sweeper
  if n < 65536 then
    let s := (List.range 4).foldl (fun s w => s.pltSweepAt (.way (4 * n + w))) s
    .next { s with plat := { s.plat with sweeper := n + 1 } }
  else if n = 65536 then
    let s := (List.range 64).foldl (fun s i => s.pltSweepAt (.stash i)) s
    .next { s with plat := { s.plat with sweeper := n + 1 } }
  else .next s

/-- SWEEP_PASS_END (R75): after the stash, the live counts take the tallies and a new pass begins. -/
def execSweepPassEnd (s : State) : Out :=
  if 65536 < s.plat.sweeper then
    let s := (List.range 64).foldl
      (fun s p => s.setFld (F.PLT_PARCEL_OCC_COUNT p) (tabGet 0 s.plat.tallyParcel p)) s
    let s := (List.range 32).foldl
      (fun s n => s.setFld (F.PLT_PORT_OCC_COUNT n) (tabGet 0 s.plat.tallyPort (n + 32))) s
    .next { s with plat := { s.plat with sweeper := 0, tallyParcel := [], tallyPort := [] } }
  else .next s

/-! ## Rebuild (R76 to R78) -/

/-- A rebuild begun under the next seeds, or resumed where it stalled, or refused with event 0x118. -/
def State.pltRebuild (s : State) : State :=
  let s := s.mirrorReg F.PLT_REBUILD_START.addr (BitVec.ofNat 32 (2 ^ F.PLT_REBUILD_START.lo))
  if s.flag F.PLT_STATUS_REBUILD_ACTIVE then
    if s.flag F.PLT_STATUS_REBUILD_STALLED then s.setFld F.PLT_STATUS_REBUILD_STALLED 0
    else s.raise { num := 0x118 }
  else
    let s := { s with plat := { s.plat with
      next0 := s.word F.PLT_SEED_NEXT0.addr, next1 := s.word F.PLT_SEED_NEXT1.addr, walker := 0 } }
    (s.setFld F.PLT_STATUS_REBUILD_ACTIVE 1).setFld F.PLT_REBUILD_START 1

/-- REBUILD_START (R76): START written from world `w`. -/
def execRebuildStart (w : World) (s : State) : Out :=
  match w with
  | .nonSecure => .next (s.secureRefused F.PLT_REBUILD_START.addr w)
  | _ => .next s.pltRebuild

/-- An old-generation entry taken to its place under the new seeds; `false` where it fits nowhere. -/
def State.pltMigrate (s : State) (l : PLoc) : State × Bool :=
  let e := s.pltAt l
  if !pltValid e then (s, true)
  else if !pltOk e then (s.pltParityFail l, true)
  else match l with
  | .way _ =>
    if pltGen e != s.flag F.PLT_STATUS_SEED_GEN then (s, true)
    else match s.pltPlace e false with
      | (s, some l') => (((s.pltSet l 0).pltCharge e l false |>.pltCharge e l' true).pltSync, true)
      | (s, none) => (s, false)
  | .stash _ =>
    let g := !s.flag F.PLT_STATUS_SEED_GEN
    let e' := pltSeal (pltPut e 125 125 (if g then 1 else 0))
    let cands := pltCands s.plat.next0 s.plat.next1 (pltKey e)
    match s.pltFreeIn cands with
    | some i => (((s.pltSet (.way i) e').pltSet l 0 |>.pltCharge e l false |>.pltCharge e (.way i) true).pltSync, true)
    | none => match s.pltChain 64 cands [] with
      | some ms =>
        let s := ms.foldl State.pltMove s
        match s.pltFreeIn cands with
        | some i => (((s.pltSet (.way i) e').pltSet l 0 |>.pltCharge e l false |>.pltCharge e (.way i) true).pltSync, true)
        | none => (s, true)
      | none => (s, true)

/-- The walk is over: the new seeds become current, SEED_GEN inverts, event 0x116 (R76). -/
def State.pltRebuilt (s : State) : State :=
  let s := { s with plat := { s.plat with seed0 := s.plat.next0, seed1 := s.plat.next1, walker := 0 } }
  let s := s.setFlag F.PLT_STATUS_SEED_GEN (!s.flag F.PLT_STATUS_SEED_GEN)
  ((s.setFld F.PLT_STATUS_REBUILD_ACTIVE 0).setFld F.PLT_REBUILD_START 0).raise { num := 0x116 }

/-- REBUILD_MIGRATE (R76): the walker visits its next bucket or stash entry; after the last one the rebuild
completes; an entry that fits nowhere stalls it with event 0x115 (R78). -/
def execRebuildMigrate (s : State) : Out :=
  let n := s.plat.walker
  if !s.flag F.PLT_STATUS_REBUILD_ACTIVE || s.flag F.PLT_STATUS_REBUILD_STALLED then .next s
  else if n < 65536 then
    match (List.range 4).foldl (fun (a : State × Bool) w => if a.2 then a.1.pltMigrate (.way (4 * n + w)) else a) (s, true) with
    | (s, true) => .next { s with plat := { s.plat with walker := n + 1 } }
    | (s, false) => .next ((s.setFld F.PLT_STATUS_REBUILD_STALLED 1).raise { num := 0x115, scope := n })
  else
    let s := (s.pltMigrate (.stash (n - 65536))).1
    if n = 65599 then .next s.pltRebuilt else .next { s with plat := { s.plat with walker := n + 1 } }

/-- STASH_THRESHOLD (R78): firmware draws new seeds and starts a rebuild when STASH_USED has reached a non-zero
AUTO_THRESH and none is active. -/
def execStashThreshold (s : State) : Out :=
  let t := s.fld F.PLT_STASH_CFG_AUTO_THRESH
  if t ≠ 0 ∧ t ≤ s.fld F.PLT_STATUS_STASH_USED ∧ !s.flag F.PLT_STATUS_REBUILD_ACTIVE then
    let s := (s.setFld F.PLT_SEED_NEXT0 s.randomVal).drew
    let s := (s.setFld F.PLT_SEED_NEXT1 s.randomVal).drew
    .next s.pltRebuild
  else .next s

end Sys2Proof.Machine
end

