-- ==== Sys2Proof/Machine/PlatCmd.lean ====
section
/-! DEFINITION. Machine/PlatCmd.lean: the commands of PLT_CMD (R80, R81), through the register, a ring or a parcel window
(R323). -/

namespace Sys2Proof.Machine

/-! ## STATUS codes of PLT_CMD -/

namespace Pc
def ok : Nat := 0
def notFound : Nat := 1
def full : Nat := 2
def exists_ : Nat := 3
def parity : Nat := 4
def denied : Nat := 5
def badOp : Nat := 6
def quota : Nat := 7
/-- Not a code: the command stays BUSY. -/
def busy : Nat := 100
end Pc

/-- The window PLT_DATA0 to 3. -/
def pltWin : Nat := (F.PLT_DATA 0).addr

/-- The entry in the window; PARCEL forced for a VF (R323). -/
def State.pltWindow (s : State) (tag : Option Nat) : BitVec 128 :=
  let e := BitVec.ofNat 128 (leNat (wordBytes (s.words pltWin 4)))
  match tag with
  | some p => pltPut e 123 118 p
  | none => e

def State.pltShow (s : State) (e : BitVec 128) : State := s.setWords pltWin (leWords 4 (leBytes 16 e.toNat))

/-- The channel an entry names belongs to the entry's parcel. -/
def State.pltScOwned (s : State) (e : BitVec 128) : Bool :=
  (s.chan (pltSc e)).valid && (s.chan (pltSc e)).parcel == pltParcel e

def State.pltCmdLookup (s : State) (tag : Option Nat) : State × Nat :=
  match s.pltLookup (pltKey (s.pltWindow tag)) with
  | (s, some l) => (s.pltShow (s.pltAt l), Pc.ok)
  | (s, none) => (s, Pc.notFound)

/-- INSERT. The entry added is a valid one, whatever VALID the window holds (log entry 26). -/
def State.pltInsert (s : State) (tag : Option Nat) : State × Nat :=
  let e := pltPut (pltPut (pltPut (s.pltWindow tag) 127 127 1) 124 124 0) 7 6 2
  let p := pltParcel e
  let n := pltPort e
  match s.pltLookup (pltKey e) with
  | (s, some _) => (s, Pc.exists_)
  | (s, none) =>
    if !s.pltScOwned e then (s, Pc.denied)
    else if s.fld (F.PLT_PARCEL_CFG_QUOTA p) ≤ s.fld (F.PLT_PARCEL_OCC_COUNT p) ∨
        (!pltStatic e ∧ 32 ≤ n ∧ s.fld (F.PLT_PORT_LIMIT (n - 32)) ≤ s.fld (F.PLT_PORT_OCC_COUNT (n - 32))) then
      (s.raise { num := 0x118, scope := p }, Pc.quota)
    else match s.pltPlace e true with
      | (s, some _) => (s, Pc.ok)
      | (s, none) => (s.raise39 0x114 p (some p) (.dev (C.PLT_LEARN_FULL p)), Pc.full)

/-- REPLACE: the present entry takes the window's, but keeps the seed generation its place belongs to. -/
def State.pltReplace (s : State) (tag : Option Nat) : State × Nat :=
  let e := pltPut (s.pltWindow tag) 127 127 1
  match s.pltLookup (pltKey e) with
  | (s, none) => (s, Pc.notFound)
  | (s, some l) =>
    if !s.pltScOwned e then (s, Pc.denied)
    else
      let old := s.pltAt l
      let e := pltSeal (pltPut e 125 125 (if pltGen old then 1 else 0))
      (((s.pltCharge old l false).pltSet l e).pltCharge e l true, Pc.ok)

def State.pltDelete (s : State) (tag : Option Nat) : State × Nat :=
  match s.pltLookup (pltKey (s.pltWindow tag)) with
  | (s, some l) => (s.pltRemove l, Pc.ok)
  | (s, none) => (s, Pc.notFound)

/-- READ_ADDR and READ_STASH. A VF sees another parcel's entry as an empty one (log entry 25). -/
def State.pltReadAt (s : State) (tag : Option Nat) (l : PLoc) : State × Nat :=
  let e := s.pltAt l
  let hidden := match tag with | some p => pltValid e && pltParcel e != p | none => false
  if hidden then (s.pltShow 0, Pc.ok)
  else if pltValid e && !pltOk e then ((s.pltShow e).pltParityFail l, Pc.parity)
  else (s.pltShow e, Pc.ok)

/-- FLUSH begun: the matching entries present go, and matching learn requests are held until FLUSH_DONE; a VF's MODE 0
is taken as 1, and its flush takes its own parcel's entries only (R81, R323). -/
def State.pltFlushStart (s : State) (tag : Option Nat) (ring : Bool) : State × Nat :=
  let w := s.word F.PLT_FLUSH_MODE.addr
  let w := match tag with
    | some p => putBits (if bitsOf w 28 3 = 0 then putBits w 28 3 1 else w) 22 6 p
    | none => w
  if 3 < bitsOf w 28 3 then (s, Pc.badOp)
  else
    let s := s.pltFlushNow (w, tag)
    ({ s with plat := { s.plat with flush := some (w, tag), flushRing := ring } }, Pc.busy)

/-- A command of PLT_CMD by its OP, with the fields BANK, BUCKET and WAY of the register or of ARG. -/
def State.pltOp (s : State) (op : Nat) (f : Word) (tag : Option Nat) (ring : Bool) : State × Nat :=
  match op with
  | 1 => s.pltCmdLookup tag
  | 2 => s.pltInsert tag
  | 3 => s.pltReplace tag
  | 4 => s.pltDelete tag
  | 5 => s.pltReadAt tag (.way (65536 * bitsOf f 18 2 + 4 * bitsOf f 4 14 + bitsOf f 2 2))
  | 6 => s.pltReadAt tag (.stash (bitsOf f 4 6))
  | 7 => s.pltFlushStart tag ring
  | _ => (s, Pc.badOp)

def pltClass (op : Nat) : Cls := if op = 1 ∨ op = 5 ∨ op = 6 then .observe else .operate

/-- An accepted change on its way to the standby, with the selector of a flush (R391). -/
def State.pltMirror (s : State) (op : Nat) (f : Word) (tag : Option Nat) : State :=
  if pltClass op = .observe then s
  else s.tieMirror (0x1400 + op) (match tag with | some p => p + 1 | none => 0) f.toNat
    (wordBytes (s.words pltWin 4) ++ leBytes 4 (s.word F.PLT_FLUSH_MODE.addr).toNat)

/-- The outcome in STATUS and BUSY. -/
def State.pltDone (x : State × Nat) (op : Nat) (f : Word) (tag : Option Nat) : State :=
  if x.2 = Pc.busy then (x.1.setFld F.PLT_CMD_BUSY 1).pltMirror op f tag
  else
    let s := (x.1.setFld F.PLT_CMD_BUSY 0).setFld F.PLT_CMD_STATUS x.2
    if x.2 = 0 then s.pltMirror op f tag else s

/-- The tag of a function: none for PF0 and firmware (R300, R323). -/
def vfTag (f : Nat) : Option Nat := if f = 0 then none else some f

/-- A Plat command by descriptor: none while PLT_CMD is BUSY, or once it makes it so. -/
def State.pltRing (op : Nat) (d : Desc) (s : State) (b : List Byte) : State × Option (State × Nat × Nat) :=
  if s.flag F.PLT_CMD_BUSY then (s, none)
  else
    let r := (s.setWords pltWin (blkWords b)).pltOp op (BitVec.ofNat 32 (blkArg b)) (vfTag d.fn.val) true
    let t := State.pltDone r op (BitVec.ofNat 32 (blkArg b)) (vfTag d.fn.val)
    if r.2 = Pc.busy then (t, none) else (t, some (t, r.2, 0))

/-- Parcels a Plat command names (R331 step 6): the window's or the selector's, which a VF's tag forces. -/
def pltParcels (op : Nat) (d : Desc) (s : State) (b : List Byte) : List Nat :=
  if d.fn.val ≠ 0 then [d.fn.val]
  else if op ≤ 4 then [pltParcel ((s.setWords pltWin (blkWords b)).pltWindow none)]
  else if op = 7 ∧ s.fld F.PLT_FLUSH_MODE = 1 then [s.fld F.PLT_FLUSH_PARCEL] else []

/-- A write of PLT_CMD with an OP, from the register itself or from a parcel's mirror. -/
def State.pltReg (s : State) (w : World) (word : Word) (op : Nat) (tag : Option Nat) : State :=
  cmdReg F.PLT_CMD_OP F.PLT_CMD_BUSY (fun s => s.raise { num := 0x118 }) w word
    (fun s => State.pltDone (s.pltOp op (s.word F.PLT_CMD_OP.addr) tag false) op (s.word F.PLT_CMD_OP.addr) tag) s

/-- A Plat command however it arrives. -/
def pltCmd (op : Nat) (v : Via) (s : State) : State :=
  match v with
  | .reg w word => s.pltReg w word op none
  | .ring d =>
    ringCmd d
      { opcode := 0x1400 + op, cls := pltClass op, payMax := 16 + 4 * 4,
        payOk := fun b => decide (16 ≤ b.length) && decide (leAt b 8 2 ≤ 4) && decide (b.length = 16 + 4 * leAt b 8 2) &&
          leAt b 10 6 == 0,
        rspSize := fun _ => 16 + 4 * 4, parcels := pltParcels op d }
      (fun s b => match s.pltRing op d b with
        | (_, some x) => blkRes pltWin 4 x
        | (s, none) => { st := s, wait := true }) s

/-- Ring commands that waited while PLT_CMD was BUSY, performed in turn until one stays BUSY (R332). -/
def State.pltResume (s : State) : State :=
  (s.waits.filter fun w => w.opcode / 256 == 0x14).foldl (fun s w =>
    if s.flag F.PLT_CMD_BUSY then s else
    match s.pltRing (w.opcode % 256) w.d (descBody w.d) with
    | (t, some x) => t.finishWait w (fun s => blkRes pltWin 4 (s, x.2)) (16 + 4 * 4)
    | (s, none) => s) s

def execPltLookup (v : Via) (s : State) : Out := .next (pltCmd 0x1 v s)
def execPltInsert (v : Via) (s : State) : Out := .next (pltCmd 0x2 v s)
def execPltReplace (v : Via) (s : State) : Out := .next (pltCmd 0x3 v s)
def execPltDelete (v : Via) (s : State) : Out := .next (pltCmd 0x4 v s)
def execPltReadAddr (v : Via) (s : State) : Out := .next (pltCmd 0x5 v s)
def execPltReadStash (v : Via) (s : State) : Out := .next (pltCmd 0x6 v s)
def execPltFlush (v : Via) (s : State) : Out := .next (pltCmd 0x7 v s)

/-- FLUSH_DONE (R81): the running flush ends, its held learn requests are served in order, and what waited for PLT_CMD
goes on. -/
def execPltFlushDone (s : State) : Out :=
  match s.plat.flush with
  | none => .next s
  | some _ =>
    let (held, rest) := s.plat.queue.partition s.pltHeld
    let ring := s.plat.flushRing
    let s := { s with plat := { s.plat with flush := none, flushRing := false, queue := rest } }
    let s := held.foldl State.pltServe s
    let s := (s.setFld F.PLT_CMD_BUSY 0).setFld F.PLT_CMD_STATUS Pc.ok
    match s.waits.find? (fun w => ring && w.opcode == 0x1407) with
    | some w => .next (s.finishWait w (fun s => blkRes pltWin 4 (s, Pc.ok, 0)) (16 + 4 * 4)).pltResume
    | none => .next s.pltResume

end Sys2Proof.Machine
end

