-- ==== Sys2Proof/Machine/Traverse.lean ====
section
/-! DEFINITION. Machine/Traverse.lean: parsing, the rule table, the parcel of a frame, the resolution of channel, class and
action, bypass buckets and rule commands (spec/02_traverse_classification.md). -/

namespace Sys2Proof.Machine

/-! ## Parsing (R41, R42) -/

/-- The code of a TPID in the rule key: 0 where it is none of the three (R41). -/
def State.tpidCode (s : State) (v : Nat) : Nat :=
  if v = 0x8100 then 1 else if v = 0x88A8 then 2 else if v = s.fld F.TRV_TPID_EXTRA then 3 else 0

/-- The clear header of a frame. -/
structure Hdr where
  /-- Code and 16-bit TCI of the outer tag and the inner tag, as far as there are any. -/
  tags : List (Nat × Nat)
  more : Bool
  etype : Nat
  /-- Offset of the EtherType. -/
  off : Nat

def frmDa (b : List Byte) : Nat := beAt b 0 6
def frmSa (b : List Byte) : Nat := beAt b 6 6

/-- At most two tags after the addresses. -/
def State.parseHdr (s : State) (b : List Byte) : Hdr :=
  let c1 := s.tpidCode (beAt b 12 2)
  if c1 = 0 then { tags := [], more := false, etype := beAt b 12 2, off := 12 }
  else
    let t1 := (c1, beAt b 14 2)
    let c2 := s.tpidCode (beAt b 16 2)
    if c2 = 0 then { tags := [t1], more := false, etype := beAt b 16 2, off := 16 }
    else { tags := [t1, (c2, beAt b 18 2)], more := s.tpidCode (beAt b 20 2) != 0, etype := beAt b 20 2, off := 20 }

/-- VID of the outer tag, 0 where untagged. -/
def Hdr.vid (h : Hdr) : Nat := match h.tags with | t :: _ => t.2 % 4096 | [] => 0

/-- A SecTAG (R42). -/
structure SecTag where
  tci : Nat
  an : Nat
  sl : Nat
  pn : Nat
  /-- The explicit SCI, wire order, first octet least significant. -/
  sci : Option (BitVec 64)
  len : Nat

def SecTag.es (t : SecTag) : Bool := t.tci / 16 % 2 == 1
def SecTag.sc (t : SecTag) : Bool := t.tci / 8 % 2 == 1
def SecTag.e (t : SecTag) : Bool := t.tci / 2 % 2 == 1
def SecTag.c (t : SecTag) : Bool := t.tci % 2 == 1

/-- The SecTAG found after at most two tags. -/
def Hdr.secTag (h : Hdr) (b : List Byte) : Option SecTag :=
  if h.etype = 0x88E5 then
    let o := beAt b (h.off + 2) 1
    let sc := o / 32 % 2 == 1
    some { tci := o / 4, an := o % 4, sl := beAt b (h.off + 3) 1, pn := beAt b (h.off + 4) 4
           sci := if sc then some (BitVec.ofNat 64 (leAt b (h.off + 8) 8)) else none, len := if sc then 16 else 8 }
  else none

/-- V = 1, ES and SC, SC and SCB, C without E, or SL of 48 and more. -/
def SecTag.malformed (t : SecTag) : Bool :=
  decide (32 ≤ t.tci) || (t.es && t.sc) || (t.sc && t.tci / 4 % 2 == 1) || (t.c && !t.e) || decide (48 ≤ t.sl)

/-- The receive channel of a well-formed SecTAG (R92). -/
def State.rxChannel (s : State) (port : Nat) (b : List Byte) (t : SecTag) : Option Nat :=
  let mine (c : Chan) : Bool := c.valid && c.dir && c.linePort == port
  let find (sci : BitVec 64) : Option Nat := (tabFind (fun _ c => mine c && c.sci == sci) s.sec.chans).map (·.1)
  match t.sci with
  | some sci => find sci
  | none =>
    if t.es then find (BitVec.ofNat 64 (leNat (slice b 6 6 ++ [0x00, 0x01])))
    else
      let n := s.fld (F.SEC_LPORT_IMPLIED_RXSC (port - 32))
      if s.flag (F.SEC_LPORT_IMPLIED_VALID (port - 32)) && mine (s.chan n) then some n else none

/-! ## Parcel, key and rules (R43 to R47, R60) -/

/-- The parcel of a clear-side frame (R43). -/
def State.clearParcel (s : State) (port : Nat) (h : Hdr) : Nat :=
  let v := h.vid
  if s.flag (F.TRV_PORT_CFG_PARCEL_MODE port) && !h.tags.isEmpty && s.flag (F.TRV_VMAP_VALID v) then
    s.fld (F.TRV_VMAP_PARCEL v)
  else s.fld (F.TRV_PORT_CFG_PARCEL port)

/-- 0 unicast, 1 multicast, 2 broadcast. -/
def daType (da : Nat) : Nat := if da = 2 ^ 48 - 1 then 2 else if da / 2 ^ 40 % 2 = 1 then 1 else 0

/-- What the key takes from beyond the header. -/
structure KeyIn where
  line : Bool
  port : Nat
  parcel : Nat
  tci : Nat := 0
  an : Nat := 0
  sc : Option Nat := none
  platHit : Bool := false
  payload : Nat := 0

/-- The 256-bit rule key. -/
def ruleKey (h : Hdr) (b : List Byte) (k : KeyIn) : BitVec 256 :=
  let t1 := h.tags.getD 0 (0, 0)
  let t2 := h.tags.getD 1 (0, 0)
  let tag (t : Nat × Nat) : Nat := t.1 * 2 ^ 16 + t.2
  BitVec.ofNat 256 (b2n k.line * 2 ^ 255 + k.port * 2 ^ 249 + k.parcel * 2 ^ 243 + h.tags.length * 2 ^ 241 +
    b2n h.more * 2 ^ 240 + tag t1 * 2 ^ 222 + tag t2 * 2 ^ 204 + frmDa b * 2 ^ 156 + frmSa b * 2 ^ 108 + h.etype * 2 ^ 92 +
    k.tci * 2 ^ 86 + k.an * 2 ^ 84 + b2n k.sc.isSome * 2 ^ 83 + k.sc.getD 0 * 2 ^ 67 + daType (frmDa b) * 2 ^ 65 +
    b2n k.platHit * 2 ^ 64 + k.payload)

/-- Index `i` lies in the range of parcel `p`. -/
def State.inRange (s : State) (p i : Nat) : Bool :=
  decide (s.fld (F.TRV_RANGE_BASE p) ≤ i) && decide (i < s.fld (F.TRV_RANGE_BASE p) + s.fld (F.TRV_RANGE_COUNT p))

/-- The parcel whose range holds a rule index, or parcel 0 (R63, R331). -/
def State.ruleParcel (s : State) (i : Nat) : Nat := ((List.range 64).find? fun p => s.inRange p i).getD 0

/-- A rule visible to frames of parcel `p` that matches their key (R44 to R46, R60). -/
def State.ruleTakes (s : State) (p : Nat) (key : BitVec 256) (i : Nat) (r : Rule) : Bool :=
  if r.poisoned then s.inRange p i || s.inRange 0 i
  else r.gen / 2 ^ (s.fld F.TRV_GEN_ACTIVE) % 2 == 1 && (r.owner == p || (r.scope && s.inRange 0 i)) &&
    key &&& r.mask == r.key &&& r.mask

/-- A rule result (R46). -/
structure RuleRes where
  /-- 0 FORWARD, 1 DROP, 2 BYPASS, 3 CONTROL. -/
  action : Nat
  scSel : Nat := 0
  cls : Nat := 0
  clsSrc : Bool := false
  cmd : Bool := false
  spec : Bool := false
  noLearn : Bool := false
  sample : Bool := false
  slot : Nat := 0
  sc : Nat := 0

def RuleRes.ofBits (r : BitVec 64) : RuleRes :=
  let f (lo w : Nat) : Nat := (r.extractLsb' lo w).toNat
  { action := f 62 2, scSel := f 60 2, cls := f 57 3, clsSrc := f 56 1 == 1, cmd := f 55 1 == 1, spec := f 54 1 == 1
    noLearn := f 53 1 == 1, sample := f 52 1 == 1, slot := f 44 8, sc := f 0 16 }

/-- A hit counted, saturating (R62). -/
def State.ruleHit (s : State) (i : Nat) : State :=
  { s with rules := tabMod {} s.rules i fun r => { r with hits := if r.hits = BitVec.allOnes 32 then r.hits else r.hits + 1 } }

/-- The result for a frame: of the lowest visible rule that matches, or the parcel's default (R44, R47). -/
def State.ruleFor (s : State) (p : Nat) (key : BitVec 256) : State × RuleRes :=
  match tabFind (s.ruleTakes p key) s.rules with
  | some (i, r) => (s.ruleHit i, if r.poisoned then { action := 1 } else RuleRes.ofBits r.result)
  | none =>
    if s.flag (F.TRV_PARCEL_CFG_DEFAULT_ACTION p) && s.flag (F.TRV_PARCEL_CFG_DEF_SC_VALID p) then
      (s, { action := 0, clsSrc := true })
    else (s, { action := 1 })

/-- The class a result gives (R46 CLASS_SRC). -/
def State.ruleClass (s : State) (port : Nat) (h : Hdr) (r : RuleRes) : Nat :=
  if r.clsSrc then
    match h.tags with
    | t :: _ => s.fld (F.TRV_PCP_MAP_CLASS_PCP port) / 2 ^ (3 * (t.2 / 2 ^ 13)) % 8
    | [] => 0
  else r.cls

/-! ## The transmit channel (R49, R53, R54) -/

/-- What the resolution of a clear-side FORWARD result gives. -/
inductive TxSc where
  | sc (n : Nat) (flood : Bool)
  | policy
  | unknown

/-- A transmit channel that the paired line port carries. -/
def State.txUsable (s : State) (line n : Nat) : Bool :=
  let c := s.chan n
  c.valid && !c.dir && c.linePort == line

/-- The parcel's flood channel, where it is usable. -/
def State.floodSc (s : State) (line p : Nat) : TxSc :=
  let n := s.fld (F.TRV_PARCEL_SC_FLOOD_SC p)
  if s.flag (F.TRV_PARCEL_CFG_FLOOD_SC_VALID p) && s.txUsable line n then .sc n true else .policy

/-- The transmit channel of a clear-side frame; `plat` is the channel of Plat's entry. -/
def State.txSc (s : State) (port p da : Nat) (r : RuleRes) (plat : Option Nat) : TxSc :=
  match s.pairOf port with
  | none => .policy
  | some line => match r.scSel with
    | 0 =>
      let n := s.fld (F.TRV_PARCEL_SC_DEFAULT_SC p)
      if s.flag (F.TRV_PARCEL_CFG_DEF_SC_VALID p) && s.txUsable line n then .sc n false else .policy
    | 1 => if s.txUsable line r.sc then .sc r.sc false else .policy
    | 2 =>
      if daType da ≠ 0 then (if r.cmd then .unknown else s.floodSc line p)
      else match plat with
        | some n => if s.txUsable line n then .sc n false
          else if r.cmd || !s.flag (F.TRV_PARCEL_CFG_UNKNOWN_UC p) then .unknown else s.floodSc line p
        | none => if r.cmd || !s.flag (F.TRV_PARCEL_CFG_UNKNOWN_UC p) then .unknown else s.floodSc line p
    | _ => .policy

/-! ## Verdicts -/

/-- Traverse's verdict on a frame. -/
structure Verdict where
  hdr : Hdr
  parcel : Nat
  res : RuleRes
  cls : Nat := 0
  /-- The transmit channel, on the clear side. -/
  tx : TxSc := .policy
  /-- The SecTAG and the receive channel, on the line side. -/
  tag : Option SecTag := none
  rx : Option Nat := none

/-- A clear-side frame classified; Plat's destination entry is looked up for every unicast frame, and HIT set. -/
def State.classifyClear (s : State) (port : Nat) (b : List Byte) : State × Verdict :=
  let h := s.parseHdr b
  let p := s.clearParcel port h
  let (s, e) := if daType (frmDa b) = 0 then s.pltDest p h.vid (frmDa b) else (s, none)
  let key := ruleKey h b { line := false, port := port, parcel := p, platHit := e.isSome, payload := beAt b (h.off + 2) 8 }
  let (s, r) := s.ruleFor p key
  (s, { hdr := h, parcel := p, res := r, cls := s.ruleClass port h r, tx := s.txSc port p (frmDa b) r (e.map pltSc) })

/-- A line-side frame classified. -/
def State.classifyLine (s : State) (port : Nat) (b : List Byte) : State × Verdict :=
  let h := s.parseHdr b
  let t := h.secTag b
  let rx := match t with | some t => if t.malformed then none else s.rxChannel port b t | none => none
  let p := match rx with | some n => (s.chan n).parcel | none => s.fld (F.TRV_PORT_CFG_PARCEL port)
  let key := ruleKey h b
    { line := true, port := port, parcel := p, tci := (t.map (·.tci)).getD 0, an := (t.map (·.an)).getD 0, sc := rx }
  let (s, r) := s.ruleFor p key
  (s, { hdr := h, parcel := p, res := r, cls := s.ruleClass port h r, tag := t, rx := rx })

/-! ## Bypass buckets (R55, R56) -/

/-- Depth of a slot's bucket in 1/256 byte; a slot with either field at zero passes nothing. -/
def State.bypDepth (s : State) (slot : Nat) : Nat :=
  if s.fld (F.TRV_BYP_CAP_W0_RATE_MBPS slot) = 0 then 0 else 64 * 256 * s.fld (F.TRV_BYP_CAP_W1_BURST_64B slot)

def State.bypBucket (s : State) (slot : Nat) : Bucket := tabGet {} s.bypass slot

/-- The slot holds `n` bytes. -/
def State.bypHolds (s : State) (slot n : Nat) : Bool :=
  s.bypDepth slot != 0 && decide (256 * n ≤ (s.bypBucket slot).credit)

def State.bypTake (s : State) (slot n : Nat) : State :=
  { s with bypass := tabMod {} s.bypass slot fun b => { b with credit := b.credit - 256 * n } }

/-- A bucket after one period: its gain of `num`/`den` units with what was carried, up to `depth`. -/
def Bucket.gain (b : Bucket) (num den depth : Nat) : Bucket :=
  let g := b.carry + num
  if depth ≤ b.credit + g / den then { credit := depth, carry := 0 } else { credit := b.credit + g / den, carry := g % den }

/-- BYPASS_BUCKET_REFILL (R55): another 1.024 µs has passed; 0.128 × RATE bytes are 32,768 × RATE / 1,000 units. -/
def execBypassBucketRefill (s : State) : Out :=
  if s.passed s.bypAt 1536 then
    .next ((List.range 256).foldl (fun s i =>
      { s with bypass := tabMod {} s.bypass i fun b =>
          b.gain (32768 * s.fld (F.TRV_BYP_CAP_W0_RATE_MBPS i)) 1000 (s.bypDepth i) }) { s with bypAt := s.bypAt + 1536 })
  else .next s

/-- A cap register written: the bucket is full under its new depth. -/
def State.bypCapWrite (s : State) (w : World) (slot word : Nat) (v : Word) : State :=
  let a := (F.TRV_BYP_CAP_W0_RATE_MBPS slot).addr + 4 * word
  let s := (s.writeReg w a v).mirrorReg a v
  { s with bypass := tabSet {} s.bypass slot { credit := s.bypDepth slot } }

/-- BYPASS_CAP_WRITE (R55): a write of word 0 or 1 of slot `slot`. -/
def execBypassCapWrite (w : World) (slot : BitVec 8) (second : Bool) (v : Word) (s : State) : Out :=
  .next (secureOnly w (F.TRV_BYP_CAP_W0_RATE_MBPS slot.toNat).addr (fun s => s.bypCapWrite w slot.toNat (b2n second) v) s)

/-! ## Rule commands (R62, R63) -/

def trvWin : Nat := (F.TRV_RULE_DATA 0).addr

/-- The 20 words of a rule. -/
def Rule.words (r : Rule) : List Word :=
  leWords 8 (leBytes 32 r.key.toNat) ++ leWords 8 (leBytes 32 r.mask.toNat) ++ words64 r.result.toNat ++
  [BitVec.ofNat 32 (r.owner * 8 + b2n r.scope * 4 + r.gen), r.hits]

/-- The rule 20 words spell, its hit count zero. -/
def Rule.ofWords (l : List Word) : Rule :=
  let n (i k : Nat) : Nat := leNat (wordBytes ((l.drop i).take k))
  { key := BitVec.ofNat 256 (n 0 8), mask := BitVec.ofNat 256 (n 8 8), result := BitVec.ofNat 64 (n 16 2)
    owner := bitsOf (l.getD 18 0) 3 6, scope := bitsOf (l.getD 18 0) 2 1 == 1, gen := bitsOf (l.getD 18 0) 0 2 }

def State.rule (s : State) (i : Nat) : Rule := tabGet {} s.rules i

/-- TRV_STATUS.POISONED follows the table. -/
def State.ruleSync (s : State) : State := s.setFld F.TRV_STATUS_POISONED (tabCount (fun _ r => r.poisoned) s.rules)

def State.setRule (s : State) (i : Nat) (r : Rule) : State := ({ s with rules := tabSet {} s.rules i r }).ruleSync

/-- A rule command refused: ERR and event 0x104. -/
def State.ruleErr (s : State) (op i : Nat) : State := (s.setFld F.TRV_RULE_STAT_ERR 1).raise { num := 0x104, scope := i, arg := op }

/-- READ, with or without clearing the hit count: state, and what TRV_RULE_STAT says of it (POISON in bit 2). -/
def State.ruleRead (s : State) (i : Nat) (clear : Bool) : State × Nat :=
  let r := s.rule i
  let s := (s.setWords trvWin r.words).setFlag F.TRV_RULE_STAT_POISON r.poisoned
  (if clear then s.setRule i { r with hits := 0 } else s, 4 * b2n r.poisoned)

/-- A rule command by its OP (R62, R63). -/
def State.ruleOp (s : State) (op i : Nat) : State × Nat :=
  match op with
  | 1 => s.ruleRead i false
  | 2 =>
    let r := Rule.ofWords (s.words trvWin 20)
    if r.owner ≠ s.ruleParcel i then (s.ruleErr op i, 1) else (s.setRule i r, 0)
  | 3 => (s.setRule i {}, 0)
  | 4 => s.ruleRead i true
  | _ => (s.ruleErr op i, 1)

/-- A change of the rules that has been accepted goes to the standby (R391). -/
def State.ruleDone (x : State × Nat) (op i : Nat) : State :=
  if op = 1 ∨ x.2 % 4 ≠ 0 then x.1 else x.1.tieMirror (0x1300 + op) i 0 (wordBytes (x.1.words trvWin 20))

def ruleCls (op : Nat) : Cls := if op = 1 then .observe else if op = 4 then .operate else .secure

/-- A rule command however it arrives. -/
def ruleCmd (op : Nat) (v : Via) (s : State) : State :=
  match v with
  | .reg w word =>
    cmdReg F.TRV_RULE_CMD_OP F.TRV_RULE_CMD_BUSY (fun s => s.setFld F.TRV_RULE_STAT_OVERRUN 1) w word
      (fun s => State.ruleDone (s.ruleOp op (s.fld F.TRV_RULE_CMD_INDEX)) op (s.fld F.TRV_RULE_CMD_INDEX)) s
  | .ring d =>
    blockCmd d 3 op (ruleCls op) trvWin 20 (fun s b => [s.ruleParcel (blkIndex b % 16384)])
      (fun s b => let r := s.ruleOp op (blkIndex b % 16384); (State.ruleDone r op (blkIndex b % 16384), r.2, 0)) s

def execRuleRead (v : Via) (s : State) : Out := .next (ruleCmd 1 v s)
def execRuleWrite (v : Via) (s : State) : Out := .next (ruleCmd 2 v s)
def execRuleInvalidate (v : Via) (s : State) : Out := .next (ruleCmd 3 v s)
def execRuleReadClear (v : Via) (s : State) : Out := .next (ruleCmd 4 v s)

/-- The active generation inverted, with event 0x103 (R46). -/
def State.genSwap (s : State) : State :=
  ((s.mirrorReg F.TRV_GEN_SWAP.addr 2).setFld F.TRV_GEN_ACTIVE (1 - s.fld F.TRV_GEN_ACTIVE)).raise { num := 0x103, arg := 1 - s.fld F.TRV_GEN_ACTIVE }

/-- GENERATION_SWAP (R46): SWAP written. -/
def execGenerationSwap (w : World) (s : State) : Out := .next (secureOnly w F.TRV_GEN_SWAP.addr State.genSwap s)

/-- A rule found uncorrectable (R60). -/
def State.rulePoison (s : State) (i : Nat) : State :=
  let s := s.setRule i { s.rule i with poisoned := true }
  let s := if s.flag F.TRV_POISON_VALID then s else (s.setFld F.TRV_POISON_VALID 1).setFld F.TRV_POISON_INDEX i
  s.raise { num := 0x102, scope := i }

/-! ## Posting hold-offs (R39) -/

/-- HOLD_OFF_EXPIRY (R39): 1 ms after a posting, one further message where something has increased since, or quiet. -/
def execHoldOffExpiry (num : BitVec 10) (s : State) : Out :=
  match s.hold num.toNat with
  | none => .next s
  | some h =>
    if s.passed h.start cycMs then
      match h.more with
      | some (scope, parcel, r) => .next ((s.postHeld num.toNat scope parcel r).setHold num.toNat (some { start := s.cyc }))
      | none => .next (s.setHold num.toNat none)
    else .next s

end Sys2Proof.Machine
end

