-- ==== Sys2Proof/Machine/Gates.lean ====
section
/-! DEFINITION. Machine/Gates.lean: gate control lists, their layout, the window fit, preemption, the admission arithmetic
and the list commands (spec/08_gates_and_deadlines.md). -/

namespace Sys2Proof.Machine

/-! ## Configuration in force (R184, R190) -/

def State.gate (s : State) (n : Nat) : Gate := tabGet {} s.gates n
def State.setGate (s : State) (n : Nat) (g : Gate) : State := { s with gates := tabSet {} s.gates n g }

/-- The word in force of a GAT configuration register of port `n`: the oldest write that awaits the horizon keeps the word
before it in force. -/
def State.gatWord (s : State) (n a : Nat) : Word :=
  match (s.gate n).overwritten.find? (fun e => e.2.1 == a) with
  | some e => e.2.2
  | none => s.word a

def State.gatFld (s : State) (n : Nat) (f : Fld) : Nat := bitsOf (s.gatWord n f.addr) f.lo f.width
def State.gatFlag (s : State) (n : Nat) (f : Fld) : Bool := s.gatFld n f != 0

def State.clsExpress (s : State) (n c : Nat) : Bool := s.gatFlag n (F.GAT_CLASS_CFG_W0_EXPRESS (8 * n + c))
def State.clsGated (s : State) (n c : Nat) : Bool := s.gatFlag n (F.GAT_CLASS_CFG_W0_GATED (8 * n + c))
def State.clsMax (s : State) (n c : Nat) : Nat := max 64 (s.gatFld n (F.GAT_CLASS_CFG_W0_MAX_FRAME (8 * n + c)))
def State.clsDeadline (s : State) (n c : Nat) : Nat := s.gatFld n (F.GAT_CLASS_CFG_W1_DEADLINE (8 * n + c))
def State.addFrag (s : State) (n : Nat) : Nat := s.gatFld n (F.GAT_PORT_CFG_ADD_FRAG n)

/-- The MAC merge sublayer is active. -/
def State.mmActive (s : State) (n : Nat) : Bool := s.fld (F.GAT_PORT_STATUS_MM_STATE n) == 2

/-- The class rides on the preemptable MAC (R194, R196). -/
def State.clsPreempt (s : State) (n c : Nat) : Bool :=
  s.gatFlag n (F.GAT_CLASS_CFG_W0_PREEMPTABLE (8 * n + c)) && s.mmActive n

/-- Rate of a port in Gb/s. -/
def State.rate (s : State) (n : Nat) : Nat := ([10, 25, 50, 100, 200, 400, 800] : List Nat).getD (s.fld (F.PRT_PORT_W0_SPEED n)) 10

/-- T(L) in ns (R185). -/
def wireNs (r l : Nat) : Rat := ((8 * (l + 20) : Nat) : Rat) / ((max 1 r : Nat) : Rat)

/-- β (R195). -/
def State.betaNs (s : State) (n : Nat) : Rat := ((8 * (64 * (1 + s.addFrag n) + 83) : Nat) : Rat) / ((max 1 (s.rate n) : Nat) : Rat)

/-! ## Lists (R187, R188, R191) -/

/-- A list as its registers and entries give it. -/
structure GList where
  meridian : Bool
  base : Int
  cycle : Int
  len : Nat
  items : Tab (Word × Word)

def State.actList (s : State) (n : Nat) : GList :=
  { meridian := s.flag (F.GAT_ACT_W3_LOCK n), cycle := s.fld (F.GAT_ACT_W2_CYCLE_TIME n)
    base := signed 64 (s.fld (F.GAT_ACT_W0_BASE_LO n) + 2 ^ 32 * s.fld (F.GAT_ACT_W1_BASE_HI n))
    len := s.fld (F.GAT_ACT_W3_LENGTH n), items := (s.gate n).act }

def State.pendList (s : State) (n : Nat) : GList :=
  { meridian := s.flag (F.GAT_PEND_W3_LOCK n), cycle := s.fld (F.GAT_PEND_W2_CYCLE_TIME n)
    base := signed 64 (s.fld (F.GAT_PEND_W0_BASE_LO n) + 2 ^ 32 * s.fld (F.GAT_PEND_W1_BASE_HI n))
    len := s.fld (F.GAT_PEND_W3_LENGTH n), items := (s.gate n).pend }

/-- The list in use at the layout frontier: the pending one from a swap that has been fixed. -/
def State.frontList (s : State) (n : Nat) : GList := if (s.gate n).swapAt.isSome then s.pendList n else s.actList n

def GList.ivl (l : GList) (i : Nat) : Nat := (tabGet (0, 0) l.items i).1.toNat
def GList.gates (l : GList) (i : Nat) : Nat := (tabGet (0, 0) l.items i).2.toNat % 256

/-- Where each entry begins: index and sum of the intervals before it. -/
def GList.begins (l : GList) : List (Nat × Nat) :=
  ((List.range l.len).foldl (fun (a : List (Nat × Nat) × Nat) i => (a.1 ++ [(i, a.2)], a.2 + l.ivl i)) ([], 0)).1

/-- What R187 and R188 refuse at ARM. -/
def State.listOk (s : State) (l : GList) : Bool :=
  decide (1 ≤ l.len) && decide (l.len ≤ 1024) &&
  if l.meridian then
    let before := ((l.begins).getLast?.map (·.2)).getD 0
    let long (v : Nat) : Bool := decide (32 * s.merMax * 2 ^ 32 ≤ v * 1000000000)
    decide (before < 2 ^ 32) && (List.range (l.len - 1)).all (fun i => long (l.ivl i)) && long (2 ^ 32 - before)
  else decide (32 ≤ l.cycle) && (List.range l.len).all (fun i => decide (32 ≤ l.ivl i))

/-- The lock source lets a list start (R192). -/
def State.lockStarts (s : State) (n : Nat) (l : GList) : Bool :=
  if l.meridian then s.merState == 2 else !s.flag (F.GAT_PORT_CFG_REQ_SYNC n) || s.synced

/-- The first start of a list at or after `t`: a cycle start not before BASE_TIME, or a Meridian phase 0, taken at the next
whole ns (R191). -/
def State.listStart (s : State) (l : GList) (t : Int) : Int :=
  if l.meridian then (s.merNext (t : Rat) 0).ceil
  else if t ≤ l.base then l.base
  else l.base + (t - l.base + (max 1 l.cycle) - 1) / (max 1 l.cycle) * (max 1 l.cycle)

/-- The first boundary of a running list strictly after `t`, and its entry. -/
def State.listNext (s : State) (l : GList) (t : Int) : Int × Nat :=
  if l.meridian then
    (l.begins.map fun b => ((s.merNext ((t : Rat) + 1) b.2).ceil, b.1)).foldl
      (fun a b => if b.1 < a.1 then b else a) ((s.merNext ((t : Rat) + 1) 0).ceil, 0)
  else
    let c := max 1 l.cycle
    let k := (t - l.base) / c
    let o := t - l.base - k * c
    match l.begins.find? (fun b => decide (o < (b.2 : Int)) && decide ((b.2 : Int) < c)) with
    | some b => (l.base + k * c + b.2, b.1)
    | none => (l.base + (k + 1) * c, 0)

/-- The entry in force at `t`. -/
def State.listAt (s : State) (l : GList) (t : Int) : Nat :=
  let o : Int := if l.meridian then s.merPhase (t : Rat) else (t - l.base) % (max 1 l.cycle)
  ((l.begins.filter fun b => decide ((b.2 : Int) ≤ o)).getLast?.map (·.1)).getD 0

/-! ## Layout (R190 to R193) -/

/-- A boundary added at the frontier. -/
def Gate.lay (g : Gate) (b : Bound) : Gate := { g with laid := g.laid ++ [b], lastAt := b.at_, front := b.state }

/-- The next thing laid out at or after `t` and before `lim`. -/
def State.layOne (s : State) (n : Nat) (t lim : Int) : Option Gate :=
  let g := s.gate n
  let en := s.flag (F.GAT_PORT_CFG_GATE_EN n)
  let cur := s.frontList n
  let fb : Nat := s.fld (F.GAT_PORT_CFG_FALLBACK n)
  let run (l : GList) (at_ : Int) (i : Nat) : Bound := { at_ := at_, gates := l.gates i, entry := i, state := 2 }
  if !en && g.front != 0 then some (g.lay { at_ := t, gates := 255, entry := 0, state := 0 })
  else if en && g.front == 0 then some (g.lay { at_ := t, gates := fb, entry := 0, state := 1 })
  else if g.rephase then
    let g := { g with rephase := false }
    some (if g.front = 2 then g.lay (run cur t (s.listAt cur t)) else g)
  else
    let armed := s.flag (F.GAT_PORT_STATUS_ARMED n) && g.swapAt.isNone && s.lockStarts n (s.pendList n)
    let ts := s.listStart (s.pendList n) t
    let swap := if armed && decide (ts < lim) then some ts else none
    let other : Option Gate :=
      if g.front = 2 then
        let b := s.listNext cur (max g.lastAt (t - 1))
        if lim ≤ b.1 then none
        else if (cur.meridian && !s.merValid) || g.broken then some (g.lay { at_ := b.1, gates := fb, entry := 0, state := 1 })
        else some (g.lay (run cur b.1 b.2))
      else if en && cur.len != 0 && !g.broken && s.lockStarts n cur then
        let b := s.listStart cur t
        if lim ≤ b then none else some (g.lay (run cur b 0))
      else none
    match swap with
    | none => other
    | some ts =>
      let first := match other with | some o => decide (o.lastAt < ts) | none => false
      if first then other
      else
        let g := { g with swapAt := some ts }
        some (if en then g.lay (run (s.pendList n) ts 0) else { g with lastAt := ts })

/-- Boundaries laid out from `t` up to `lim`. -/
def State.layOut (n : Nat) (lim : Int) : Nat → Int → State → State
  | 0, _, s => s
  | k + 1, t, s =>
    match s.layOne n t lim with
    | none => s
    | some g => State.layOut n lim k (max t g.lastAt) (s.setGate n g)

/-- A port's layout brought to 65,536 ns ahead of now. -/
def State.layPort (s : State) (n : Nat) : State :=
  let lim := s.datumRat.floor + 65536
  let g := s.gate n
  match g.laidTo with
  | none => s.setGate n { g with laidTo := some lim }
  | some f =>
    if lim ≤ f then s
    else
      let s := State.layOut n lim ((lim - f).toNat + 4) f s
      s.setGate n { s.gate n with laidTo := some lim }

/-- Every port's layout, as time goes on. -/
def State.layAll (s : State) : State := (List.range 64).foldl State.layPort s

/-- A write of a GAT configuration register of port `n`: the register shows it at once, the gates once it has passed the
horizon (R190). -/
def State.gatWrite (s : State) (w : World) (n a : Nat) (v : Word) : State :=
  let old := s.word a
  let s := (s.writeReg w a v).mirrorReg a v
  if s.word a = old then s
  else
    let g := s.gate n
    (s.setGate n { g with overwritten := g.overwritten ++ [(s.cyc, a, old)] }).setFld (F.GAT_PORT_STATUS_CFG_PEND n) 1

/-- HORIZON_APPLY (R190): writes made 65,536 ns ago and earlier come into force at port `n`. -/
def execHorizonApply (n : Fin 64) (s : State) : Out :=
  let g := s.gate n.val
  let left := g.overwritten.filter fun e => !s.passed e.1 98304
  .next ((s.setGate n.val { g with overwritten := left }).setFlag (F.GAT_PORT_STATUS_CFG_PEND n.val) (!left.isEmpty))

/-- A laid-out boundary's MAC time in ns of DAT_CYC (R189). -/
def State.macNs (s : State) (n : Nat) (t : Int) : Rat :=
  s.cycNs + ((t : Rat) - s.datumRat) - (s.fld (F.GAT_PORT_TXD_TXD_QNS n) : Rat) / 4

/-- LIST_SWAP (R191): the instant of an armed swap has come at port `n`. -/
def execListSwap (n : Fin 64) (s : State) : Out :=
  let n := n.val
  let g := s.gate n
  match g.swapAt with
  | none => .next s
  | some t =>
    if s.cycNs < s.macNs n t then .next s
    else
      let s := s.setGate n { g with act := g.pend, swapAt := none, broken := g.pendBroken }
      let s := s.setWords (F.GAT_ACT_W0_BASE_LO n).addr (s.words (F.GAT_PEND_W0_BASE_LO n).addr 4)
      .next ((s.setFld (F.GAT_PORT_STATUS_ARMED n) 0).raise { num := 0x283, scope := n }).tieExcuse

/-! ## Windows (R194, R195) -/

/-- The vectors of port `n` with their MAC times: those reached, oldest first, then those laid out. -/
def State.vectors (s : State) (n : Nat) : List (Rat × Nat) :=
  ((s.gate n).past.reverse ++ (s.gate n).laid).map fun b => (s.macNs n b.at_, b.gates)

/-- The vector at a MAC time. -/
def State.vectorAt (s : State) (n : Nat) (u : Rat) : Nat :=
  (((s.vectors n).filter fun v => decide (v.1 ≤ u)).getLast?.map (·.2)).getD (s.fld (F.GAT_PORT_STATUS_GATES n))

def bitSet (v c : Nat) : Bool := v / 2 ^ c % 2 == 1

def State.openAt (s : State) (n c : Nat) (u : Rat) : Bool := !s.clsGated n c || bitSet (s.vectorAt n u) c

/-- The next closing of the class's gate after `u` that is laid out. -/
def State.closing (s : State) (n c : Nat) (u : Rat) : Option Rat :=
  ((s.vectors n).find? fun v => decide (u < v.1) && !bitSet v.2 c).map (·.1)

/-- A transmission of wire time `w` that starts at `u` keeps clear of the closure of a planned swap: every class is closed from T
to T + 1 µs (R403). -/
def State.clearOfSwap (s : State) (n : Nat) (u w : Rat) : Bool :=
  match s.tie.swap with
  | some t => s.fld F.TIE_STATUS_ROLE != 7 || decide (u + w ≤ s.macNs n t.toInt) || decide (s.macNs n (t.toInt + 1000) ≤ u)
  | none => true

/-- A transmission of wire time `w` may start at `u` (R194, R195). -/
def State.fits (s : State) (n c : Nat) (u w : Rat) : Bool :=
  s.clearOfSwap n u w && (!s.clsGated n c || (bitSet (s.vectorAt n u) c && (match s.closing n c u with | some t => decide (u + w ≤ t) | none => true)))

/-- The wire time the window must still hold for a frame: a preemptable class's first fragment, a fully buffered frame's own
length, or MAX_FRAME. -/
def State.fitTime (s : State) (n c : Nat) (len : Option Nat) : Rat :=
  if s.clsPreempt n c then wireNs (s.rate n) (64 * (1 + s.addFrag n))
  else match len with
    | some l => if s.clsExpress n c then wireNs (s.rate n) (s.clsMax n c) else wireNs (s.rate n) l
    | none => wireNs (s.rate n) (s.clsMax n c)

/-- The wire time of a frame that must not be preempted: its own where it is known and its class has no express MAC. -/
def State.wholeTime (s : State) (n c : Nat) (len : Option Nat) : Rat :=
  match len with
  | some l => if s.clsExpress n c then wireNs (s.rate n) (s.clsMax n c) else wireNs (s.rate n) l
  | none => wireNs (s.rate n) (s.clsMax n c)

/-- GATE_BOUNDARY (R187, R192, R195): the next laid-out boundary of port `n` is reached; a preemptable frame on the wire
whose gate closes is preempted. -/
def execGateBoundary (n : Fin 64) (s : State) : Out :=
  let n := n.val
  let g := s.gate n
  match g.laid with
  | [] => .next s
  | b :: rest =>
    if s.cycNs < s.macNs n b.at_ then .next s
    else
      let s := s.setGate n { g with laid := rest, past := (b :: g.past).take 512 }
      let old := s.fld (F.GAT_PORT_STATUS_LIST_STATE n)
      let s := ((s.setFld (F.GAT_PORT_STATUS_GATES n) b.gates).setFld (F.GAT_PORT_STATUS_ENTRY n) b.entry).setFld
        (F.GAT_PORT_STATUS_LIST_STATE n) b.state
      let s := if old = b.state then s else s.raise { num := 0x284, scope := n, arg := b.state }
      .next ((s.frames.filter fun e => match e.2 with
        | some f => f.sending && !f.preempted && f.outPort == n && s.clsPreempt n f.cls && s.clsGated n f.cls && !bitSet b.gates f.cls
        | none => false).foldl (fun s e => match e.2 with
          | some f => (({ s with frames := tabSet none s.frames e.1 (some { f with preempted := true }) }.bump
              (C.PRT_TX_PREEMPT n)).bump (C.PRT_TX_FRAG n))
          | none => s) s)

/-! ## Blocking and admission (R197 to R201) -/

/-- b(t). -/
def State.blocking (s : State) (n : Nat) (t : Rat) : Rat :=
  (List.range 8).foldl (fun a c =>
    if s.clsExpress n c then a
    else
      let k := if s.clsPreempt n c then s.betaNs n else wireNs (s.rate n) (s.clsMax n c)
      let opens := !s.clsGated n c || bitSet (s.vectorAt n (t - k)) c ||
        (s.vectors n).any (fun v => decide (t - k < v.1) && decide (v.1 ≤ t) && bitSet v.2 c)
      if opens then max a k else a) 0

/-- An entry of the admission list, or the frame tested. -/
structure AEnt where
  id : Nat
  cls : Nat
  inPort : Nat
  adm : Adm

/-- The highest class, then the earliest ingress, then the lowest ingress port. -/
def AEnt.before (a b : AEnt) : Bool :=
  decide (b.cls < a.cls) || (a.cls == b.cls && (decide (a.adm.tIn < b.adm.tIn) || (a.adm.tIn == b.adm.tIn && decide (a.inPort < b.inPort))))

def bestEnt : List AEnt → Option AEnt
  | [] => none
  | a :: t => match bestEnt t with
    | some b => if a.before b then some a else some b
    | none => some a

/-- Times at which something can become ready: ready times and vectors after `t`, the smallest that lets an entry fit. -/
def State.nextFit (s : State) (n : Nat) (q : List AEnt) (t : Rat) : Option Rat :=
  let cands := (q.map (·.adm.tE) ++ (s.vectors n).map (·.1) ++
      (match s.tie.swap with | some t => [s.macNs n (t.toInt + 1000)] | none => [])).filter fun u =>
    decide (t < u) && q.any (fun e => decide (e.adm.tE ≤ u) && s.fits n e.cls u e.adm.w)
  match cands with
  | [] => none
  | u :: r => some (r.foldl min u)

/-- The port played forward (R201): the entries that start, with their starts. -/
def State.play (s : State) (n : Nat) (lim : Rat) : Nat → Rat → Bool → List AEnt → List (Nat × Rat)
  | 0, _, _, _ => []
  | _, _, _, [] => []
  | k + 1, t, idle, q =>
    match bestEnt (q.filter fun e => decide (e.adm.tE ≤ t) && s.fits n e.cls t e.adm.w) with
    | none => match s.nextFit n q t with
      | some u => if lim ≤ u then [] else s.play n lim k u true q
      | none => []
    | some e =>
      if idle then s.play n lim k (t + s.blocking n t) false q
      else (e.id, t) :: s.play n lim k (t + e.adm.w) false (q.filter fun x => x.id != e.id)

/-- The admission list of port `n`. -/
def State.admList (s : State) (n : Nat) : List AEnt :=
  s.frames.filterMap fun e => match e.2 with
    | some f => if f.outPort = n then f.adm.map fun a => { id := e.1, cls := f.cls, inPort := f.inPort, adm := a } else none
    | none => none

/-- The end of the express frame on the wire of port `n`, if there is one. -/
def State.expressEnd (s : State) (n : Nat) : Option Rat :=
  (tabFind (fun _ f => match f with
    | some f => f.sending && !f.preempted && f.outPort == n && f.express | none => false) s.frames).bind fun e =>
      e.2.map fun f => f.tStart + wireNs (s.rate n) (if f.last then f.lOut else s.clsMax n f.cls)

/-- The port played forward from now. -/
def State.playNow (s : State) (n : Nat) (q : List AEnt) : List (Nat × Rat) :=
  let lim := s.cycNs + 65536
  match s.expressEnd n with
  | some t => s.play n lim 8192 (max t s.cycNs) false q
  | none => s.play n lim 8192 s.cycNs true q

/-- An entry meets its deadline in a play. -/
def meets (p : List (Nat × Rat)) (e : AEnt) : Bool :=
  match p.find? (fun x => x.1 == e.id) with
  | some x => decide (x.2 + 88 - e.adm.tIn ≤ e.adm.limit)
  | none => false

/-- Reason code of the prediction for a new frame: none, 6 DEADLINE, 7 DISPLACE (R199, R201). -/
def State.predicts (s : State) (n : Nat) (new : AEnt) : Option Nat :=
  let list := s.admList n
  let with_ := s.playNow n (list ++ [new])
  let without := s.playNow n list
  if !meets with_ new then some 6
  else if list.any (fun e => meets without e && !meets with_ e) then some 7 else none

/-- ADM_USED follows the frames. -/
def State.admSync (s : State) (n : Nat) : State := s.setFld (F.GAT_PORT_STATUS_ADM_USED n) (min 64 (s.admList n).length)

/-! ## Breaches (R202, R203) -/

/-- BREACH_RESP as a response level; 3 is taken as ALERT. -/
def State.breachLevel (s : State) : Nat := match s.fld F.GAT_CFG_BREACH_RESP with | 0 => 0 | 2 => 2 | _ => 1

/-- A breach on port `n`, class `c`: sent `excess` ns late, or dropped; a Tie standby records none (R383). -/
def State.breach (s : State) (n c : Nat) (parcel : Nat) (excess : Option Nat) : State :=
  if s.isStandby then s else
  let s := s.bump (C.GAT_BREACH (8 * n + c))
  let s := if s.flag F.GAT_BREACH_LAST_VALID then s else
    ((((s.setFld F.GAT_BREACH_LAST_VALID 1).setFlag F.GAT_BREACH_LAST_DROPPED excess.isNone).setFld F.GAT_BREACH_LAST_CLASS c).setFld
      F.GAT_BREACH_LAST_PORT n).setFld F.GAT_BREACH_LAST_EXCESS_NS (min 2097151 (excess.getD 0))
  let s := s.raise { num := 0x282, scope := 8 * n + c, arg := excess.getD 0, alarm := true, parcel := some parcel }
  s.request s.breachLevel 0x282 (excess.getD 0)

/-! ## List commands (R205, R206) -/

namespace Gc
def ok : Nat := 0
def badOp : Nat := 1
def badIndex : Nat := 2
def armed : Nat := 3
def invalid : Nat := 4
def late : Nat := 5
end Gc

def gatWin : Nat := F.GAT_GCL_DATA0.addr

/-- A list command on port `n` and entry `i`. -/
def State.gclOp (s : State) (op n i : Nat) : State × Nat :=
  let g := s.gate n
  let armed := s.flag (F.GAT_PORT_STATUS_ARMED n)
  let show_ (e : Word × Word) : State := s.setWords gatWin [e.1, e.2 &&& 0xFF]
  match op with
  | 1 => if 1023 < i then (s, Gc.badIndex) else (show_ (tabGet (0, 0) g.act i), Gc.ok)
  | 2 => if 1023 < i then (s, Gc.badIndex) else (show_ (tabGet (0, 0) g.pend i), Gc.ok)
  | 3 =>
    if 1023 < i then (s, Gc.badIndex) else if armed then (s, Gc.armed)
    else (s.setGate n { g with pend := tabSet (0, 0) g.pend i (s.word gatWin, s.word (gatWin + 4) &&& 0xFF) }, Gc.ok)
  | 4 =>
    if armed then (s, Gc.armed) else if !s.listOk (s.pendList n) then (s, Gc.invalid)
    else (s.setFld (F.GAT_PORT_STATUS_ARMED n) 1, Gc.ok)
  | 5 =>
    if !armed then (s, Gc.ok) else if g.swapAt.isSome then (s, Gc.late)
    else (s.setFld (F.GAT_PORT_STATUS_ARMED n) 0, Gc.ok)
  | _ => (s, Gc.badOp)

/-- The outcome in STATUS, and event 0x286. -/
def State.gclDone (x : State × Nat) (op n i : Nat) : State :=
  let s := x.1.setFld F.GAT_GCL_CMD_STATUS x.2
  if x.2 ≠ Gc.ok then s.raise { num := 0x286, scope := n, arg := op + 16 * x.2 }
  else if op ≤ 2 then s else s.tieMirror (0x1800 + op) i n (wordBytes (s.words gatWin 2))

/-- A list command however it arrives; by descriptor PORT stands in ARG at its place in the register. -/
def gclCmd (op : Nat) (v : Via) (s : State) : State :=
  match v with
  | .reg w word =>
    cmdReg F.GAT_GCL_CMD_OP F.GAT_GCL_CMD_BUSY (fun s => s.raise { num := 0x286, scope := s.fld F.GAT_GCL_CMD_PORT, arg := op }) w word
      (fun s => State.gclDone (s.gclOp op (s.fld F.GAT_GCL_CMD_PORT) (s.fld F.GAT_GCL_CMD_INDEX)) op (s.fld F.GAT_GCL_CMD_PORT) (s.fld F.GAT_GCL_CMD_INDEX)) s
  | .ring d =>
    blockCmd d 8 op (if op ≤ 2 then .observe else .secure) gatWin 2 (fun _ _ => [])
      (fun s b =>
        let n := blkArg b / 2 ^ 16 % 64
        let r := s.gclOp op n (blkIndex b)
        (State.gclDone r op n (blkIndex b), r.2, 0)) s

def execGatReadAct (v : Via) (s : State) : Out := .next (gclCmd 1 v s)
def execGatReadPend (v : Via) (s : State) : Out := .next (gclCmd 2 v s)
def execGatWritePend (v : Via) (s : State) : Out := .next (gclCmd 3 v s)
def execGatArm (v : Via) (s : State) : Out := .next (gclCmd 4 v s)
def execGatDisarm (v : Via) (s : State) : Out := .next (gclCmd 5 v s)

/-! ## MAC merge (R196) -/

/-- MM_STATE changed with event 0x285. -/
def State.mmGo (s : State) (n st : Nat) : State :=
  if s.fld (F.GAT_PORT_STATUS_MM_STATE n) = st then s
  else (s.setFld (F.GAT_PORT_STATUS_MM_STATE n) st).raise { num := 0x285, scope := n, arg := st }

/-- Link up: the verify process, or ACTIVE at once with VERIFY_DIS. -/
def State.mmUp (s : State) (n : Nat) : State :=
  if !s.flag (F.GAT_PORT_CFG_PREEMPT_EN n) then s.mmGo n 0
  else if s.flag (F.GAT_PORT_CFG_VERIFY_DIS n) then s.mmGo n 2 else s.mmGo n 1

/-- Link down. -/
def State.mmDown (s : State) (n : Nat) : State := s.mmGo n 0

/-- MERGE_VERIFY_DONE (R196): the verify process of port `n` ends, with or without the partner's response. -/
def execMergeVerifyDone (n : Fin 64) (good : Bool) (s : State) : Out :=
  if s.fld (F.GAT_PORT_STATUS_MM_STATE n.val) = 1 then
    if good then .next (s.mmGo n.val 2) else .next ((s.bump (C.PRT_MM_VERIFY_FAIL n.val)).mmGo n.val 3)
  else .next s

/-- A Datum step of `ns` at the gates (R193): laid-out boundaries keep their instants; a running list is resumed at the
frontier under the new Datum. -/
def State.gatesStep (s : State) (ns : Int) : State :=
  (List.range 64).foldl (fun s n =>
    let g := s.gate n
    let mv (b : Bound) : Bound := { b with at_ := b.at_ + ns }
    let s := s.setGate n { g with
      laid := g.laid.map mv, past := g.past.map mv, laidTo := g.laidTo.map (· + ns), lastAt := g.lastAt + ns
      swapAt := g.swapAt.map (· + ns), rephase := g.front == 2 }
    if s.flag (F.GAT_PORT_CFG_GATE_EN n) then s.raise { num := 0x287, scope := n } else s) s

end Sys2Proof.Machine
end

