-- ==== Sys2Proof/Machine/DatCmd.lean ====
section
/-! DEFINITION. Machine/DatCmd.lean: what steps Datum, its measurements, and the commands of DAT_CMD (R212 to R216, R227,
R228). -/

namespace Sys2Proof.Machine

/-! ## Steps (R212) -/

/-- A step of `ns`, carried into every Datum value the device holds. -/
def State.stepDatum (s : State) (ns : Int) : State :=
  let s := s.fixStakes
  let s := s.stakesStep ns
  let d := s.dat
  let s := { s with
    datum := s.datum + BitVec.ofInt 96 (ns * 4294967296)
    dat := { d with slew := 0, merT := d.merT + ns, merPrev := d.merPrev.map (· + ns), merLast := d.merLast + ns
                    merHold := d.merHold + ns, pps := none }
    sec := { s.sec with ctxs := tabMapKeep (fun _ => ({} : Ctx)) (fun _ (x : Ctx) =>
      if x.st = SaSt.quarantined then { x with quarUntil := x.quarUntil + BitVec.ofInt 64 ns } else x) s.sec.ctxs } }
  let s := (s.gatesStep ns).setFld F.DAT_STATUS_SLEWING 0
  ((s.bump C.DAT_STEPS).raise { num := 0x301, data := leBytes 8 (toField 64 ns) ++ zeros 8 }).tieExcuse

/-! ## Measurements (R213, R215) -/

/-- The loop that turns a PPS measurement into DAT_FREQ and a slew; its gains are not given, its outputs stay within the
limits of R212 (free values). -/
def State.ppsLoop (s : State) : State :=
  let s := (s.setFld F.DAT_FREQ (toField 32 ((s.openVal % 26214401 : Nat) - 13107200 : Int))).drew
  (s.startSlew ((s.openVal % 2000001 : Nat) - 1000000 : Int)).drew

/-- A measurement: source time minus Datum is `e` ns; `pps` says that the hardware loop runs. -/
def State.measured (s : State) (e : Int) (pps : Bool) : State :=
  let s := s.setFld F.DAT_ERR_LAST_ERR (toField 32 (clampI (-2147483648) 2147483647 e))
  let s := { s with dat := { s.dat with meas := s.cyc } }
  let a := e.natAbs
  let within := decide (a ≤ s.fld F.DAT_SYNC_SYNC_NS)
  let beyond := decide (s.fld F.DAT_SYNC_UNSYNC_NS < a)
  let loop (s : State) : State := if pps then s.ppsLoop else s
  match s.fld F.DAT_STATUS_STATE with
  | 1 =>
    if beyond then
      let s := { s with dat := { s.dat with good := 0 } }
      if s.flag F.DAT_CFG_STEP_EN then s.stepDatum e else s.startSlew (clampI (-1000000) 1000000 e)
    else if within then
      let s := loop { s with dat := { s.dat with good := s.dat.good + 1 } }
      if max 1 (s.fld F.DAT_HOLD_SYNC_COUNT) ≤ s.dat.good then s.datState 2 else s
    else loop { s with dat := { s.dat with good := 0 } }
  | 2 =>
    if beyond then
      let s := loop { s with dat := { s.dat with bad := s.dat.bad + 1 } }
      if 2 ≤ s.dat.bad then s.datState 1 else s
    else loop { s with dat := { s.dat with bad := 0 } }
  | 3 => loop (s.datState (if within then 2 else 1))
  | _ => s

/-- TOD_MESSAGE (R215): sixteen bytes complete on TOD_IN; a message without the sync bytes, or without an edge that awaits
one, is no message of a PPS edge. -/
def execTodMessage (b : List Byte) (s : State) : Out :=
  if s.fld F.DAT_CFG_SRC ≠ 1 ∨ b.length ≠ 16 ∨ b.take 3 ≠ [0x5A, 0x44, 1] then .next s
  else match s.dat.pps with
    | none => .next s
    | some (edge, at_) =>
      let s := { s with dat := { s.dat with pps := none } }
      let err (s : State) : Out := .next ((s.bump C.DAT_TOD_ERR).raise { num := 0x303 })
      if crc16 (b.take 14) ≠ leAt b 14 2 ∨ s.passed at_ (cycS / 2 + 1) then err s
      else
        let sec := leAt b 4 6
        let prev := s.dat.tod
        let s := { s with dat := { s.dat with tod := some sec } }
        if (match prev with | some p => sec != p + 1 | none => false) then err s
        else
          let flags := leAt b 3 1
          let s := (s.setFld F.DAT_UTC_UTC_OFS (leAt b 10 2)).setFld F.DAT_UTC_LEAP (flags / 2 % 4)
          if flags % 2 = 0 then .next s
          else .next (s.measured (((4 * (sec : Int) * 1000000000 - edge) + 2) / 4) true)

/-! ## DAT_CMD (R228) -/

namespace Dc
def ok : Nat := 0
def badOp : Nat := 1
def state : Nat := 2
def range : Nat := 3
end Dc

/-- The operand. -/
def State.datOpnd (s : State) : Int := signed 64 (s.fld F.DAT_OPND_LO + 2 ^ 32 * s.fld F.DAT_OPND_HI)

/-- SRC as R213 names it: 3 is taken as FREE. -/
def State.datSrc (s : State) : Nat := if s.fld F.DAT_CFG_SRC = 3 then 0 else s.fld F.DAT_CFG_SRC

def State.datOp (s : State) (op : Nat) : State × Nat :=
  let v := s.datOpnd
  match op with
  | 1 =>
    if s.datSrc ≠ 0 then (s, Dc.state)
    else
      let s := s.stepDatum (v - s.datumNs.toInt)
      ({ s with datum := BitVec.ofInt 96 (v * 4294967296), dat := { s.dat with rem := 0 } }, Dc.ok)
  | 2 => (s.stepDatum v, Dc.ok)
  | 3 => if 1000000 < v.natAbs then (s, Dc.range) else (s.startSlew v, Dc.ok)
  | 4 =>
    if s.datSrc ≠ 2 then (s, Dc.state)
    else
      let s := if s.fld F.TIE_STATUS_ROLE = 2 then s.tieSend { typ := 10, args := [toField 64 v] } else s
      (s.measured v false, Dc.ok)
  | 5 => (s.startSlew 0, Dc.ok)
  | _ => (s, Dc.badOp)

/-- The outcome in STATUS, and event 0x306. -/
def State.datDone (x : State × Nat) (op : Nat) : State :=
  let s := x.1.setFld F.DAT_CMD_STATUS x.2
  if x.2 = Dc.ok then s else s.raise { num := 0x306, arg := op + 16 * x.2 }

/-- A Datum command however it arrives; REPORT is for firmware only, and is refused to a ring (R335). -/
def datCmd (op : Nat) (v : Via) (s : State) : State :=
  match v with
  | .reg w word =>
    cmdReg F.DAT_CMD_OP F.DAT_CMD_BUSY (fun s => s.raise { num := 0x306, arg := op }) w word
      (fun s => State.datDone (s.datOp op) op) s
  | .ring d =>
    if op = 4 then
      ringCmd d { opcode := 0x1904, cls := .operate, payMax := 16, rspSize := fun _ => 16 }
        (fun s _ => { st := s, status := St.classDenied }) s
    else
      blockCmd d 9 op (if op ≤ 2 then .secure else .operate) F.DAT_OPND_LO.addr 0 (fun _ _ => [])
        (fun s _ => let r := s.datOp op; (State.datDone r op, r.2, 0)) s

def execDatSet (v : Via) (s : State) : Out := .next (datCmd 1 v s)
def execDatStep (v : Via) (s : State) : Out := .next (datCmd 2 v s)
def execDatSlew (v : Via) (s : State) : Out := .next (datCmd 3 v s)
def execDatReport (v : Via) (s : State) : Out := .next (datCmd 4 v s)
def execDatSlewAbort (v : Via) (s : State) : Out := .next (datCmd 5 v s)

/-- MERIDIAN_HOLD_EXPIRY (R221). -/
def execMeridianHoldExpiry (s : State) : Out := .next s.merExpire

end Sys2Proof.Machine
end

