-- ==== Sys2Proof/Machine/Hearth.lean ====
section
/-! DEFINITION. Machine/Hearth.lean: roots, key slots, blobs, handoffs, the Hearth store, Quench and the controller
(spec/10_hearth_keys.md). -/

namespace Sys2Proof.Machine

/-! ## Roots (R231 to R233, R247) -/

/-- KDF of R232 to 32 bytes. -/
def kdf32 (key lab ctx : List Byte) : List Byte := (Config.kdf key lab ctx).take 32

/-- The life-cycle root, none in RETIRED (R232). -/
def State.lcsRoot (s : State) : Option (List Byte) :=
  if s.hrt.purged || !s.flag F.HRT_STATUS_HUK_OK then none else
  match s.otp.lcs with
  | 0 => some (kdf32 Config.huk (label "LCS-MFG") [])
  | 1 => some (kdf32 Config.huk (label "LCS-OWN") [])
  | 2 => some (kdf32 Config.huk (label "LCS-SEAL") [])
  | _ => none

/-- OWNER_ROOT (R233), or the life-cycle root in MANUFACTURE. -/
def State.ownerRoot (s : State) : Option (List Byte) :=
  match s.lcsRoot with
  | none => none
  | some r =>
    if s.otp.lcs = 0 then some r
    else
      let hs := match s.otp.owners.getLast? with | some o => o.hashes.flatten | none => []
      some (kdf32 r (label "owner") (Config.sha384 hs ++ leBytes 4 s.otp.epoch))

def State.parcelEpoch (s : State) (p : Nat) : Nat := tabGet 0 s.hrt.epochs p

/-- PARCEL_ROOT[p] (R233); in MANUFACTURE parcel 0's only. -/
def State.parcelRoot (s : State) (p : Nat) : Option (List Byte) :=
  if s.hrt.rootGone.getLsbD p || (s.otp.lcs == 0 && p != 0) then none
  else match s.ownerRoot with
    | none => none
    | some r => some (kdf32 r (label "parcel") (leBytes 1 p ++ leBytes 4 (s.parcelEpoch p)))

/-- The seed of a parcel's import key pair (R239). -/
def State.importSeed (s : State) (p : Nat) : Option (List Byte) :=
  match s.parcelRoot p with
  | none => none
  | some r => some (kdf32 r (label "ZGD import") [])

/-- The identity key's seed (R231): none once purged. -/
def State.identity (s : State) : Option (List Byte) :=
  if s.hrt.purged || !s.flag F.HRT_STATUS_HUK_OK then none
  else some (kdf32 Config.huk (label "ZGD identity") (leBytes 8 Config.serial.toNat))

/-! ## The Hearth store (R247 to R253) -/

/-- Highest WRITE_COUNT of an area (R250: what a torn WEAR word is taken as). -/
def State.areaMax (s : State) (a : Nat) : Nat :=
  (List.range (areaSlots a)).foldl (fun m i => let r := s.recSlot a i; if r.wearOk then max m r.writes else m) 0

def State.recWrites (s : State) (a i : Nat) : Nat := let r := s.recSlot a i; if r.wearOk then r.writes else s.areaMax a

/-- The free, unretired slot with the lowest WRITE_COUNT, the lowest number among equals (R249). -/
def State.freeRec (s : State) (a : Nat) : Option Nat :=
  (List.range (areaSlots a)).foldl (fun best i =>
    let r := s.recSlot a i
    if r.copy.isSome || r.retired then best else
    match best with
    | none => some i
    | some j => if s.recWrites a i < s.recWrites a j then some i else best) none

/-- HRT_STORE_AREA follows the store. -/
def State.areaSync (s : State) (a : Nat) : State :=
  let is := List.range (areaSlots a)
  let ret := (is.filter fun i => (s.recSlot a i).retired).length
  let free := (is.filter fun i => !(s.recSlot a i).retired && (s.recSlot a i).copy.isNone).length
  ((s.setFld (F.HRT_STORE_AREA_W0_MAX_WRITES a) (s.areaMax a)).setFld (F.HRT_STORE_AREA_W1_RETIRED a) ret).setFld
    (F.HRT_STORE_AREA_W1_FREE a) free

/-- An area that has no slot left for a commit: READ_ONLY, event 0x349, ALERT (R253). -/
def State.areaReadOnly (s : State) (a : Nat) : State :=
  if s.flag (F.HRT_STORE_AREA_W0_READ_ONLY a) then s
  else
    let s := (s.setFld (F.HRT_STORE_AREA_W0_READ_ONLY a) 1).setFld F.HRT_STATUS_STORE_RO 1
    (s.hrtEvent { num := 0x349, scope := a, alarm := true } 0).request 1 0x349 a

/-- A slot that has reached its 100,000,000th write is retired (R252). -/
def State.wearOut (s : State) (a i : Nat) : State :=
  let r := s.recSlot a i
  if r.writes < 100000000 ∨ r.retired then s
  else
    let s := (s.setRecSlot a i { r with retired := true }).bump (C.HRT_SLOT_RETIRED a)
    let s := s.hrtEvent { num := 0x348, scope := a, arg := i } i
    let ret := ((List.range (areaSlots a)).filter fun i => (s.recSlot a i).retired).length
    if 10 * ret < 9 * areaSlots a ∨ s.hrt.nearFull.getLsbD a then s
    else ({ s with hrt := { s.hrt with nearFull := s.hrt.nearFull ||| (1#5 <<< a) } }).hrtEvent { num := 0x34A, scope := a } 0

/-- Steps 1 and 2 of a commit: the slot chosen, its WEAR raised, the record written (R249). `good` says whether it reads
back. -/
def State.writeRec (s : State) (a id : Nat) (p : Pay) (i : Nat) (good : Bool) : State :=
  let g := (s.copies a id).foldl (fun m e => max m e.2.gen) 0
  let n := s.recWrites a i + 1
  let s := s.setRecSlot a i { writes := n, copy := if good then some { id := id, gen := g + 1, pay := p } else none }
  s.wearOut a i

/-- Step 4: of the record's copies the two newest stay, and after a tombstone only the tombstone (R249). -/
def State.tidyRec (s : State) (a id : Nat) (p : Pay) : State :=
  let top := (s.copies a id).foldl (fun m e => max m e.2.gen) 0
  (s.copies a id).foldl (fun s e =>
    if e.2.gen + 1 < top ∨ (p = Pay.tombstone ∧ e.2.gen < top) then s.setRecSlot a e.1 { s.recSlot a e.1 with copy := none }
    else s) s

/-- A commit carried through: none where the area has no slot for it (R249, R253). -/
def State.commitTo (s : State) (a id : Nat) (p : Pay) : Option State :=
  if s.flag (F.HRT_STORE_AREA_W0_READ_ONLY a) then none
  else match s.freeRec a with
    | none => none
    | some i =>
      let s := ((s.writeRec a id p i true).tidyRec a id p).bump (C.HRT_COMMITS a)
      let k := 1000000 * a + id
      let l := s.hrt.listed.filter (· != k)
      let s := { s with hrt := { s.hrt with listed := if p = Pay.tombstone ∨ (a ≠ 1 ∧ a ≠ 2) then l else k :: l } }
      let s := s.areaSync a
      some (if (s.freeRec a).isNone then s.areaReadOnly a else s)

/-- A commit that a command needs durable before it returns OK. -/
def State.commitNow (s : State) (a id : Nat) (p : Pay) : State × Bool :=
  match s.commitTo a id p with
  | some s => (s, true)
  | none => (s.areaReadOnly a, false)

/-- The owner area's record (R247). -/
def State.ownerPay (s : State) : Pay := .owner s.hrt.epochs s.hrt.seqs s.hrt.tenants s.hrt.ack

/-- STORE_COMMIT_DONE (R249): the oldest queued commit is written and read back; a first mismatch retries once in
another free slot. -/
def execStoreCommitDone (good : Bool) (s : State) : Out :=
  match s.hrt.commits with
  | [] => .next s
  | c :: rest =>
    let pop (s : State) : State := { s with hrt := { s.hrt with commits := rest } }
    if s.flag (F.HRT_STORE_AREA_W0_READ_ONLY c.area) then .next (pop s)
    else if good then
      match s.commitTo c.area c.id c.pay with
      | some s => .next (pop s)
      | none => .next (pop (s.areaReadOnly c.area))
    else match s.freeRec c.area with
      | none => .next (pop (s.areaReadOnly c.area))
      | some i =>
        let s := (s.writeRec c.area c.id c.pay i false).areaSync c.area
        if c.retry then .next (pop s)
        else .next { s with hrt := { s.hrt with commits := { c with retry := true } :: rest } }

/-! ## Slots (R234) -/

def State.slot (s : State) (n : Nat) : Slot := tabGet {} s.hrt.slots n
/-- A slot replaced; new material is not poisoned. -/
def State.setSlot (s : State) (n : Nat) (x : Slot) : State :=
  let bad := if x.key = (s.slot n).key then s.hrt.badSlots else tabSet none s.hrt.badSlots n none
  { s with hrt := { s.hrt with slots := tabSet {} s.hrt.slots n x, badSlots := bad } }

def slotKeyLen : Nat → Nat
  | 0 => 16 | 1 => 32 | 2 => 48 | 3 => 16 | 4 => 32 | _ => 0

/-- The registers that show the slots (R234, R243, R302). -/
def State.slotSync (s : State) : State :=
  let s := s.setFld F.HRT_STATUS_SLOTS_LOADED (tabCount (fun _ x => x.st != 0) s.hrt.slots)
  let s := s.setFld F.HRT_USE_PERSIST (tabCount (fun _ x => x.st != 0 && x.persist) s.hrt.slots)
  s.setFld F.HRT_USE_RETIRE_LIST s.hrt.retire.length

/-- GLB_PARCEL_USE.SLOTS of a parcel, whose number has 6 bits, follows the slots. -/
def State.slotUse (s : State) (p : Nat) : State :=
  (s.slotSync).setFld (F.GLB_PARCEL_USE_W1_SLOTS (p % 64)) (tabCount (fun _ x => x.st != 0 && x.parcel == p) s.hrt.slots)

/-- First 8 bytes of the check value (R234). -/
def Slot.kcv (x : Slot) : List Byte :=
  if x.key = [] then zeros 8
  else if x.typ = 2 then (Config.sha384 ((Config.hybridPub x.key).take 97)).take 8
  else (leBytes 16 (Config.aesCmac x.key (zeros 16))).take 8

def State.childSlots (s : State) (n : Nat) : Nat :=
  tabCount (fun _ x => x.st != 0 && !x.rootParent && x.parent == n) s.hrt.slots

def State.childSas (s : State) (n : Nat) : Nat :=
  tabCount (fun _ x => match x.key with | some m => m.slot == some n | none => false) s.sec.ctxs

/-- The attribute words of a slot (R234). -/
def State.slotWords (s : State) (n : Nat) : List Word :=
  let x := s.slot n
  [packW [(29, 3, x.st), (26, 3, x.typ), (25, 1, b2n x.exportable), (24, 1, b2n x.persist), (20, 4, x.usage),
      (18, 2, x.origin), (12, 6, x.parcel), (0, 6, x.ckn.length)],
   packW [(31, 1, b2n x.rootParent), (16, 12, x.parent), (0, 16, x.gen)],
   BitVec.ofNat 32 x.importSeq, packW [(13, 19, s.childSas n), (0, 13, s.childSlots n)]] ++
  leWords 2 (if x.st = 0 then zeros 8 else x.kcv) ++ [0, 0] ++ leWords 8 (x.ckn ++ zeros (32 - x.ckn.length))

/-! ## STATUS codes (R261) -/

namespace Hc
def ok : Nat := 0
def badOp : Nat := 1
def badSlot : Nat := 2
def state : Nat := 3
def usage : Nat := 4
def parcel : Nat := 5
def format : Nat := 6
def auth : Nat := 7
def replayed : Nat := 8
def noRoom : Nat := 9
def storeRo : Nat := 10
def entropy : Nat := 11
def noKey : Nat := 12
/-- Not a code of R261: the command stays BUSY. -/
def busy : Nat := 100
end Hc

/-- A key command: slot and ARG, and the parcel tag of the function it came from, none for firmware (R236). -/
structure HReq where
  slot : Nat
  arg : Nat
  tag : Option Nat
  /-- A boot applies the image in force, whose blobs have been accepted before. -/
  again : Bool := false

/-- What a Hearth operation answers: state, code, RESULT. -/
abbrev HRes := State × Nat × Nat

/-- A tag admits a parcel (R236). -/
def HReq.may (r : HReq) (p : Nat) : Bool := match r.tag with | some t => t == p | none => true

def hrtWin : Nat := (F.HRT_DATA 0).addr
def State.hrtBytes (s : State) : List Byte := wordBytes (s.words hrtWin 512)

/-- Bytes placed at the start of HRT_DATA, which holds 2,048. -/
def State.hrtPut (s : State) (b : List Byte) : State := s.setWords hrtWin (leWords (min 512 ((b.length + 3) / 4)) b)

/-- USAGE bits (R234): [0] DERIVE, [1] WRAP, [2] DATAPATH, [3] SIGN. -/
def Slot.uses (x : Slot) (bits : Nat) : Bool := Nat.land x.usage bits == bits

/-- Material found uncorrectable; a persistent slot has it again from its store record 1 ms later (R370). -/
def State.slotBad (s : State) (n : Nat) : Bool :=
  match tabGet none s.hrt.badSlots n with
  | some t => !((s.slot n).persist && s.passed t cycMs)
  | none => false

/-- The checks every operation on a loaded slot makes: parcel, state, usage (R235, R236). -/
def State.slotCheck (s : State) (r : HReq) (n bits : Nat) : Nat :=
  let x := s.slot n
  if 4096 ≤ n ∨ x.st = 0 ∨ s.slotBad n then Hc.badSlot
  else if !r.may x.parcel then Hc.parcel
  else if x.st ≠ 1 then Hc.state
  else if !x.uses bits then Hc.usage
  else Hc.ok

/-- A slot's record committed where the slot is persistent (R238, R247). -/
def State.slotCommit (s : State) (n : Nat) : State × Bool :=
  let x := s.slot n
  if x.persist then s.commitNow 1 n (.key x) else (s, true)

/-- A new or rewritten slot (R234, R243, R302): `replace` lets a LOADED slot be rewritten. -/
def State.loadSlot (s : State) (n : Nat) (x : Slot) (replace : Bool) : State × Nat :=
  let old := s.slot n
  if 4096 ≤ n then (s, Hc.badSlot)
  else if old.st = 0 then
    let full := s.fld (F.GLB_PARCEL_LIM_W1_SLOT_MAX x.parcel) ≤ s.fld (F.GLB_PARCEL_USE_W1_SLOTS x.parcel)
    if full then (s.limitHit x.parcel 2, Hc.noRoom)
    else if x.persist ∧ 1024 ≤ s.fld F.HRT_USE_PERSIST then (s, Hc.noRoom)
    else if x.persist ∧ s.flag (F.HRT_STORE_AREA_W0_READ_ONLY 1) then (s, Hc.storeRo)
    else
      let s1 := s.setSlot n { x with st := 1, gen := 1 }
      match s1.slotCommit n with
      | (s1, true) => (s1.slotUse x.parcel, Hc.ok)
      | (_, false) => (s, Hc.storeRo)
  else if old.st = 1 ∧ replace then
    if x.typ ≠ old.typ ∨ x.parcel ≠ old.parcel ∨ x.rootParent ≠ old.rootParent ∨ x.parent ≠ old.parent ∨ x.usage ≠ old.usage
    then (s, Hc.state)
    else if (x.persist ∨ old.persist) ∧ s.flag (F.HRT_STORE_AREA_W0_READ_ONLY 1) then (s, Hc.storeRo)
    else if 64 ≤ s.hrt.retire.length then (s, Hc.busy)
    else
      let s1 := s.setSlot n { x with st := 1, gen := old.gen + 1, importSeq := old.importSeq, exports := old.exports,
                                     exportable := x.exportable && old.exportable }
      let s1 := { s1 with hrt := { s1.hrt with retire := s1.hrt.retire ++ [n] } }
      match s1.slotCommit n with
      | (s1, true) => (s1.slotUse x.parcel, Hc.ok)
      | (_, false) => (s, Hc.storeRo)
  else (s, Hc.state)

/-! ## Blobs (R237 to R240) -/

structure Blob where
  bytes : List Byte

def Blob.mode (b : Blob) : Nat := leAt b.bytes 5 1
def Blob.alg (b : Blob) : Nat := leAt b.bytes 6 1
def Blob.kind (b : Blob) : Nat := leAt b.bytes 7 1
def Blob.wrapSlot (b : Blob) : Nat := leAt b.bytes 8 2
def Blob.parcel (b : Blob) : Nat := leAt b.bytes 10 1
def Blob.seq (b : Blob) : Nat := leAt b.bytes 12 4
def Blob.wlen (b : Blob) : Nat := leAt b.bytes 16 2
def Blob.wrapAt (b : Blob) : Nat := if b.mode = 1 then 1689 else 24
def Blob.wrapped (b : Blob) : List Byte := slice b.bytes b.wrapAt b.wlen

/-- The header's form (R237). -/
def Blob.formOk (b : Blob) (kind : Nat) : Bool :=
  slice b.bytes 0 4 == [0x5A, 0x47, 0x4B, 0x42] && leAt b.bytes 4 1 == 1 && decide (b.mode ≤ 1) &&
  (b.alg == 1 || b.alg == 2) && b.kind == kind && leAt b.bytes 11 1 == 0 && leAt b.bytes 18 6 == 0 &&
  decide (b.parcel < 64) && decide (1 ≤ b.seq) && decide (b.wrapAt + b.wlen ≤ 2048) && decide (b.wlen % 8 = 0) &&
  decide (24 ≤ b.wlen) && (b.mode == 0 || b.wrapSlot == 0xFFFF)

/-- The attribute block's own form against the header, and the lengths (R237). -/
def Blob.plainOk (b : Blob) (p : List Byte) : Bool :=
  let typ := leAt p 0 1
  let fl := leAt p 1 1
  let n := leAt p 3 1
  let base := 16 + slotKeyLen typ
  leAt p 2 1 == b.parcel && leAt p 4 4 == b.seq && leAt p 8 2 == b.wrapSlot && leAt p 10 6 == 0 &&
  (if b.kind = 1 then decide (typ ≤ 1) && fl == 0 && decide (n ≤ 1) && p.length == base + 12 * n
   else decide (typ ≤ 4) && decide (fl < 64) && (if 3 ≤ typ then decide (n ≤ 32) else n == 0) && p.length == base + n)

/-- The transport key of a MODE 1 blob (R239). -/
def State.transportKey (s : State) (b : Blob) : Option (List Byte) :=
  match s.importSeed b.parcel with
  | none => none
  | some seed => some (Config.kmac256 (Config.importSecret seed (slice b.bytes 24 1665))
      (Config.sha384 (Config.importPub seed) ++ slice b.bytes 0 24) 256 (label "ZGD import"))

/-- The IMPORT_SEQ a blob is held against (R238). -/
def State.importSeq (s : State) (b : Blob) : Nat :=
  if b.mode = 1 then tabGet 0 s.hrt.seqs b.parcel else (s.slot b.wrapSlot).importSeq

/-- The transport sequence of a parcel, which GLB_PARCEL shows (R238). -/
def State.setXseq (s : State) (p n : Nat) : State :=
  ({ s with hrt := { s.hrt with seqs := tabSet 0 s.hrt.seqs p n } }).setFld (F.GLB_PARCEL_W3_XSEQ p) n

/-- The acceptance of a blob's SEQ, durable where R238 says so. -/
def State.acceptSeq (s : State) (b : Blob) : State × Bool :=
  if b.seq ≤ s.importSeq b then (s, true)
  else if b.mode = 1 then
    (s.setXseq b.parcel b.seq).commitNow 0 0 (s.setXseq b.parcel b.seq).ownerPay
  else
    let s := s.setSlot b.wrapSlot { s.slot b.wrapSlot with importSeq := b.seq }
    s.slotCommit b.wrapSlot

/-- A blob opened: format, parcel, unwrapping key, integrity, repeated fields, sequence, in that order (R235 to R239;
the order is log entry 22). -/
def State.openBlob (s : State) (r : HReq) (kind bits : Nat) : Nat × List Byte :=
  let b : Blob := ⟨s.hrtBytes⟩
  if !b.formOk kind then (Hc.format, [])
  else if !r.may b.parcel then (Hc.parcel, [])
  else
    let c := if b.mode = 1 then Hc.ok else s.slotCheck r b.wrapSlot bits
    if c ≠ Hc.ok then (c, [])
    else if b.mode = 0 ∧ (s.slot b.wrapSlot).parcel ≠ b.parcel then (Hc.parcel, [])
    else match (if b.mode = 1 then s.transportKey b else some (s.slot b.wrapSlot).key) with
      | none => (Hc.state, [])
      | some k => match Config.keyUnwrap b.alg k b.wrapped with
        | none => (Hc.auth, [])
        | some p =>
          if !b.plainOk p then (Hc.format, [])
          else if b.seq ≤ s.importSeq b ∧ !r.again then (Hc.replayed, [])
          else (Hc.ok, p)

/-- SLOT_IMPORT (R237, R243). -/
def State.slotImport (s : State) (r : HReq) : HRes :=
  match s.openBlob r 0 2 with
  | (0, p) =>
    let b : Blob := ⟨s.hrtBytes⟩
    let typ := leAt p 0 1
    let fl := leAt p 1 1
    let x : Slot :=
      { typ := typ, usage := fl % 16, exportable := fl / 16 % 2 == 1, persist := fl / 32 % 2 == 1, origin := 0
        parcel := b.parcel, rootParent := b.mode == 1, parent := if b.mode = 1 then 0 else b.wrapSlot
        key := slice p 16 (slotKeyLen typ), ckn := p.drop (16 + slotKeyLen typ) }
    if b.mode = 0 ∧ !(s.slot b.wrapSlot).uses x.usage then (s, Hc.usage, 0)
    else match s.loadSlot r.slot x (r.arg % 2 == 1) with
      | (s1, 0) => match s1.acceptSeq b with
        | (s1, true) => (s1, Hc.ok, (s1.slot r.slot).gen)
        | (_, false) => (s, Hc.storeRo, 0)
      | (s1, c) => (s1, c, 0)
  | (c, _) => (s, c, 0)

/-- Attributes of R506. -/
def genForm (arg : Nat) : Bool := arg / 2 ^ 13 % 8 == 0 && arg % 16 == 0 && decide (arg / 2 ^ 10 % 8 ≤ 4)

/-- The parent of a generated or derived slot: code, its key, parcel, root flag, slot number and GEN (R506). -/
def State.parentOf (s : State) (r : HReq) (bits : Nat) : Nat × List Byte × Nat × Bool × Nat × Nat × Nat :=
  let n := r.arg / 65536 % 65536
  if n = 0xFFFF then
    let p := r.tag.getD 0
    match s.parcelRoot p with
    | none => (Hc.state, [], 0, true, 0, 0, 0)
    | some k => (Hc.ok, k, p, true, 0, 0, 15)
  else
    let x := s.slot n
    (s.slotCheck r n bits, x.key, x.parcel, false, n, x.gen, x.usage)

/-- SLOT_GENERATE (R506). -/
def State.slotGenerate (s : State) (r : HReq) : HRes :=
  let a := r.arg % 65536
  match s.parentOf r 0 with
  | (0, _, p, root, n, _, us) =>
    let typ := a / 1024 % 8
    if !genForm a then (s, Hc.format, 0)
    else if Nat.land (a / 16 % 16) us ≠ a / 16 % 16 then (s, Hc.usage, 0)
    else if !s.flag F.HRT_STATUS_TRNG_OK then (s, Hc.entropy, 0)
    else
      let x : Slot :=
        { typ := typ, usage := a / 16 % 16, exportable := a / 512 % 2 == 1, persist := a / 256 % 2 == 1, origin := 1
          parcel := p, rootParent := root, parent := n, key := leBytes (slotKeyLen typ) s.randomVal }
      match s.drew.loadSlot r.slot x false with
      | (s1, 0) => (s1, Hc.ok, 1)
      | (s1, c) => (s1, c, 0)
  | (c, _) => (s, c, 0)

/-- SLOT_DERIVE (R506). -/
def State.slotDerive (s : State) (r : HReq) : HRes :=
  let a := r.arg % 65536
  let w := s.hrtBytes
  match s.parentOf r 1 with
  | (0, k, p, root, n, g, us) =>
    let typ := a / 1024 % 8
    let ll := leAt w 0 1
    let cl := leAt w 65 1
    if !genForm a ∨ typ = 2 ∨ ll = 0 ∨ 64 < ll ∨ 32 < cl ∨ (cl ≠ 0 ∧ typ < 3) then (s, Hc.format, 0)
    else if Nat.land (a / 16 % 16) us ≠ a / 16 % 16 then (s, Hc.usage, 0)
    else
      let ctx := leBytes 1 p ++ leBytes 2 (if root then 0xFFFF else n) ++ leBytes 2 g ++ leBytes 2 a
      let x : Slot :=
        { typ := typ, usage := a / 16 % 16, exportable := a / 512 % 2 == 1, persist := a / 256 % 2 == 1, origin := 2
          parcel := p, rootParent := root, parent := n, ckn := slice w 66 cl
          key := (Config.kdf k (slice w 1 ll) ctx).take (slotKeyLen typ) }
      match s.loadSlot r.slot x false with
      | (s1, 0) => (s1, Hc.ok, 1)
      | (s1, c) => (s1, c, 0)
  | (c, _) => (s, c, 0)

/-- The blob SLOT_EXPORT makes (R237, R240). -/
def exportBlob (x : Slot) (wrapN seq : Nat) (kek : List Byte) : List Byte :=
  let plain := leBytes 1 x.typ ++ leBytes 1 (x.usage + 16 * b2n x.exportable + 32 * b2n x.persist) ++ leBytes 1 x.parcel ++
    leBytes 1 x.ckn.length ++ leBytes 4 seq ++ leBytes 2 wrapN ++ zeros 6 ++ x.key ++ x.ckn
  let wr := Config.keyWrap 2 kek plain
  [0x5A, 0x47, 0x4B, 0x42] ++ leBytes 1 1 ++ leBytes 1 0 ++ leBytes 1 2 ++ leBytes 1 0 ++ leBytes 2 wrapN ++
    leBytes 1 x.parcel ++ zeros 1 ++ leBytes 4 seq ++ leBytes 2 wr.length ++ zeros 6 ++ wr

def State.slotExport (s : State) (r : HReq) : HRes :=
  let wn := r.arg / 65536 % 65536
  let c := s.slotCheck r r.slot 0
  let cw := s.slotCheck r wn 2
  let x := s.slot r.slot
  let w := s.slot wn
  if c ≠ 0 then (s, c, 0)
  else if cw ≠ 0 then (s, cw, 0)
  else if !x.exportable then (s, Hc.usage, 0)
  else if x.parcel ≠ w.parcel then (s, Hc.parcel, 0)
  else
    let s1 := s.setSlot wn { w with exports := w.exports + 1 }
    match s1.slotCommit wn with
    | (s1, true) => (s1.hrtPut (exportBlob x wn (w.exports + 1) w.key), Hc.ok, 0)
    | (_, false) => (s, Hc.storeRo, 0)

/-- Slots whose parent is among `l`, added until none is left. -/
def State.descend (s : State) : Nat → List Nat → List Nat
  | 0, l => l
  | fuel + 1, l =>
    let more := (s.hrt.slots.filter fun e =>
      e.2.st != 0 && !e.2.rootParent && l.contains e.2.parent && !l.contains e.1).map (·.1)
    if more = [] then l else s.descend fuel (l ++ more)

/-- SLOT_REVOKE (R244): the tree REVOKED and marked, handoffs of it revoked, a sweep begun. -/
def State.slotRevoke (s : State) (r : HReq) : HRes :=
  let x := s.slot r.slot
  if 4096 ≤ r.slot ∨ x.st = 0 then (s, Hc.badSlot, 0)
  else if !r.may x.parcel then (s, Hc.parcel, 0)
  else if x.st ≠ 1 then (s, Hc.state, 0)
  else
    let tree := s.descend s.hrt.slots.length [r.slot]
    let now := tree.filter fun n => (s.slot n).st == 1
    let s := now.foldl (fun s n => s.setSlot n { s.slot n with st := 2 }) s
    let s := (now.filter fun n => (s.slot n).persist).foldl (fun s n => s.commitLater 1 n (.key (s.slot n))) s
    let from_ (m : KeyMat) : Bool := match m.slot with | some n => tree.contains n | none => false
    let hit := (s.sec.ctxs.filter fun e => match e.2.key with | some m => from_ m | none => false).map (·.1)
    let s := hit.foldl (fun s sa => s.setCtx sa { s.ctx sa with marked := true }) s
    let hands := tabMapKeep (fun _ => {}) (fun _ (e : HandEnt) =>
      { e with held := e.held.map fun h => if from_ h.mat then { h with revoked := true } else h }) s.hrt.hands
    ({ s with
        hrt := { s.hrt with hands := hands }
        sec := { s.sec with sweeps := s.sec.sweeps ++ [Sweep.mk r.slot now.length hit] } }, Hc.ok, 0)

/-- REVOCATION_SWEEP_DONE (R244, R245): the oldest sweep ends; every association it marked is REVOKED; event 0x342. -/
def execRevocationSweepDone (s : State) : Out :=
  match s.sec.sweeps with
  | [] => .next s
  | w :: rest =>
    let s := w.assocs.foldl (fun s sa => if (s.ctx sa).marked then s.toRevoked sa true else s) s
    let s := { s with sec := { s.sec with sweeps := rest } }
    let o : Occ :=
      { num := 0x342, scope := w.slot, arg := w.slots, parcel := some (s.slot w.slot).parcel
        data := leBytes 8 w.assocs.length ++ zeros 8 }
    .next (s.hrtEvent o w.slot)

/-- SLOT_DELETE, and QUENCH of scope SLOT (R246, R254): RETIRING, the store record erased. -/
def State.slotDelete (s : State) (r : HReq) : HRes :=
  let x := s.slot r.slot
  if 4096 ≤ r.slot ∨ x.st = 0 then (s, Hc.badSlot, 0)
  else if !r.may x.parcel then (s, Hc.parcel, 0)
  else if x.st = 3 ∨ s.childSlots r.slot ≠ 0 then (s, Hc.state, 0)
  else
    let s := s.setSlot r.slot { x with st := 3, hidden := none }
    (if x.persist then s.commitLater 1 r.slot .tombstone else s, Hc.ok, 0)

/-- ATTR_SET (R234). -/
def State.attrSet (s : State) (r : HReq) : HRes :=
  match s.slotCheck r r.slot 0 with
  | 0 =>
    if r.arg % 2 = 0 then (s, Hc.ok, 0)
    else match (s.setSlot r.slot { s.slot r.slot with exportable := false }).slotCommit r.slot with
      | (s1, true) => (s1, Hc.ok, 0)
      | (_, false) => (s, Hc.storeRo, 0)
  | c => (s, c, 0)

/-! ## Handoffs and MKA (R241, R242, R507) -/

/-- A SAK placed in a free handoff entry: its number, or none. -/
def State.placeHand (s : State) (m : KeyMat) (p : Nat) : Option (State × Nat) :=
  match (List.range 64).find? (fun i => (tabGet {} s.hrt.hands i).held.isNone) with
  | none => none
  | some i =>
    let e := tabGet {} s.hrt.hands i
    let h : Handoff := { seq := e.next, mat := m, parcel := p, made := s.cyc }
    let s := { s with hrt := { s.hrt with hands := tabSet {} s.hrt.hands i ⟨(e.next + 1) % 1024, some h⟩ } }
    some (s.setFld F.HRT_HANDOFF_IN_USE s.handsUsed, 64 * e.next + i)

/-- An operation that ends in a handoff. -/
def State.giveHand (s back : State) (m : KeyMat) (p : Nat) : HRes :=
  match s.placeHand m p with
  | some (s, n) => (s, Hc.ok, n)
  | none => (back, Hc.noRoom, 0)

def State.sakUnwrap (s : State) (r : HReq) : HRes :=
  match s.openBlob r 1 6 with
  | (0, p) =>
    let b : Blob := ⟨s.hrtBytes⟩
    let n := slotKeyLen (leAt p 0 1)
    let m : KeyMat :=
      { sak := slice p 16 n, salt := if leAt p 3 1 = 1 then some (slice p (16 + n) 12) else none
        slot := if b.mode = 1 then none else some b.wrapSlot
        slotGen := if b.mode = 1 then 0 else (s.slot b.wrapSlot).gen }
    match s.placeHand m b.parcel with
    | none => (s, Hc.noRoom, 0)
    | some (s1, h) => match s1.acceptSeq b with
      | (s1, true) => (s1, Hc.ok, h)
      | (_, false) => (s, Hc.storeRo, 0)
  | (c, _) => (s, c, 0)

def State.sakFromSlot (s : State) (r : HReq) : HRes :=
  let x := s.slot r.slot
  match s.slotCheck r r.slot 4 with
  | 0 =>
    if 2 ≤ x.typ then (s, Hc.usage, 0)
    else s.giveHand s { sak := x.key, salt := if r.arg % 2 = 1 then some (s.hrtBytes.take 12) else none,
                        slot := some r.slot, slotGen := x.gen } x.parcel
  | c => (s, c, 0)

/-- The checks of an MKA command: a LOADED CAK slot, with DATAPATH for the SAK operations (R235). -/
def State.cakCheck (s : State) (r : HReq) (bits : Nat) : Nat :=
  match s.slotCheck r r.slot bits with
  | 0 => if (s.slot r.slot).typ < 3 then Hc.usage else Hc.ok
  | c => c

def State.mkaKdf (s : State) (r : HReq) : HRes :=
  let x := s.slot r.slot
  match s.cakCheck r 0 with
  | 0 => (s.setSlot r.slot { x with hidden := some ((Config.mkaIck x.key x.ckn).take (slotKeyLen x.typ),
                                                     (Config.mkaKek x.key x.ckn).take (slotKeyLen x.typ)) }, Hc.ok, 0)
  | c => (s, c, 0)

/-- MKA_ICV (R242): the ICV of the first `length` bytes of HRT_DATA, placed at its start, or checked against the 16
bytes that follow them (their places are log entry 23). -/
def State.mkaIcv (s : State) (r : HReq) : HRes :=
  let n := r.arg % 65536
  let w := s.hrtBytes
  match s.cakCheck r 0 with
  | 0 => match (s.slot r.slot).hidden with
    | none => (s, Hc.state, 0)
    | some (ick, _) =>
      if 2032 < n then (s, Hc.format, 0)
      else
        let icv := leBytes 16 (Config.aesCmac ick (w.take n))
        if r.arg / 65536 % 2 = 1 then (if slice w n 16 = icv then (s, Hc.ok, 0) else (s, Hc.auth, 0))
        else (s.hrtPut icv, Hc.ok, 0)
  | c => (s, c, 0)

/-- MKA_SAK_WRAP (R242): the SAK is as long as the CAK (log entry 23). -/
def State.mkaSakWrap (s : State) (r : HReq) : HRes :=
  let x := s.slot r.slot
  match s.cakCheck r 4 with
  | 0 => match x.hidden with
    | none => (s, Hc.state, 0)
    | some (_, kek) =>
      if !s.flag F.HRT_STATUS_TRNG_OK then (s, Hc.entropy, 0)
      else
        let sak := leBytes (slotKeyLen x.typ) s.randomVal
        let m : KeyMat := { sak := sak, salt := if r.arg % 2 = 1 then some (Config.mkaSalt (s.hrtBytes.take 16)) else none,
                            slot := some r.slot, slotGen := x.gen }
        match s.drew.placeHand m x.parcel with
        | none => (s, Hc.noRoom, 0)
        | some (s1, h) => (s1.hrtPut (Config.keyWrap 1 kek sak), Hc.ok, h)
  | c => (s, c, 0)

/-- MKA_SAK_UNWRAP (R242): member identifier and key number in bytes 0 to 15 of HRT_DATA, the wrapped SAK after them
(log entry 23). -/
def State.mkaSakUnwrap (s : State) (r : HReq) : HRes :=
  let x := s.slot r.slot
  let w := s.hrtBytes
  match s.cakCheck r 4 with
  | 0 => match x.hidden with
    | none => (s, Hc.state, 0)
    | some (_, kek) => match Config.keyUnwrap 1 kek (slice w 16 (slotKeyLen x.typ + 8)) with
      | none => (s, Hc.auth, 0)
      | some sak =>
        s.giveHand s { sak := sak, salt := if r.arg % 2 = 1 then some (Config.mkaSalt (w.take 16)) else none,
                       slot := some r.slot, slotGen := x.gen } x.parcel
  | c => (s, c, 0)

/-- MAC_GEN, MAC_VERIFY and SIGN, by ARG[17:16] (R235, R260): the message is the first `length` bytes of HRT_DATA; a MAC
or signature is placed at the start, a MAC to verify follows the message (log entry 23). -/
def State.macOp (s : State) (r : HReq) (mode : Nat) : HRes :=
  let x := s.slot r.slot
  let n := r.arg % 65536
  let w := s.hrtBytes
  match s.slotCheck r r.slot 8 with
  | 0 =>
    if (if mode = 1 then 2032 else 2048) < n ∨ 2 < mode then (s, Hc.format, 0)
    else if mode = 2 then
      if x.typ ≠ 2 then (s, Hc.usage, 0) else (s.hrtPut (Config.ecdsaSign x.key (Config.sha384 (w.take n))), Hc.ok, 0)
    else if 2 ≤ x.typ then (s, Hc.usage, 0)
    else
      let mac := leBytes 16 (Config.aesCmac x.key (w.take n))
      if mode = 0 then (s.hrtPut mac, Hc.ok, 0)
      else if slice w n 16 = mac then (s, Hc.ok, 0) else (s, Hc.auth, 0)
  | c => (s, c, 0)

def State.handoffDrop (s : State) (r : HReq) : HRes :=
  let h := r.arg % 65536
  match s.handoff h with
  | none => (s, Hc.noKey, 0)
  | some x => if r.may x.parcel then (s.dropHand (h % 64), Hc.ok, 0) else (s, Hc.parcel, 0)

def State.importPubkey (s : State) (r : HReq) : HRes :=
  let p := r.arg % 64
  if !r.may p then (s, Hc.parcel, 0)
  else match s.importSeed p with
    | none => (s, Hc.state, 0)
    | some seed => (s.hrtPut (Config.importPub seed), Hc.ok, 0)

/-! ## Quench (R254 to R256) -/

/-- Slots that meet `p` zeroized: RETIRING until the scope is read back; persistent records erased. -/
def State.quenchSlots (s : State) (p : Slot → Bool) : State :=
  (s.hrt.slots.filter fun e => (s.slot e.1).st != 0 && p (s.slot e.1)).foldl (fun s e =>
    let x := s.slot e.1
    let s := s.setSlot e.1 { x with st := 3, key := [], hidden := none }
    if x.persist then s.commitLater 1 e.1 .tombstone else s) s

/-- Handoffs that meet `p` zeroized. -/
def State.quenchHands (s : State) (p : Handoff → Bool) : State :=
  (List.range 64).foldl (fun s i => match (tabGet {} s.hrt.hands i).held with
    | some h => if p h then s.dropHand i else s
    | none => s) s

/-- Association key entries that meet `p` zeroized: those associations become UNUSABLE (R96). -/
def State.quenchSas (s : State) (p : Nat → Bool) : State :=
  let s := { s with sec := { s.sec with unusable := 0 } }
  (s.sec.ctxs.filter fun e => e.2.st != .empty && p (s.saParcel e.1)).foldl (fun s e => s.toUnusable e.1 true) s

/-- The retire store and the keys that heats hold, zeroized (R254 ERASE). -/
def State.quenchHeats (s : State) : State :=
  ({ s with
      sec := { s.sec with retired := [], ddrLost := true }
      frames := tabMapKeep (fun _ => none) (fun _ f => f.map fun (f : Frm) => { f with key := none }) s.frames }).secSync.setFld
    F.TMP_STATUS_KEYS_VALID 0

/-- A scope of Quench started: what it zeroizes stops being used at once; PURGE widens an ERASE that runs (R412). -/
def State.quenchStart (s : State) (scope p : Nat) (cmd : Bool) : State :=
  let s := match scope with
    | 3 =>
      let s := ((s.quenchSlots fun x => x.parcel == p).quenchHands fun h => h.parcel == p).quenchSas (· == p)
      { s with hrt := { s.hrt with rootGone := s.hrt.rootGone ||| (1#64 <<< p) } }
    | 4 =>
      let s := ((s.quenchSlots fun x => x.uses 4).quenchHands fun _ => true).quenchSas (fun _ => true)
      let s := s.quenchHeats
      { s with hrt := { s.hrt with closed := true } }
    | _ =>
      let s := s.evFlush
      let s := ((s.quenchSlots fun _ => true).quenchHands fun _ => true).quenchSas (fun _ => true)
      let s := s.quenchHeats
      let s := { s with hrt := { s.hrt with
        closed := true, purged := true, kek := none, retire := [], listed := []
        commits := s.hrt.commits.filter (fun c => decide (3 ≤ c.area))
        store := tabMapKeep (fun _ => {}) (fun k (e : RecSlot) => if k < 3 * 4096 then { e with copy := none } else e) s.hrt.store } }
      (s.setFld F.HRT_STATUS_HUK_OK 0).resetDomains (fun d => d == Dom.battery)
  let s := s.slotSync
  let wide (q : Quench) : Bool := scope == 5 && q.scope == 4
  let run := s.hrt.quench.filter fun q => !wide q
  let cmd := cmd || s.hrt.quench.any fun q => wide q && q.cmd
  ({ s with hrt := { s.hrt with quench := run ++ [Quench.mk scope p s.cyc cmd] } }).setFld F.HRT_QUENCH_BUSY 1

/-- The first computation of a doubled decision, and the delay to the second (R414). -/
def State.decide_ (s : State) (scope p : Nat) (cmd : Bool) (source : Nat) : State :=
  let d : Dec := { scope := scope, parcel := p, cmd := cmd, source := source, start := s.cyc, delay := 16 + s.randomVal % 240 }
  ({ s with env := { s.env with decs := s.env.decs ++ [d] } }).drew

/-- A QUENCH command of scope PARCEL, ERASE or PURGE; a VF may name its own parcel only, and the device-wide scopes come
from parcel 0 or firmware (R236; log entry 24). -/
def State.quenchCmd (s : State) (r : HReq) (scope : Nat) : HRes :=
  let p := r.arg % 64
  if (scope = 3 ∧ !r.may p) ∨ (scope ≠ 3 ∧ !r.may 0) then (s, Hc.parcel, 0)
  else (s.decide_ scope p true 0, Hc.busy, 0)

/-! ## Commands through HRT_CMD or a ring (R260, R261, R335) -/

/-- Key commands are served: HUK good, not RETIRED, not purged (R231, R232, R254). -/
def State.hrtServes (s : State) : Bool := s.flag F.HRT_STATUS_HUK_OK && !s.otp.retired && !s.hrt.purged

/-- A Hearth command by its OP; for OP 0x0F and 0x12 the row fixes the ARG field that selects it (`sel`). -/
def State.hrtOp (s : State) (op sel : Nat) (r : HReq) : HRes :=
  if !s.hrtServes then (s, Hc.state, 0) else
  match op with
  | 0x01 =>
    if !(r.may (s.slot r.slot).parcel || (s.slot r.slot).st == 0) then (s, Hc.parcel, 0)
    else (s.setWords hrtWin (s.slotWords r.slot), Hc.ok, (s.slot r.slot).gen)
  | 0x02 => s.slotImport r
  | 0x03 => s.slotGenerate r
  | 0x04 => s.slotDerive r
  | 0x05 => s.slotExport r
  | 0x06 => s.slotRevoke r
  | 0x07 => s.slotDelete r
  | 0x08 => s.attrSet r
  | 0x09 => s.sakUnwrap r
  | 0x0A => s.sakFromSlot r
  | 0x0B => s.mkaKdf r
  | 0x0C => s.mkaIcv r
  | 0x0D => s.mkaSakWrap r
  | 0x0E => s.mkaSakUnwrap r
  | 0x0F => s.macOp r sel
  | 0x10 => s.handoffDrop r
  | 0x11 => s.importPubkey r
  | 0x12 => if sel = 2 then s.slotDelete r else s.quenchCmd r sel
  | _ => (s, Hc.badOp, 0)

/-- The parcel a refusal is counted under: the blob's for a blob refused, else the tag's. -/
def State.hrtParcel (s : State) (r : HReq) : Nat :=
  let p := (Blob.mk s.hrtBytes).parcel
  if p < 64 then p else r.tag.getD 0

/-- Event 0x350: a Hearth command refused or overrun. -/
def State.hrtRefused (s : State) (op slot code : Nat) : State :=
  s.hrtEvent { num := 0x350, scope := slot, arg := op + 256 * code } slot

/-- A slot as it travels to the standby (R390). -/
def State.tieSlot (s : State) (x : Slot) : State × List Byte :=
  s.tieWrap 0 (leBytes 1 x.typ ++ leBytes 1 (x.usage + 16 * b2n x.exportable + 32 * b2n x.persist) ++ zeros 1 ++ leBytes 1 x.ckn.length)
    (x.key ++ x.ckn)

/-- A change of the slots that has been accepted goes to the standby; a key that was made here goes as a blob (R391). -/
def State.hrtMirror (s : State) (op sel : Nat) (r : HReq) : State :=
  let idx := r.slot + 4096 * (match r.tag with | some t => t + 1 | none => 0)
  if (op = 3 ∨ op = 4) ∧ s.fld F.TIE_STATUS_ROLE = 2 then
    let x := s.tieSlot (s.slot r.slot)
    x.1.tieMirror (0x1A00 + op) idx r.arg (leBytes 1 (s.slot r.slot).parcel ++ x.2)
  else if [2, 6, 7, 8].contains op ∨ (op = 0x12 ∧ sel ≤ 3) then s.tieMirror (0x1A00 + op) idx r.arg s.hrtBytes
  else s

/-- The outcome in STATUS, RESULT, BUSY and the events of R261. -/
def State.hrtDone (x : HRes) (op sel : Nat) (r : HReq) : State :=
  let (s, code, result) := x
  if code = Hc.busy then (s.setFld F.HRT_CMD_BUSY 1).hrtMirror op sel r
  else
    let s := (s.setFld F.HRT_CMD_BUSY 0).setFld F.HRT_CMD_STATUS code
    if code = Hc.ok then (s.setFld F.HRT_CMD_RESULT result).hrtMirror op sel r
    else if code = Hc.auth then
      let p := s.hrtParcel r
      (s.hrtErr 0x343 r.slot).dropDev 0x343 p (some p) (C.HRT_UNWRAP_FAIL p)
    else if code = Hc.replayed then
      let p := s.hrtParcel r
      (s.hrtErr 0x344 r.slot).dropDev 0x344 p (some p) (C.HRT_REPLAY p)
    else s.hrtRefused op r.slot code

def hrtClass (op : Nat) : Cls :=
  if op = 1 ∨ op = 0x11 then .observe
  else if [2, 3, 4, 5, 6, 7, 8, 0x12].contains op then .secure else .operate

/-- A Hearth command by descriptor: none while it stays BUSY. -/
def State.hrtRun (op sel : Nat) (d : Desc) (s : State) (b : List Byte) : Option (State × Nat × Nat) :=
  if s.flag F.HRT_CMD_BUSY then none
  else
    let r : HReq := { slot := blkIndex b, arg := blkArg b, tag := some d.fn.val }
    let x := s.hrtOp op sel r
    if x.2.1 = Hc.busy then none else some (State.hrtDone x op sel r, x.2.1, x.2.2)

/-- A Hearth command by descriptor that starts a Quench scope: BUSY from then on, its response at QUENCH_COMPLETE. -/
def State.hrtStart (op sel : Nat) (d : Desc) (s : State) (b : List Byte) : State :=
  let r : HReq := { slot := blkIndex b, arg := blkArg b, tag := some d.fn.val }
  if s.flag F.HRT_CMD_BUSY then s else State.hrtDone (s.hrtOp op sel r) op sel r

/-- A Hearth command however it arrives. -/
def hrtCmd (op sel : Nat) (v : Via) (s : State) : State :=
  match v with
  | .reg w word =>
    cmdReg F.HRT_CMD_OP F.HRT_CMD_BUSY (fun s => s.hrtRefused op (bitsOf word 0 12) 0) w word
      (fun s =>
        let r : HReq := { slot := s.fld F.HRT_CMD_SLOT, arg := s.fld F.HRT_CMD_ARG, tag := none }
        State.hrtDone (s.hrtOp op sel r) op sel r) s
  | .ring d =>
    ringCmd d
      { opcode := 0x1A00 + op, cls := hrtClass op, payMax := 16 + 2048,
        payOk := fun b => decide (16 ≤ b.length) && decide (leAt b 8 2 ≤ 512) && decide (b.length = 16 + 4 * leAt b 8 2) &&
          leAt b 10 6 == 0,
        rspSize := fun _ => 16 + 2048 }
      (fun s b =>
        let s := if s.flag F.HRT_CMD_BUSY then s else s.setWords hrtWin (blkWords b)
        match State.hrtRun op sel d s b with
        | some x => blkRes hrtWin 512 x
        | none => { st := State.hrtStart op sel d s b, wait := true }) s

/-- An MKA command, for firmware only: from a ring it is refused with CLASS_DENIED (R335). -/
def mkaCmd (op : Nat) (v : Via) (s : State) : State :=
  match v with
  | .reg _ _ => hrtCmd op 0 v s
  | .ring d => ringCmd d { opcode := 0x1A00 + op, cls := .operate, payMax := 16 + 2048 }
      (fun s _ => { st := s, status := St.classDenied }) s

/-- Ring commands that waited while HRT_CMD was BUSY: performed in turn until one stays BUSY (R332). -/
def State.hrtResume (s : State) : State :=
  (s.waits.filter fun w => w.opcode / 256 == 0x1A).foldl (fun s w =>
    if s.flag F.HRT_CMD_BUSY then s else
    let b := descBody w.d
    let s := s.setWords hrtWin (blkWords b)
    let op := w.opcode % 256
    let sel := if op = 0x12 then blkArg b / 2 ^ 29 else blkArg b / 65536 % 4
    match State.hrtRun op sel w.d s b with
    | some x => x.1.finishWait w (fun s => blkRes hrtWin 512 (s, x.2)) (16 + 2048)
    | none => State.hrtStart op sel w.d s b) s

/-- QUENCH_COMPLETE (R255): material awaiting zeroization goes, RETIRING slots return to EMPTY, and the oldest running
scope is read back: event 0x34B, or event 0x34C, FAIL and HOLD where a second read fails. -/
def execQuenchComplete (good : Bool) (s : State) : Out :=
  let s := s.sweepRetired
  let s := (s.hrt.slots.filter fun e => (s.slot e.1).st == 3).foldl (fun s e =>
    ((s.setSlot e.1 {}).slotUse (s.slot e.1).parcel).quenched 2) s
  let s := if s.hrt.retire = [] then s
    else (({ s with hrt := { s.hrt with retire := [] } }).slotSync).quenched 2
  let s := s.secResume
  match s.hrt.quench with
  | [] => .next s.hrtResume.evSync
  | q :: rest =>
    let s := { s with hrt := { s.hrt with quench := rest } }
    let t := s.elapsed q.since / 15
    let s := (s.setFld F.HRT_QUENCH_LAST_SCOPE q.scope).setFld F.HRT_QUENCH_LAST_TIME (min t 65535)
    let s := if rest = [] then s.setFld F.HRT_QUENCH_BUSY 0 else s
    let s := s.hrtEvent { num := 0x34B, scope := q.scope, arg := t, parcel := if q.scope = 3 then some q.parcel else none } 0
    let s := if good then s
      else
        let s := ((s.setFld F.HRT_QUENCH_FAIL 1).hrtErr 0x34C 0).noteFault 5
        (s.raiseSec { num := 0x34C, scope := q.scope, arg := q.parcel, alarm := true } (leBytes 1 q.scope ++ leBytes 1 q.parcel)).request
          2 0x34C q.scope
    if q.cmd && !s.flag F.HRT_STATUS_LOCKSTEP_FAULT then
      let s := (s.setFld F.HRT_CMD_BUSY 0).setFld F.HRT_CMD_STATUS Hc.ok
      match s.waits.find? (fun w => w.opcode == 0x1A12) with
      | some w => .next (s.finishWait w (fun s => blkRes hrtWin 512 (s, 0, 0)) (16 + 2048)).hrtResume.evSync
      | none => .next s.hrtResume.evSync
    else .next s.hrtResume.evSync

def execSlotAttr (v : Via) (s : State) : Out := .next (hrtCmd 0x01 0 v s)
def execSlotImport (v : Via) (s : State) : Out := .next (hrtCmd 0x02 0 v s)
def execSlotGenerate (v : Via) (s : State) : Out := .next (hrtCmd 0x03 0 v s)
def execSlotDerive (v : Via) (s : State) : Out := .next (hrtCmd 0x04 0 v s)
def execSlotExport (v : Via) (s : State) : Out := .next (hrtCmd 0x05 0 v s)
def execSlotRevoke (v : Via) (s : State) : Out := .next (hrtCmd 0x06 0 v s)
def execSlotDelete (v : Via) (s : State) : Out := .next (hrtCmd 0x07 0 v s)
def execAttrSet (v : Via) (s : State) : Out := .next (hrtCmd 0x08 0 v s)
def execSakUnwrap (v : Via) (s : State) : Out := .next (hrtCmd 0x09 0 v s)
def execSakFromSlot (v : Via) (s : State) : Out := .next (hrtCmd 0x0A 0 v s)
def execMkaKdf (v : Via) (s : State) : Out := .next (mkaCmd 0x0B v s)
def execMkaIcv (v : Via) (s : State) : Out := .next (mkaCmd 0x0C v s)
def execMkaSakWrap (v : Via) (s : State) : Out := .next (mkaCmd 0x0D v s)
def execMkaSakUnwrap (v : Via) (s : State) : Out := .next (mkaCmd 0x0E v s)
def execMacGen (v : Via) (s : State) : Out := .next (hrtCmd 0x0F 0 v s)
def execMacVerify (v : Via) (s : State) : Out := .next (hrtCmd 0x0F 1 v s)
def execHrtSign (v : Via) (s : State) : Out := .next (hrtCmd 0x0F 2 v s)
def execHandoffDrop (v : Via) (s : State) : Out := .next (hrtCmd 0x10 0 v s)
def execImportPubkey (v : Via) (s : State) : Out := .next (hrtCmd 0x11 0 v s)
def execQuenchSlot (v : Via) (s : State) : Out := .next (hrtCmd 0x12 2 v s)
def execQuenchParcel (v : Via) (s : State) : Out := .next (hrtCmd 0x12 3 v s)
def execQuenchErase (v : Via) (s : State) : Out := .next (hrtCmd 0x12 4 v s)
def execQuenchPurge (v : Via) (s : State) : Out := .next (hrtCmd 0x12 5 v s)

/-! ## Expiry, randomness, lockstep -/

/-- HANDOFF_EXPIRY (R241): entry `e`, unused for 1 s. -/
def execHandoffExpiry (e : BitVec 6) (s : State) : Out :=
  match (tabGet {} s.hrt.hands e.toNat).held with
  | none => .next s
  | some h =>
    if s.passed h.made cycS then
      .next (((s.dropHand e.toNat).hrtErr 0x34D (h.mat.slot.getD 0)).dropDev 0x34D 0 none C.HRT_HANDOFF_EXP)
    else .next s

/-- RANDOM_READ (R257): HRT_RANDOM shows 32 DRBG bits to the secure world, or zero with TRNG_OK = 0. -/
def execRandomRead (w : World) (s : State) : Out :=
  if !w.isSecure then .next (s.secureRefused F.HRT_RANDOM.addr w)
  else if s.flag F.HRT_STATUS_TRNG_OK then
    let s := (s.setFld F.HRT_RANDOM s.randomVal).drew
    .next { s with hrt := { s.hrt with draws := s.hrt.draws + 1 } }
  else .next (s.setFld F.HRT_RANDOM 0)

/-- TRNG_HEALTH_FAIL (R257). -/
def execTrngHealthFail (s : State) : Out :=
  let s := (s.setFld F.HRT_STATUS_TRNG_OK 0).bump C.HRT_TRNG_FAIL
  .next (({ s with hrt := { s.hrt with passes := 0 } }).hrtEvent { num := 0x341 } 0)

/-- TRNG_RECOVER (R257): a run of `n` consecutive passing samples more; serving resumes at 1,024. -/
def execTrngRecover (n : BitVec 16) (s : State) : Out :=
  let p := s.hrt.passes + n.toNat
  let s := { s with hrt := { s.hrt with passes := p } }
  .next (if 1024 ≤ p then s.setFld F.HRT_STATUS_TRNG_OK 1 else s)

/-- DRBG_RESEED (R257): after 1 s or 2^20 requests, while the TRNG is good. -/
def execDrbgReseed (s : State) : Out :=
  if s.flag F.HRT_STATUS_TRNG_OK && (s.passed s.hrt.reseed cycS || decide (2 ^ 20 ≤ s.hrt.draws)) then
    .next ({ s with hrt := { s.hrt with draws := 0, reseed := s.cyc } }).drew
  else .next s

/-- LOCKSTEP_DIVERGENCE (R258): Hearth stops, HOLD is applied, and its commands stay BUSY. -/
def execLockstepDivergence (s : State) : Out :=
  let s := ((s.setFld F.HRT_STATUS_LOCKSTEP_FAULT 1).setFld F.HRT_CMD_BUSY 1).noteFault 4
  .next ((s.hrtEvent { num := 0x34F, alarm := true } 0).request 2 0x34F 0)

end Sys2Proof.Machine
end

