-- ==== Sys2Proof/Machine/Bellows.lean ====
section
/-! DEFINITION. Machine/Bellows.lean: queues, the buffer, the enqueue test, the two schedulers, shapers, policers, samples and
queue commands (spec/07_bellows_scheduler.md). -/

namespace Sys2Proof.Machine

/-! ## Frames in the device -/

def State.frame (s : State) (i : Nat) : Option Frm := tabGet none s.frames i
def State.setFrame (s : State) (i : Nat) (f : Frm) : State := { s with frames := tabSet none s.frames i (some f) }
def State.dropFrame (s : State) (i : Nat) : State := { s with frames := tabSet none s.frames i none }

/-- The frames that meet `p`, with their numbers, in order of arrival. -/
def State.framesOf (s : State) (p : Frm → Bool) : List (Nat × Frm) :=
  s.frames.filterMap fun e => match e.2 with | some f => if p f then some (e.1, f) else none | none => none

/-! ## Queues and the pool (R165 to R168) -/

def State.queue (s : State) (q : Nat) : Queue := tabGet {} s.blw.queues q
def State.setQueue (s : State) (q : Nat) (x : Queue) : State := { s with blw := { s.blw with queues := tabSet {} s.blw.queues q x } }

def queueIdx (port cls parcel : Nat) : Nat := port * 512 + cls * 64 + parcel

/-- The control port's queue. -/
def ctlQueue : Nat := 32768

/-- Cells of a length (R166). -/
def cellsOf (l : Nat) : Nat := (l + 127) / 128

/-- XRES_CELLS; above 65,536 taken as 65,536. -/
def State.xres (s : State) : Nat := min 65536 (s.fld F.BLW_POOL_XRES_CELLS)

/-- Free cells at or under XRES_CELLS: event 0x28B at each fall to it (R168). -/
def State.poolLevel (s : State) : State :=
  let low := decide (s.fld F.BLW_STATUS_FREE_CELLS ≤ s.xres)
  let s' := { s with blw := { s.blw with low := low } }
  if low && !s.blw.low then s'.raise39 0x28B 0 none .none else s'

/-- `n` cells and one frame charged to a queue and its parcel. -/
def State.charge (s : State) (q p n : Nat) : State :=
  let x := s.queue q
  let s := s.setQueue q { x with depth := x.depth + n, frames := x.frames + 1 }
  let s := s.setFld (F.BLW_PARCEL_OCC_CELLS p) (s.fld (F.BLW_PARCEL_OCC_CELLS p) + n)
  (s.setFld F.BLW_STATUS_FREE_CELLS (s.fld F.BLW_STATUS_FREE_CELLS - n)).poolLevel

/-- A frame's charge changed from `old` to `new` cells. -/
def State.recharge (s : State) (q p old new : Nat) : State :=
  let x := s.queue q
  let s := s.setQueue q { x with depth := x.depth + new - old }
  let s := s.setFld (F.BLW_PARCEL_OCC_CELLS p) (s.fld (F.BLW_PARCEL_OCC_CELLS p) + new - old)
  (s.setFld F.BLW_STATUS_FREE_CELLS (s.fld F.BLW_STATUS_FREE_CELLS + old - new)).poolLevel

/-- A frame's cells returned. -/
def State.uncharge (s : State) (q p n : Nat) : State :=
  let x := s.queue q
  let s := s.setQueue q { x with depth := x.depth - n, frames := x.frames - 1 }
  let s := s.setFld (F.BLW_PARCEL_OCC_CELLS p) (s.fld (F.BLW_PARCEL_OCC_CELLS p) - n)
  (s.setFld F.BLW_STATUS_FREE_CELLS (s.fld F.BLW_STATUS_FREE_CELLS + n)).poolLevel

/-- Cells held for admitted frames that are not enqueued: in all, in a queue, in a parcel (R168). -/
def State.heldCells (s : State) (p : Frm → Bool) : Nat :=
  (s.framesOf fun f => f.held != 0 && p f).foldl (fun n e => n + e.2.held) 0

/-- The enqueue test of R167 fails for `need` cells. -/
def State.enqFails (s : State) (q p need : Nat) (dei prio : Bool) : Bool :=
  let x := s.queue q
  let depth := x.depth + s.heldCells fun f => queueIdx f.outPort f.cls f.parcel == q
  let occ := s.fld (F.BLW_PARCEL_OCC_CELLS p) + s.heldCells fun f => f.parcel == p
  let free := s.fld F.BLW_STATUS_FREE_CELLS - s.heldCells fun _ => true
  let de := min 100 (s.fld (F.BLW_PARCEL_CFG_DE_PCT p))
  (decide (0 < de) && dei && decide (x.limit * de < (depth + need) * 100)) || decide (x.limit < depth + need) ||
  decide (s.fld (F.BLW_PARCEL_CFG_BUF_QUOTA p) < occ + need) || (decide (free < s.xres + need) && !prio) || decide (free < need)

/-- Cells a frame is charged at its first byte: exact where stored, else those of its class's maximum (R166). -/
def State.needCells (s : State) (f : Frm) : Nat :=
  if f.stored || f.last then cellsOf f.lOut else cellsOf (s.clsMax f.outPort f.cls)

/-- A frame's first byte reaches Bellows: enqueued and charged, or tail-dropped (R167); an admitted express frame takes the
cells held for it. -/
def State.enqueue (s : State) (i : Nat) (f : Frm) : State :=
  let q := queueIdx f.outPort f.cls f.parcel
  let need := s.needCells f
  if f.held = 0 ∧ s.enqFails q f.parcel need f.dei (f.express || f.cmd) then
    s.setFrame i { f with first := true, tailDrop := true, queue := some q, held := 0 }
  else
    let ahead := (s.queue q).depth
    let s := { s with nextEnq := s.nextEnq + 1 }
    (s.setFrame i { f with first := true, queue := some q, cells := need, ahead := ahead, enqDat := s.datumNs
                           enqSeq := s.nextEnq, held := 0 }).charge q f.parcel need

/-- A queued frame that will not be sent leaves its queue and returns its cells. -/
def State.unqueue (s : State) (f : Frm) : State :=
  match f.queue with
  | some q => if f.tailDrop || f.cells == 0 then s else s.uncharge q f.parcel f.cells
  | none => s

/-! ## Policers (R176) -/

def State.policeIdx (p : Nat) (line : Bool) : Nat := 2 * p + b2n line

/-- The policer stops a frame. -/
def State.policeStops (s : State) (p : Nat) (line : Bool) : Bool :=
  s.flag (F.BLW_POLICE_W0_EN (State.policeIdx p line)) &&
  decide ((tabGet {} s.blw.police (State.policeIdx p line)).credit < 65536)

def State.policeTake (s : State) (p : Nat) (line : Bool) : State :=
  { s with blw := { s.blw with police := tabMod {} s.blw.police (State.policeIdx p line) fun b => { b with credit := b.credit - 65536 } } }

/-- POLICER_REFILL (R176): 0.001024 × RATE frames are 67,108,864 × RATE / 1,000,000 units of 1/65,536 frame. -/
def execPolicerRefill (s : State) : Out :=
  if s.passed s.polAt 1536 then
    .next ((List.range 128).foldl (fun s i =>
      let gain := fun (b : Bucket) =>
        b.gain (67108864 * s.fld (F.BLW_POLICE_W0_RATE_KFPS i)) 1000000 (65536 * s.fld (F.BLW_POLICE_W1_BURST i))
      { s with blw := { s.blw with police := tabMod {} s.blw.police i gain } })
      { s with polAt := s.polAt + 1536 })
  else .next s

/-- A policer register written: the bucket is full. -/
def State.policerWrite (s : State) (w : World) (i word : Nat) (v : Word) : State :=
  let a := (F.BLW_POLICE_W0_EN i).addr + 4 * word
  let s := (s.writeReg w a v).mirrorReg a v
  { s with blw := { s.blw with police := tabSet {} s.blw.police i { credit := 65536 * s.fld (F.BLW_POLICE_W1_BURST i) } } }

/-- POLICER_WRITE (R176): a write of word 0 or 1 of a parcel's policer. -/
def execPolicerWrite (w : World) (p : Fin 64) (line second : Bool) (v : Word) (s : State) : Out :=
  let i := State.policeIdx p.val line
  .next (secureOnly w (F.BLW_POLICE_W0_EN i).addr (fun s => s.policerWrite w i (b2n second) v) s)

/-! ## Shapers (R175) -/

/-- The class is under gate control at the port (R184). -/
def State.gatedNow (s : State) (n c : Nat) : Bool :=
  s.clsGated n c && s.fld (F.GAT_PORT_STATUS_LIST_STATE n) != 0

/-- The vector in force opens the class's gate, or it is not under gate control. -/
def State.openNow (s : State) (n c : Nat) : Bool :=
  s.clearOfSwap n s.cycNs 0 && (!s.gatedNow n c || bitSet (s.fld (F.GAT_PORT_STATUS_GATES n)) c)

/-- A queue's credit one core cycle on. -/
def State.shapeOne (s : State) (q : Nat) (x : Queue) : Queue :=
  let n := q / 512
  let c := q / 64 % 8
  let up : Rat := (x.slope : Rat) / 8000 * 2 / 3
  let sending := !(s.framesOf fun f => f.sending && !f.preempted && f.queue == some q).isEmpty
  if sending then { x with credit := max (-(x.lo : Rat)) (x.credit + up - (s.rate n : Rat) / 8 * 2 / 3) }
  else if !s.openNow n c then x
  else if x.frames ≠ 0 then { x with credit := min (x.hi : Rat) (x.credit + up) }
  else if 0 < x.credit then { x with credit := 0 }
  else { x with credit := min 0 (x.credit + up) }

/-- Every shaped queue's credit one core cycle on. -/
def State.shapeTick (s : State) : State :=
  { s with blw := { s.blw with queues := tabMapKeep (fun _ => ({} : Queue)) (fun q x => if x.shape then s.shapeOne q x else x) s.blw.queues } }

/-! ## Choosing the next frame (R169 to R173) -/

/-- The head of a queue among frames not on the wire. -/
def State.headOf (s : State) (q : Nat) : Option (Nat × Frm) :=
  (s.framesOf fun f => f.queue == some q && f.first && !f.tailDrop && !f.sending).foldl
    (fun a e => match a with | some b => if e.2.enqSeq < b.2.enqSeq then some e else some b | none => some e) none

/-- A queue is eligible at a decision; a closed port sends control-port and bypass frames only (R455, R480). -/
def State.eligible (s : State) (q : Nat) : Bool :=
  let n := q / 512
  let x := s.queue q
  match s.headOf q with
  | none => false
  | some (_, f) =>
    (s.flag (F.PRT_PORT_W2_OPEN n) || f.origin || f.bypass) && (!x.shape || decide (0 ≤ x.credit)) &&
    s.clearOfSwap n s.cycNs (s.wholeTime n f.cls (if f.last then some f.lOut else none)) &&
    (!s.gatedNow n f.cls || s.fits n f.cls s.cycNs (s.fitTime n f.cls (if f.last then some f.lOut else none)))

/-- The eligible queues of class `c` at port `n`, in the order their heads reached Bellows. -/
def State.eligibles (s : State) (n c : Nat) : List Nat :=
  let qs := ((s.framesOf fun f => !f.sending && f.first && !f.tailDrop && f.outPort == n && f.cls == c && f.queue.isSome).map
    fun e => (e.2.queue.getD 0)).eraseDups
  qs.filter s.eligible

def State.clsActive (s : State) (n c : Nat) : Bool := !(s.eligibles n c).isEmpty

def State.startTag (s : State) (n c : Nat) : BitVec 48 := tabGet 0 s.blw.tags (8 * n + c)
def State.vtime (s : State) (n : Nat) : BitVec 48 := tabGet 0 s.blw.vtime n

/-- Weight of a class; 0 taken as 1. -/
def State.weight (s : State) (n c : Nat) : Nat :=
  max 1 (s.fld (match c with
    | 0 => F.BLW_WEIGHT_W0 n | 1 => F.BLW_WEIGHT_W0_W1 n | 2 => F.BLW_WEIGHT_W0_W2 n | 3 => F.BLW_WEIGHT_W0_W3 n
    | 4 => F.BLW_WEIGHT_W1_W4 n | 5 => F.BLW_WEIGHT_W1_W5 n | 6 => F.BLW_WEIGHT_W1_W6 n | _ => F.BLW_WEIGHT_W1_W7 n))

/-- Start tags of classes that have become active (R172). -/
def State.wake (s : State) (n : Nat) : State :=
  (List.range 8).foldl (fun s c =>
    if s.clsActive n c && !bitSet (tabGet 0 s.blw.active n) c && !s.gatedNow n c && !s.clsExpress n c then
      let t := s.startTag n c
      let v := s.vtime n
      { s with blw := { s.blw with tags := tabSet 0 s.blw.tags (8 * n + c) (if 0 < (v - t).toInt then v else t) } }
    else s) s

/-- The classes active at a port, as bits. -/
def State.activeBits (s : State) (n : Nat) : Nat :=
  (List.range 8).foldl (fun a c => if s.clsActive n c then a + 2 ^ c else a) 0

/-- The class chosen (R170), from those that `ok` admits. -/
def State.pickClass (s : State) (n : Nat) (ok : Nat → Bool) : Option Nat :=
  let act := ((List.range 8).filter fun c => s.clsActive n c && ok c).reverse
  match act.find? (fun c => s.clsExpress n c) with
  | some c => some c
  | none => match act.find? (fun c => s.gatedNow n c) with
    | some c => some c
    | none => match act with
      | [] => none
      | c :: rest => some (rest.foldl (fun a c => if (s.startTag n c - s.startTag n a).toInt < 0 then c else a) c)

/-- The round of a class brought up to date, its head visited (R173). -/
def State.turn (s : State) (n c : Nat) : State :=
  let k := 8 * n + c
  let el := s.eligibles n c
  let old := tabGet [] s.blw.rounds k
  let gone := old.filter fun q => !el.contains q
  let s := gone.foldl (fun s q => if (s.headOf q).isNone then s.setQueue q { s.queue q with deficit := 0 } else s) s
  let round := (old.filter fun q => el.contains q) ++ el.filter fun q => !old.contains q
  let s := { s with blw := { s.blw with rounds := tabSet [] s.blw.rounds k round } }
  match round with
  | [] => s
  | q :: _ =>
    if tabGet 0 s.blw.visit k = q + 1 then s
    else
      let x := s.queue q
      let s := s.setQueue q { x with deficit := x.deficit + max 1 x.quantum }
      { s with blw := { s.blw with visit := tabSet 0 s.blw.visit k (q + 1) } }

/-- One frame taken from the head queue of a class's round: its number, and the state with tags, DEFICIT and round after
it (R171, R173). -/
def State.takeFrom (s : State) (n c : Nat) : State × Option (Nat × Frm) :=
  let k := 8 * n + c
  let s := s.turn n c
  match tabGet [] s.blw.rounds k with
  | [] => (s, none)
  | q :: rest => match s.headOf q with
    | none => (s, none)
    | some (i, f) =>
      let x := s.queue q
      let more := !(s.framesOf fun g => g.queue == some q && g.first && !g.tailDrop && !g.sending && g.enqSeq != f.enqSeq).isEmpty
      let d := x.deficit - 1
      let s := s.setQueue q { x with deficit := if more then d else 0 }
      let s := if !more then { s with blw := { s.blw with rounds := tabSet [] s.blw.rounds k rest, visit := tabSet 0 s.blw.visit k 0 } }
        else if d = 0 then
          { s with blw := { s.blw with rounds := tabSet [] s.blw.rounds k (rest ++ [q]), visit := tabSet 0 s.blw.visit k 0 } }
        else s
      let s := if s.clsExpress n c || s.gatedNow n c then s
        else
          let t := s.startTag n c
          let step := (256 * (f.lOut + 20) + s.weight n c - 1) / s.weight n c
          { s with blw := { s.blw with vtime := tabSet 0 s.blw.vtime n t
                                       tags := tabSet 0 s.blw.tags k (t + BitVec.ofNat 48 step) } }
      (s, some (i, f))

/-! ## Sampling (R178) -/

/-- One queue's sample: depth, head-of-line delay and maxima. -/
def State.sampleQueue (s : State) (q : Nat) : State :=
  let x := s.queue q
  let head := (s.framesOf fun f => f.queue == some q && f.first && !f.tailDrop && !f.sending).foldl
    (fun (a : Option Frm) e => match a with | some b => if e.2.enqSeq < b.enqSeq then some e.2 else some b | none => some e.2) none
  let hol := match head with | some f => min (2 ^ 32 - 1) (-(s.until_ f.enqDat)).toNat | none => 0
  let s := s.setQueue q { x with hol := hol, sampDepth := x.depth, maxDepth := max x.maxDepth x.depth, maxDelay := max x.maxDelay hol }
  let t := if q < ctlQueue then s.fld (F.BLW_DELAY_THRESH_THRESH_NS (q / 512)) else 0
  if t ≠ 0 ∧ t < hol then s.raise39 0x28A q (some (q % 64)) (.hol q) else s

/-- QUEUE_SAMPLE (R178): another 1.024 µs has passed; every queue is sampled, and feeds its port's depth histogram. -/
def execQueueSample (s : State) : Out :=
  if !s.flag F.BLW_CFG_SAMPLE_EN || !s.passed s.sampAt 1536 then .next s
  else
    let s := { s with sampAt := s.sampAt + 1536 }
    let qs := s.blw.queues.map (·.1)
    let s := qs.foldl State.sampleQueue s
    .next ((List.range 64).foldl (fun s n =>
      let here := qs.filter fun q => q / 512 == n
      let busy := here.filter fun q => (s.queue q).depth != 0
      let s := s.histAdd fun h => { h with depth := tabMod 0 h.depth (20 * n) (· + (512 - busy.length)) }
      busy.foldl (fun s q => s.depthSample n (s.queue q).depth) s) s)

/-! ## Queue commands (R181, R182) -/

namespace Qc
def ok : Nat := 0
def badOp : Nat := 1
def badIndex : Nat := 2
def denied : Nat := 3
end Qc

def blwWin : Nat := (F.BLW_QDATA 0).addr

/-- The 12 words of a queue record. -/
def State.queueWords (s : State) (q : Nat) : List Word :=
  let x := s.queue q
  let drops := (tabGet 0 s.qDrop q).toNat
  [packW [(31, 1, b2n x.shape), (8, 20, x.slope), (0, 8, x.quantum)], packW [(0, 19, x.limit)],
   packW [(16, 16, x.hi), (0, 16, x.lo)], packW [(0, 19, x.depth)], packW [(0, 19, x.frames)],
   packW [(24, 8, x.deficit), (0, 24, toField 24 x.credit.floor)], BitVec.ofNat 32 x.hol, packW [(0, 19, x.maxDepth)],
   BitVec.ofNat 32 x.maxDelay] ++ words64 drops ++ [0]

/-- Q_WRITE's configuration (R177): DEFICIT and credit clipped to the new bounds. -/
def Queue.configured (x : Queue) (w0 w1 w2 : Word) : Queue :=
  let quantum := bitsOf w0 0 8
  let hi := bitsOf w2 16 16
  let lo := bitsOf w2 0 16
  { x with shape := bitsOf w0 31 1 == 1, slope := bitsOf w0 8 20, quantum := quantum, limit := bitsOf w1 0 19, hi := hi, lo := lo
           deficit := min x.deficit (max 1 quantum), credit := max (-(lo : Rat)) (min (hi : Rat) x.credit) }

/-- A queue command; `may` says that Q_WRITE comes from where it is allowed. -/
def State.queueOp (s : State) (op q : Nat) (may : Bool) : State × Nat :=
  match op with
  | 1 => if ctlQueue < q then (s, Qc.badIndex) else (s.setWords blwWin (s.queueWords q), Qc.ok)
  | 2 =>
    if !may then (s, Qc.denied) else if ctlQueue ≤ q then (s, Qc.badIndex)
    else (s.setQueue q ((s.queue q).configured (s.word blwWin) (s.word (blwWin + 4)) (s.word (blwWin + 8))), Qc.ok)
  | 3 =>
    if ctlQueue < q then (s, Qc.badIndex)
    else let x := s.queue q; (s.setQueue q { x with maxDepth := x.sampDepth, maxDelay := x.hol }, Qc.ok)
  | _ => (s, Qc.badOp)

/-- The outcome in STATUS, and event 0x28C. -/
def State.queueDone (x : State × Nat) (op q : Nat) : State :=
  let s := x.1.setFld F.BLW_QCMD_STATUS x.2
  if x.2 ≠ Qc.ok then s.raise { num := 0x28C, scope := q, arg := op + 16 * x.2 }
  else if op = 1 then s else s.tieMirror (0x1700 + op) q 0 (wordBytes (s.words blwWin 12))

/-- A write of BLW_QCMD with an OP; a parcel's mirror forces the parcel in QUEUE. -/
def State.queueReg (s : State) (w : World) (word : Word) (op : Nat) (tag : Option Nat) : State :=
  let word := match tag with | some p => putBits word 0 6 p | none => word
  cmdReg F.BLW_QCMD_OP F.BLW_QCMD_BUSY (fun s => s.raise { num := 0x28C, scope := s.fld F.BLW_QCMD_QUEUE, arg := op }) w word
    (fun s => let q := s.fld F.BLW_QCMD_QUEUE; State.queueDone (s.queueOp op q (w.isSecure && tag.isNone)) op q) s

/-- A queue command however it arrives. -/
def queueCmd (op : Nat) (v : Via) (s : State) : State :=
  match v with
  | .reg w word => s.queueReg w word op none
  | .ring d =>
    blockCmd d 7 op (if op = 1 then .observe else if op = 3 then .operate else .secure) blwWin 12
      (fun _ b => [if blkIndex b < ctlQueue then blkIndex b % 64 else 0])
      (fun s b => let r := s.queueOp op (blkIndex b) true; (State.queueDone r op (blkIndex b), r.2, 0)) s

def execQRead (v : Via) (s : State) : Out := .next (queueCmd 1 v s)
def execQWrite (v : Via) (s : State) : Out := .next (queueCmd 2 v s)
def execQClrMax (v : Via) (s : State) : Out := .next (queueCmd 3 v s)

end Sys2Proof.Machine
end

