-- ==== Sys2Proof/Machine/Anvil.lean ====
section
/-! DEFINITION. Machine/Anvil.lean: the cipher complex: block slots and paces, heats, placement, shadow slots, service, known
answers, power gating, faults, and how a frame in the device is ended (spec/05_anvil_cipher_complex.md, R34 to R39). -/

namespace Sys2Proof.Machine

/-! ## FCS -/

/-- The FCS of a frame's bytes, as sent. -/
def fcsOf (b : List Byte) : List Byte := leBytes 4 (~~~ (crcOf 0xEDB88320 (BitVec.allOnes 32) b)).toNat

/-- The bitwise inverse of it (R24, R154). -/
def fcsInverse (b : List Byte) : List Byte := leBytes 4 (crcOf 0xEDB88320 (BitVec.allOnes 32) b).toNat

/-- The received frame's FCS is right. -/
def fcsGood (b : List Byte) : Bool := b.drop (b.length - 4) == fcsOf (b.take (b.length - 4))

/-! ## Slots and paces (R124 to R133) -/

def cdiv (a b : Nat) : Nat := (a + b - 1) / b

/-- Block slots of a frame with `u` bytes of user data, `clear` bytes of clear tags and a SecTAG of `tag` bytes (R124). -/
def Chan.slotsFor (c : Chan) (u clear tag : Nat) : Nat :=
  let o := if c.conf then min c.offsetBytes u else u
  cdiv (12 + (if c.authTags then clear else 0) + tag + o) 16 + cdiv (u - o) 16 + 2

/-- A frame's need N in Gb/s of blocks (R129). -/
def needPace (slots rate len : Nat) : Rat := min 192 (((16 * slots * rate : Nat) : Rat) / ((max 1 len : Nat) : Rat))

/-- Block slots issued at pace `g` in `n` core cycles: one per cycle at 192 Gb/s. -/
def issuedIn (g : Rat) (n : Nat) : Nat := (g * (n : Rat) / 192).floor.toNat

/-- Block slots a frame's stream has issued: streams issue at their guaranteed paces (log entry 40). -/
def State.slotsDone (s : State) (f : Frm) : Nat :=
  if f.shadow.isSome then f.issued else min f.slots (f.issued + issuedIn f.pace (s.elapsed f.tIssue))

/-- The stream has ended: its tag block has issued, or the frame has been ended. -/
def State.streamDone (s : State) (f : Frm) : Bool := f.ended.isSome || (f.rxEnd && s.slotsDone f == f.slots)

/-- Blocks of a frame that have arrived and are not issued. -/
def State.ready (s : State) (f : Frm) : Nat :=
  let got := if f.rxEnd then f.slots else min f.slots (issuedIn (needPace f.slots (s.rate f.inPort) f.bytes.length) (s.elapsed f.tHand))
  got - s.slotsDone f

/-- A frame is in the shadow slots or the streams of anvil `a`. -/
def State.onAnvil (s : State) (a : Nat) (f : Frm) : Bool := f.heat && f.anvil == some a && !s.streamDone f

/-- The frames on an anvil's streams. -/
def State.streams (s : State) (a : Nat) : List (Nat × Frm) := s.framesOf fun f => s.onAnvil a f && f.shadow.isNone

def Frm.prio (f : Frm) : Bool := f.express || f.cmd

/-- The sum of guaranteed paces. -/
def paceSum (l : List (Nat × Frm)) : Rat := l.foldl (fun n e => n + e.2.pace) 0

/-- An anvil's room (R130). -/
def State.room (s : State) (a : Nat) : Rat := 192 - paceSum (s.streams a)

def State.anvSvc (s : State) (a : Nat) : Bool := s.flag (F.ANV_CTL_IN_SVC a)
def State.anvAwake (s : State) (a : Nat) : Bool := s.flag (F.ANV_CTL_AWAKE a)

/-- The anvils of the express reserve (R132). -/
def State.reserve (s : State) : List Nat :=
  (((List.range 40).filter s.anvSvc).reverse).take (min 8 (s.fld F.ANV_XRES_COUNT))

/-- Placements on the anvil are possible at all. -/
def State.anvTakes (s : State) (a : Nat) : Bool := s.anvSvc a && s.anvAwake a && !s.flag (F.ANV_CTL_REMOVE a)

def State.gmin (s : State) : Nat := max 8 (min 192 (s.fld F.ANV_PLACE_GMIN))

/-- The room an anvil offers an ordinary frame (R130, R132). -/
def State.ordRoom (s : State) (a : Nat) : Rat :=
  if s.reserve.contains a then
    min (s.room a) (192 - (min 192 (s.fld F.ANV_XRES_HEADROOM) : Nat) - paceSum ((s.streams a).filter fun e => !e.2.prio))
  else s.room a

/-- The lowest stream of an anvil that is free (log entry 41). -/
def State.freeStream (s : State) (a : Nat) : Nat :=
  let used := (s.streams a).map (·.2.stream)
  ((List.range 16).find? fun i => !used.contains i).getD 0

def State.backlog (s : State) (a : Nat) : Nat := (s.streams a).foldl (fun n e => n + s.ready e.2) 0

/-- Where an ordinary frame of need `n` is placed (R130): the anvil and its pace. -/
def State.placeOrdinary (s : State) (n : Rat) : Option (Nat × Rat) :=
  let cands := (List.range 40).filter fun a =>
    s.anvTakes a && decide ((s.streams a).length < 16) && decide ((s.gmin : Rat) ≤ s.ordRoom a)
  let better (a b : Nat) : Bool :=
    decide (min n (s.ordRoom b) < min n (s.ordRoom a)) || (min n (s.ordRoom a) == min n (s.ordRoom b) && decide (s.backlog a < s.backlog b))
  match cands with
  | [] => none
  | a :: t => let a := t.foldl (fun a b => if better b a then b else a) a
              some (a, min n (s.ordRoom a))

/-- Streams that may be set aside: ordinary, transmission not started, not saved before at this moment; the best first
(R136). -/
def State.suspendable (s : State) (a : Nat) (need : Rat) : Option (Nat × Frm) :=
  let cands := (s.streams a).filter fun e =>
    !e.2.prio && !e.2.sending && decide (need ≤ s.room a + e.2.pace)
  let follow (e : Nat × Frm) : Bool :=
    !(s.framesOf fun g => g.heat && g.enc == e.2.enc && g.sc == e.2.sc && g.cls == e.2.cls).all (fun g => decide (g.1 ≤ e.1))
  let left (e : Nat × Frm) : Nat := e.2.slots - s.slotsDone e.2
  let better (x y : Nat × Frm) : Bool :=
    (!follow x && follow y) || (follow x == follow y &&
      (decide (left y < left x) || (left x == left y && decide (x.2.stream < y.2.stream))))
  match cands with
  | [] => none
  | e :: t => some (t.foldl (fun a b => if better b a then b else a) e)

/-- The free shadow slot of an anvil. -/
def State.freeShadow (s : State) (a : Nat) : Option Nat :=
  let used := (s.framesOf fun f => s.onAnvil a f && f.shadow.isSome).map (·.2.shadow)
  [0, 1].find? fun i => !used.contains (some i)

/-- Where an express-class or command-class frame is placed (R131): the anvil, and the frame set aside for it. -/
def State.placeExpress (s : State) (n : Rat) : Option (Nat × Option (Nat × Frm)) :=
  let ok (a : Nat) : Bool := s.anvTakes a && decide (((s.streams a).filter fun e => e.2.prio).length < 4)
  let roomy (a : Nat) : Bool := ok a && decide ((s.streams a).length < 16) && decide (n ≤ s.room a)
  let res := s.reserve
  let order := (List.range 40).filter (res.contains ·) ++ (List.range 40).filter fun a => !res.contains a
  match order.find? roomy with
  | some a => some (a, none)
  | none =>
    order.findSome? fun a =>
      if ok a && (s.freeShadow a).isSome then (s.suspendable a n).map fun v => (a, some v) else none

/-! ## What the registers show -/

/-- ANV_CTL and ANV_LOAD of one anvil. -/
def State.anvSync (s : State) (a : Nat) : State :=
  let st := s.streams a
  let sh (i : Nat) : Bool := !(s.framesOf fun f => s.onAnvil a f && f.shadow == some i).isEmpty
  let s := s.setFld (F.ANV_CTL_XSTREAMS a) (min 4 (st.filter fun e => e.2.prio).length)
  let s := (s.setFlag (F.ANV_CTL_SHADOW0 a) (sh 0)).setFlag (F.ANV_CTL_SHADOW1 a) (sh 1)
  let s := s.setFld (F.ANV_LOAD_GSUM a) (min 192 (paceSum st).floor.toNat)
  let s := s.setFld (F.ANV_LOAD_BACKLOG a) (min 255 (s.backlog a))
  s.setFld (F.ANV_LOAD_STREAMS a) st.length

/-- ANV_STATUS, ANV_SVC and the reserve marks follow the anvils. -/
def State.svcSync (s : State) : State :=
  let n (p : Nat → Bool) (l : List Nat) : Nat := (l.filter p).length
  let s := (s.setFld F.ANV_STATUS_IN_SVC (n s.anvSvc (List.range 40))).setFld F.ANV_STATUS_AWAKE (n s.anvAwake (List.range 40))
  let bits (lo k : Nat) : Nat := (List.range k).foldl (fun v i => if s.anvSvc (lo + i) then v + 2 ^ i else v) 0
  let s := (s.setFld F.ANV_SVC0_IN_SVC (bits 0 32)).setFld F.ANV_SVC1_IN_SVC (bits 32 8)
  (List.range 40).foldl (fun s a => s.setFlag (F.ANV_CTL_RESERVE a) (s.reserve.contains a)) s

/-- Every anvil's registers brought up to date, as time goes on. -/
def State.anvTick (s : State) : State := (List.range 40).foldl State.anvSync s

/-! ## Heats (R31, R135) -/

def State.heats (s : State) : Nat := s.fld F.ANV_HEAT_USE_IN_USE
def State.heatRsv (s : State) : Nat := min 4096 (s.fld F.ANV_HEAT_RSV_RESERVE)

/-- A heat can be granted. -/
def State.heatFree (s : State) (prio : Bool) : Bool := decide (s.heats < if prio then 8192 else 8192 - s.heatRsv)

/-- A heat granted to a frame of parcel `p`. -/
def State.heatTake (s : State) (p : Nat) : State :=
  let n := s.heats + 1
  let s := (s.setFld F.ANV_HEAT_USE_IN_USE n).setFld F.ANV_HEAT_USE_HWM (max n (s.fld F.ANV_HEAT_USE_HWM))
  let s := s.fldUp (F.GLB_PARCEL_W0_HEATS p)
  let s := if n = 8192 - s.heatRsv then s.raise39 0x201 0 none .none else s
  if n = 8192 then s.raise39 0x202 0 none .none else s

/-- What a frame's stream has issued since it last began, counted in ANV_SLOTS. -/
def State.countSlots (s : State) (f : Frm) : State :=
  match f.anvil with
  | some a => s.bumpBy (C.ANV_SLOTS a) (s.slotsDone f - f.issued)
  | none => s

/-- What follows when a frame's heat has been freed: its drained association, retired keys and the commands that waited
(R96, R118). -/
def State.heatFreed (s : State) (f : Frm) : State :=
  let s := (s.setFld F.ANV_HEAT_USE_IN_USE (s.heats - 1)).fldDown (F.GLB_PARCEL_W0_HEATS f.parcel)
  let s := match f.anvil with
    | some a => ({ s with anvIdle := tabSet 0 s.anvIdle a s.cyc }).anvSync a
    | none => s
  ((s.drainDone (f.sc * 4 + f.an)).sweepRetired).secResume

/-! ## How frames end (R34, R37, R38) -/

/-- Causes that fail R4's guarantee (R202): an anvil fault, a missing verdict, poison. -/
def breaches (num : Nat) : Bool := num == 0x210 || num == 0x243 || num == 0x3A2

/-- A drop counted, its event posted, a breach of an admitted frame, and the sampler's offer. -/
def State.account (s : State) (f : Frm) (c : Cause) (outcome len : Nat) : State :=
  let s := if c.num = 0x243 then (s.bumpRef c.cnt).raise { num := 0x243, scope := c.scope } else s.drop c.num c.scope c.parcel c.cnt
  let s := if breaches c.num && f.deadline != 0 then s.breach f.outPort f.cls f.parcel none else s
  s.settle f outcome c.num none len

/-- A frame of which no byte will leave: it goes whole, with its heat, queue and admission. -/
def State.remove (s : State) (i : Nat) (f : Frm) : State :=
  let s := if f.heat then s.countSlots f else s
  let s := (s.unqueue f).dropFrame i
  let s := if f.heat then s.heatFreed f else s
  if f.adm.isSome then s.admSync f.outPort else s

def State.lose (s : State) (i : Nat) (f : Frm) (c : Cause) : State :=
  (s.account f c 1 (if f.out = [] then f.bytes.length else f.lOut)).remove i f

/-- The output of a frame ended after `n` bytes (R154): zeros, and the inverted CRC-32. -/
def stompOut (out : List Byte) (n : Nat) : List Byte :=
  let l := out.length - 4
  let b := out.take (min n l) ++ zeros (l - min n l)
  b ++ fcsInverse b

/-- A frame of which bytes have passed to Bellows is ended there, counted now; it keeps its length and its place. -/
def State.cut (s : State) (i : Nat) (f : Frm) (c : Cause) (outcome n : Nat) : State :=
  let s := s.countSlots f
  let s := s.account f c outcome f.lOut
  (s.setFrame i { f with ended := some c, rel := .stomped, out := stompOut f.out n, passed := n, learn := none
                         deadline := 0, adm := none, issued := s.slotsDone f }).admSync f.outPort

/-- Bytes of output passed to Bellows, where the spec does not state a moment: left open, at most L_out - 4. -/
def State.openPassed (s : State) (f : Frm) : Nat := s.openVal % (f.lOut - 3)

/-- A frame ended for cause `c`: whole, or after what has passed; a frame the queue had refused is dropped whole. -/
def State.endFrame (s : State) (i : Nat) (f : Frm) (c : Cause) (outcome : Nat) : State :=
  if f.first && !f.tailDrop then (s.cut i f c outcome (s.openPassed f)).drew else s.lose i f c

/-! ## Service (R143 to R145) -/

/-- Event 0x213 when too few anvils are in service. -/
def State.minSvc (s : State) : State :=
  if s.fld F.ANV_STATUS_IN_SVC < s.fld F.ANV_MIN_SVC_MIN then s.raise { num := 0x213, arg := s.fld F.ANV_STATUS_IN_SVC } else s

/-- An anvil leaves service, with event 0x211. -/
def State.leaveService (s : State) (a cause : Nat) : State :=
  let s := (s.setFld (F.ANV_CTL_IN_SVC a) 0).svcSync
  (s.raise { num := 0x211, scope := a, arg := cause }).minSvc

def State.anvFaultReg (s : State) (a cause : Nat) : State :=
  if s.flag F.ANV_FAULT_VALID then s
  else ((s.setFld F.ANV_FAULT_VALID 1).setFld F.ANV_FAULT_CAUSE cause).setFld F.ANV_FAULT_ANVIL a

/-- A fault of an anvil (R143). -/
def State.anvilFault (s : State) (a cause : Nat) : State :=
  if !s.anvSvc a then s else
  let gone := s.framesOf (s.onAnvil a)
  let s := (((s.anvFaultReg a cause).setFld (F.ANV_CTL_REMOVE a) 0).leaveService a cause).noteFault 1
  let s := gone.foldl (fun s e => match s.frame e.1 with
    | some f => s.endFrame e.1 f { num := 0x210, scope := a, parcel := none, cnt := .dev (C.ANV_FAULT_DROP a) } 3
    | none => s) s
  s.anvSync a

/-- KNOWN_ANSWER_TEST (R142): anvil `a`'s test, where it is due; `good` is its outcome. -/
def execKnownAnswerTest (a : Fin 40) (good : Bool) (s : State) : Out :=
  if s.anvSvc a.val && s.flag F.ANV_KAT_EN && s.passed (tabGet 0 s.anvKat a.val) (cycUs * max 1 (s.fld F.ANV_KAT_PERIOD_US)) then
    let s := ({ s with anvKat := tabSet 0 s.anvKat a.val s.cyc }).bump (C.ANV_KAT_RUN a.val)
    .next (if good then s else s.anvilFault a.val 3)
  else .next s

/-- ANVIL_FAULT (R143): causes 0 pipeline parity, 1 stream, shadow or key register parity, 2 known-answer mismatch, 3
KEY_GEN mismatch, which ANV_FAULT shows as 1 to 4. -/
def execAnvilFault (a : Fin 40) (cause : Fin 4) (s : State) : Out := .next (s.anvilFault a.val (cause.val + 1))

def State.ctlRefused (s : State) (a : Nat) (remove : Bool) : State := s.raise { num := 0x214, scope := a, arg := b2n remove }

/-- RETURN asked of an anvil (R144). -/
def State.anvReturn (s : State) (a : Nat) : State :=
  if s.anvSvc a then s.ctlRefused a false
  else if s.flag (F.ANV_CTL_RETURN a) then s
  else ({ s with anvRet := tabSet 0 s.anvRet a s.cyc }).setFld (F.ANV_CTL_RETURN a) 1

/-- REMOVE asked of an anvil (R144). -/
def State.anvRemove (s : State) (a : Nat) : State :=
  if s.anvSvc a then s.setFld (F.ANV_CTL_REMOVE a) 1 else s.ctlRefused a true

/-- A word written to ANV_CTL[a]. -/
def State.anvCtlWrite (s : State) (w : World) (a : Nat) (v : Word) : State :=
  secureOnly w (F.ANV_CTL_RETURN a).addr (fun s =>
    let s := if bitsOf v 31 1 = 1 then s.anvReturn a else s
    if bitsOf v 30 1 = 1 then s.anvRemove a else s) s

def execAnvReturn (w : World) (a : Fin 40) (s : State) : Out := .next (s.anvCtlWrite w a.val 0x80000000)
def execAnvRemove (w : World) (a : Fin 40) (s : State) : Out := .next (s.anvCtlWrite w a.val 0x40000000)

/-- RETURN_SELF_TEST_DONE (R144), 100 µs after RETURN. -/
def execAnvReturnSelfTestDone (a : Fin 40) (good : Bool) (s : State) : Out :=
  if s.flag (F.ANV_CTL_RETURN a.val) && s.passed (tabGet 0 s.anvRet a.val) (100 * cycUs) then
    let s := s.setFld (F.ANV_CTL_RETURN a.val) 0
    if good then
      .next ((((({ s with anvIdle := tabSet 0 s.anvIdle a.val s.cyc, anvKat := tabSet 0 s.anvKat a.val s.cyc }).setFld
        (F.ANV_CTL_IN_SVC a.val) 1).setFld (F.ANV_CTL_AWAKE a.val) 1).svcSync).raise { num := 0x212, scope := a.val })
    else .next (s.anvFaultReg a.val 3)
  else .next s

/-- REMOVE_DRAINED (R144). -/
def execAnvRemoveDrained (a : Fin 40) (s : State) : Out :=
  if s.flag (F.ANV_CTL_REMOVE a.val) && (s.framesOf (s.onAnvil a.val)).isEmpty then
    .next ((s.setFld (F.ANV_CTL_REMOVE a.val) 0).leaveService a.val 0)
  else .next s

/-! ## Shadow slots (R136, R137) -/

/-- A stream set aside into a shadow slot. -/
def State.shadowSave (s : State) (a i : Nat) (f : Frm) : State :=
  match s.freeShadow a with
  | none => s
  | some k =>
    let n := s.slotsDone f
    ((s.countSlots f).setFrame i { f with shadow := some k, shadowed := true, issued := n, tSave := s.cyc }).bump (C.ANV_SHADOW_SAVE a)

/-- The need of a saved frame over its remaining slots and remaining arrival time (R137). -/
def State.restNeed (s : State) (f : Frm) : Rat :=
  let left := wireNs (s.rate f.inPort) (f.bytes.length - 20) - (s.cycNs - f.tIn)
  if f.rxEnd || left ≤ 0 then 192 else min 192 (((128 * (f.slots - f.issued) : Nat) : Rat) / left)

/-- SHADOW_RESTORE (R137): the frame saved earlier on anvil `a` returns to a stream. -/
def execShadowRestore (a : Fin 40) (s : State) : Out :=
  let saved := s.framesOf fun f => s.onAnvil a.val f && f.shadow.isSome
  match saved with
  | [] => .next s
  | e :: t =>
    let e := t.foldl (fun x y => if s.elapsed x.2.tSave < s.elapsed y.2.tSave then y else x) e
    if (s.streams a.val).length < 16 && decide ((s.gmin : Rat) ≤ s.room a.val) then
      .next ((s.setFrame e.1 { e.2 with shadow := none, pace := min (s.restNeed e.2) (s.room a.val), tIssue := s.cyc
                                        stream := s.freeStream a.val }).anvSync a.val)
    else .next s

/-! ## Power gating (R141) -/

def State.minAwake (s : State) : Nat := max 8 (min 40 (s.fld F.ANV_PWR_MIN_AWAKE))

/-- POWER_GATE (R141): the highest-numbered general anvil that has been idle for IDLE_US is gated. -/
def execPowerGate (s : State) : Out :=
  let idle (a : Nat) : Bool := s.anvSvc a && s.anvAwake a && !s.reserve.contains a && (s.framesOf (s.onAnvil a)).isEmpty &&
    s.passed (tabGet 0 s.anvIdle a) (cycUs * max 1 (s.fld F.ANV_PWR_IDLE_US))
  if s.flag F.ANV_PWR_GATE_EN && decide (s.minAwake < s.fld F.ANV_STATUS_AWAKE) then
    match ((List.range 40).reverse).find? idle with
    | some a => .next ((s.setFld (F.ANV_CTL_AWAKE a) 0).svcSync)
    | none => .next s
  else .next s

/-- Guaranteed paces in use on awake anvils exceed WAKE_PCT % of what they offer. -/
def State.busyAnvils (s : State) : Bool :=
  let aw := (List.range 40).filter s.anvAwake
  decide (((max 1 (s.fld F.ANV_PWR_WAKE_PCT) * 192 * aw.length : Nat) : Rat) < 100 * aw.foldl (fun n a => n + paceSum (s.streams a)) 0)

/-- ANVIL_WAKE (R141): the lowest-numbered gated anvil begins to wake. -/
def execAnvilWake (s : State) : Out :=
  let gated (a : Nat) : Bool := s.anvSvc a && !s.anvAwake a && (tabGet none s.anvWake a).isNone
  let waits := !(s.framesOf fun f => f.staged && f.waited && !f.prio).isEmpty
  if waits || s.busyAnvils then
    match (List.range 40).find? gated with
    | some a => .next { s with anvWake := tabSet none s.anvWake a (some s.cyc) }
    | none => .next s
  else .next s

/-- ANVIL_WAKE_DONE (R141), 2 µs later. -/
def execAnvilWakeDone (a : Fin 40) (s : State) : Out :=
  match tabGet none s.anvWake a.val with
  | some t =>
    if s.passed t (2 * cycUs) then
      .next (({ s with anvWake := tabSet none s.anvWake a.val none, anvIdle := tabSet 0 s.anvIdle a.val s.cyc }).setFld
        (F.ANV_CTL_AWAKE a.val) 1).svcSync
    else .next s
  | none => .next s

/-- HWM_CLR (R135); any world may write it. -/
def execHwmClr (s : State) : Out := .next (s.setFld F.ANV_HEAT_USE_HWM s.heats)

end Sys2Proof.Machine
end

