-- ==== Sys2Proof/Machine/Release.lean ====
section
/-! DEFINITION. Machine/Release.lean: the secured frame and its verification (spec/04 R86 to R89, R106, R107), the order of the
release stage, its two modes, stomping, quarantine and the port guard (spec/06_speculative_release.md). -/

namespace Sys2Proof.Machine

/-! ## GCM (R82 to R89, R122) -/

/-- The 12-byte IV: SCI and PN, or the salt combined with SSCI and the 64-bit PN. -/
def gcmIv (c : Chan) (k : KeyMat) (pn : Nat) : List Byte :=
  if c.xpn then List.zipWith (fun a b => a ^^^ b) (beBytes 4 c.ssci ++ beBytes 8 pn) (k.salt.getD (zeros 12))
  else leBytes 8 c.sci.toNat ++ beBytes 4 pn

/-- The TCI and AN octet of a frame sent on a channel (R87). -/
def tciOctet (c : Chan) (an : Nat) : Nat :=
  b2n c.es * 64 + b2n c.sciTag * 32 + b2n c.scb * 16 + (if c.conf then 12 else 0) + an

/-- The encrypted frame that leaves the line port, FCS included (R87, R88). -/
def secure (c : Chan) (an : Nat) (k : KeyMat) (pn : Nat) (h : Hdr) (b : List Byte) : List Byte :=
  let n := 4 * min c.clearTags h.tags.length
  let addr := b.take 12
  let clear := slice b 12 n
  let user := slice b (12 + n) (b.length - 16 - n)
  let tag := [0x88, 0xE5, BitVec.ofNat 8 (tciOctet c an), BitVec.ofNat 8 (if user.length < 48 then user.length else 0)] ++
    beBytes 4 (pn % 2 ^ 32) ++ (if c.sciTag then leBytes 8 c.sci.toNat else [])
  let o := if c.conf then min c.offsetBytes user.length else user.length
  let aad := addr ++ (if c.authTags then clear else []) ++ tag ++ user.take o
  let iv := gcmIv c k pn
  let ct := Config.gcmCrypt k.sak iv (user.drop o)
  let body := addr ++ clear ++ tag ++ user.take o ++ ct ++ Config.gcmTag k.sak iv aad ct
  body ++ fcsOf body

/-- The frame a line frame decrypts to, FCS included, and whether its ICV, SL and the E and C bits agree (R86 to R89). -/
def unsecure (c : Chan) (k : KeyMat) (pn : Nat) (h : Hdr) (t : SecTag) (b : List Byte) : List Byte × Bool :=
  let addr := b.take 12
  let clear := slice b 12 (4 * h.tags.length)
  let at_ := h.off + t.len
  let tag := slice b h.off t.len
  let data := slice b at_ (b.length - at_ - 20)
  let icv := slice b (b.length - 20) 16
  let o := if c.conf then min c.offsetBytes data.length else data.length
  let aad := addr ++ (if c.authTags then clear else []) ++ tag ++ data.take o
  let iv := gcmIv c k pn
  let ct := data.drop o
  let body := addr ++ clear ++ data.take o ++ Config.gcmCrypt k.sak iv ct
  let slOk := if t.sl = 0 then decide (48 ≤ data.length) else t.sl == data.length
  (body ++ fcsOf body, Config.gcmTag k.sak iv aad ct == icv && slOk && t.e == c.conf && t.c == c.conf)

/-! ## Replay (R26, R106, R107, R113) -/

/-- The full PN of a received SecTAG (R106): the upper half of LOWEST_PN's, one more where its lower half has its highest bit
set and the received PN has not. -/
def State.fullPn (s : State) (sa pn : Nat) : Nat :=
  let c := s.saChan sa
  if !c.xpn then pn
  else
    let low := (s.ctx sa).lowest c.replayWindow
    let v := low / 2 ^ 32 * 2 ^ 32 + pn
    if 2 ^ 31 ≤ low % 2 ^ 32 ∧ pn < 2 ^ 31 then v + 2 ^ 32 else v

/-- The bitmap has PN `pn` marked. -/
def Ctx.marks (x : Ctx) (pn : Nat) : Bool :=
  decide (pn ≤ x.high) && decide (x.high < pn + 2048) && (x.bitmap.getLsbD (pn % 2048) || decide (pn ≤ x.onesTo))

/-- The replay check: none, or statistics word 4 late or 5 duplicate. -/
def State.replayBad (s : State) (sa pn : Nat) : Option Nat :=
  let c := s.saChan sa
  let x := s.ctx sa
  if pn < x.lowest c.replayWindow then some 4
  else if c.pinned && x.marks pn then some 5 else none

/-- The cause of a replay drop. -/
def State.replayCause (s : State) (sa k : Nat) : Cause :=
  { num := 0x17E + k, scope := sa, parcel := some (s.saParcel sa), cnt := .sa sa k }

/-- The bitmap after a frame of PN `pn` has passed. -/
def Ctx.mark (x : Ctx) (pn : Nat) : Ctx :=
  let clear := (List.range (min 2048 (pn - x.high))).foldl
    (fun (m : BitVec 2048) i => m &&& ~~~ (BitVec.twoPow 2048 ((x.high + 1 + i) % 2048))) x.bitmap
  { x with bitmap := clear ||| BitVec.twoPow 2048 (pn % 2048), high := max x.high pn }

/-- A PN verified: window and bitmap, EXHAUSTED at PN_LIMIT (R104), and a static-key association's durable FLOOR on entering
a new block (R113). -/
def State.replayPass (s : State) (sa pn : Nat) : State :=
  let c := s.saChan sa
  let x := s.ctx sa
  let y := if c.pinned then x.mark pn else { x with high := max x.high pn }
  let s := (s.setCtx sa y).tieDrew sa 1 x.high y.high
  let low := pnBlock (y.lowest c.replayWindow)
  let s := if c.static_ && decide (x.resv < low) then
      (s.setCtx sa { s.ctx sa with resv := low }).commitLater 2 sa (.pn low) else s
  if x.limit ≤ pn then s.toExhausted sa else s

/-- A statistics word of an association raised. -/
def State.saAdd (s : State) (sa k n : Nat) : State :=
  { s with saStat := tabSet 0 s.saStat (8 * sa + k) (tabGet 0 s.saStat (8 * sa + k) + BitVec.ofNat 64 n) }

/-! ## Order and time (R133, R134, R150) -/

/-- A dispatched frame has passed on, for the order of its sequence. -/
def Frm.passedOn (f : Frm) : Bool := if f.enc then f.first else f.last || (f.first && f.ended.isSome)

/-- Every earlier frame of the sequence has passed on or gone. -/
def State.inOrder (s : State) (i : Nat) (f : Frm) : Bool :=
  (s.framesOf fun g => g.heat && g.enc == f.enc && g.sc == f.sc && g.cls == f.cls && !g.passedOn).all fun e => decide (i ≤ e.1)

/-- Core cycles in ns. -/
def cycToNs (n : Nat) : Rat := (n : Rat) * 2 / 3

/-- G of R133. -/
def outPace (f : Frm) : Rat := f.pace * (f.lOut : Rat) / ((16 * max 1 f.slots : Nat) : Rat)

/-- The lead of R133 in bytes. -/
def State.lead (s : State) (f : Frm) : Nat :=
  max 64 ((f.lOut : Rat) * (1 - outPace f / (s.rate f.outPort : Rat))).ceil.toNat

/-- The output has reached the lead: 60 core cycles for the first 64 bytes, the rest at G; a stored frame has its last byte
(R22, R126, R133). -/
def State.leadOk (s : State) (f : Frm) : Bool :=
  f.shadow.isNone && (!f.stored || f.rxEnd) && decide (60 ≤ s.elapsed f.tIssue) &&
  (s.streamDone f || decide (8 * ((s.lead f - 64 : Nat) : Rat) ≤ outPace f * cycToNs (s.elapsed f.tIssue - 60)))

/-- t_V of R150 in ns of DAT_CYC. -/
def State.verdictBy (s : State) (f : Frm) : Rat :=
  let t0 := s.cycNs - cycToNs (s.elapsed f.tHand)
  let icv := t0 + ((8 * (f.bytes.length - 4) : Nat) : Rat) / (s.rate f.inPort : Rat)
  if f.pace = needPace f.slots (s.rate f.inPort) f.bytes.length ∧ !f.shadowed then icv + 12
  else max (icv + 12) (s.cycNs - cycToNs (s.elapsed f.tIssue) + ((128 * (f.slots + 2) : Nat) : Rat) / f.pace + 12)

/-- Condition 3 of R150. -/
def State.tailSafe (s : State) (f : Frm) : Bool :=
  decide (s.verdictBy f - ((8 * (f.lOut - 32) : Nat) : Rat) / (s.rate f.outPort : Rat) ≤ s.cycNs)

/-! ## Demotion (R148) -/

def Frm.sa (f : Frm) : Nat := f.sc * 4 + f.an

/-- The line port's place among line ports. -/
def lineIdx (port : Nat) : Nat := port - 32

/-- The first condition of R148 that holds, by its counter. -/
def State.demoted (s : State) (f : Frm) : Option Nat :=
  let n := lineIdx f.inPort
  if (s.ctx f.sa).cmd then some (C.REL_DEMOTE_CMD n)
  else if (s.ctx f.sa).st = .quarantined then some (C.REL_DEMOTE_QUAR n)
  else if !s.flag (F.TRV_PORT_CFG_RELEASE f.inPort) || bitSet (s.fld F.SEC_REL_STATUS_SUSP) n then some (C.REL_DEMOTE_PORT n)
  else if f.stored then some (C.REL_DEMOTE_STORED n) else none

/-- Conditions 1 to 3 of R150. -/
def State.specReady (s : State) (i : Nat) (f : Frm) : Bool := s.inOrder i f && s.leadOk f && s.tailSafe f

/-! ## Quarantine and the port guard (R157, R159) -/

/-- SEC_REL_PORT[n].QUAR_MS within 1 to 60,000. -/
def State.quarMs (s : State) (n : Nat) : Nat := max 1 (min 60000 (s.fld (F.SEC_REL_PORT_QUAR_MS n)))

/-- The receive association enters quarantine, or has it extended. -/
def State.quarantine (s : State) (sa n : Nat) : State :=
  let x := s.ctx sa
  let t := s.datumNs + BitVec.ofNat 64 (1000000 * s.quarMs n)
  match x.st with
  | .active => (s.setCtx sa { x with st := .quarantined, quarUntil := t, wasDraining := false }).saEvent 0x185 sa 0 0
  | .draining => (s.setCtx sa { x with st := .quarantined, quarUntil := t, wasDraining := true }).saEvent 0x185 sa 0 0
  | .quarantined => (s.setCtx sa { x with quarUntil := t }).bump (C.REL_QUAR_EXTEND n)
  | _ => s

/-- A stomp of REL_STOMP: its counters, SEC_REL_LAST, and the guard of the arrival port. -/
def State.relStomp (s : State) (f : Frm) (passed : Nat) : State :=
  let n := lineIdx f.inPort
  let s := s.drop 0x240 f.outPort none (.dev (C.REL_STOMP f.outPort))
  let s := s.bumpBy (C.REL_STOMP_BYTES f.outPort) passed
  let s := if s.flag F.SEC_REL_LAST_VALID then s
    else ((s.setFld F.SEC_REL_LAST_VALID 1).setFld F.SEC_REL_LAST_PORT f.inPort).setFld F.SEC_REL_LAST_SA f.sa
  let k := tabGet 0 s.sec.stomps n + 1
  let s := { s with sec := { s.sec with stomps := tabSet 0 s.sec.stomps n k, stompLast := tabSet 0 s.sec.stompLast n s.cyc } }
  let susp := s.fld F.SEC_REL_STATUS_SUSP
  if k = s.fld (F.SEC_REL_PORT_STOMP_MAX n) ∧ !bitSet susp n then
    (s.setFld F.SEC_REL_STATUS_SUSP (susp + 2 ^ n)).raise { num := 0x241, scope := f.inPort }
  else s

/-- STOMP_WINDOW_END (R159): another second of the free-running clock. -/
def execStompWindowEnd (s : State) : Out :=
  if s.passed s.sec.stompStart cycS then
    .next { s with sec := { s.sec with stomps := [], stompStart := s.sec.stompStart + BitVec.ofNat 64 cycS } }
  else .next s

/-- A line port's suspension ended. -/
def State.unsuspend (s : State) (n : Nat) : State :=
  let susp := s.fld F.SEC_REL_STATUS_SUSP
  if bitSet susp n then (s.setFld F.SEC_REL_STATUS_SUSP (susp - 2 ^ n)).raise { num := 0x242, scope := n + 32 } else s

/-- SUSPENSION_END (R159): QUAR_MS after the last stomp counted. -/
def execSuspensionEnd (n : Fin 32) (s : State) : Out :=
  if s.passed (tabGet 0 s.sec.stompLast n.val) (cycMs * s.quarMs n.val) then .next (s.unsuspend n.val) else .next s

/-- A word written to SEC_REL_PORT[n]. -/
def State.relPortWrite (s : State) (w : World) (n : Nat) (v : Word) : State :=
  let a := (F.SEC_REL_PORT_RESUME n).addr
  secureOnly w a (fun s =>
    let s := ((s.writeReg w a v).setFld (F.SEC_REL_PORT_RESUME n) 0).mirrorReg a v
    if bitsOf v 16 1 = 1 then s.unsuspend n else s) s

/-- RESUME (R159): the other fields written as they stand. -/
def execRelResume (w : World) (n : Fin 32) (s : State) : Out :=
  .next (s.relPortWrite w n.val (putBits (s.word (F.SEC_REL_PORT_RESUME n.val).addr) 16 1 1))

/-! ## Passing to Bellows -/

/-- SPECULATIVE_START (R150). -/
def execSpeculativeStart (id : Nat) (s : State) : Out :=
  match s.frame id with
  | some f =>
    if f.heat && !f.enc && f.specReq && !f.first && f.verdict.isNone && f.ended.isNone && s.specReady id f && (s.demoted f).isNone then
      .next ((s.bump (C.REL_SPEC_FRAMES f.outPort)).enqueue id { f with spec := true, rel := .specFlow })
    else .next s
  | none => .next s

/-- A frame whose key has been zeroized under it (R254) counts under the SA-state row (log entry 43). -/
def State.keyGoneCause (f : Frm) : Cause :=
  { num := 0x186, scope := f.sa, parcel := some f.parcel, cnt := .sa f.sa (if f.enc then 4 else 6) }

/-- FRAME_PASS (R30, R134, R151): the first byte of an encrypt frame, or of a decrypt frame whose verdict and replay check
have passed, goes to Bellows. -/
def execFramePass (id : Nat) (s : State) : Out :=
  match s.frame id with
  | some f =>
    if f.heat && !f.first && f.ended.isNone && s.inOrder id f && s.leadOk f && (f.enc || f.verdict == some true) then
      if f.enc && f.key.isNone then .next (s.lose id f (State.keyGoneCause f))
      else .next (s.enqueue id (if f.enc then f else { f with rel := .verified }))
    else .next s
  | none => .next s

/-- HEAT_RELEASE (R30): the last byte passes to Bellows; the charge becomes exact (R166), the learn request is made (R69), a
frame the queue had refused settles (R167). -/
def execHeatRelease (id : Nat) (s : State) : Out :=
  match s.frame id with
  | some f =>
    if f.heat && f.first && f.rxEnd && s.streamDone f && (f.enc || f.ended.isSome || f.verdict == some true) then
      if f.enc && f.key.isNone && f.ended.isNone then .next (s.endFrame id f (State.keyGoneCause f) 3)
      else if f.tailDrop then
        let q := f.queue.getD 0
        .next (s.lose id f { num := 0x289, scope := q, parcel := some f.parcel, cnt := .queue q })
      else if f.ended.isSome && f.queue.isNone then .next (s.remove id f)
      else
        let exact := cellsOf f.lOut
        let s := (s.countSlots f).setFrame id { f with heat := false, last := true, cells := exact, issued := s.slotsDone f, learn := none
                                                       rel := .done }
        let s := match f.queue with
          | some q => s.recharge q f.parcel f.cells exact
          | none => s
        let s := match f.learn with
          | some r => s.pltRequest r
          | none => s
        .next (s.heatFreed f)
    else .next s
  | none => .next s

/-! ## Verdicts (R127, R153 to R157) -/

/-- A decrypt frame that fails for cause `c`: whole, or stomped after what the anvil had produced (R154); `guard` counts it in
REL_STOMP. -/
def State.failFrame (s : State) (i : Nat) (f : Frm) (c : Cause) (guard : Bool) : State :=
  if f.first && !f.tailDrop then
    let n := f.lOut - 32
    let s := s.cut i f c 2 n
    if guard then s.relStomp f n else s
  else s.lose i f c

def State.poisonCause (f : Frm) : Cause :=
  { num := 0x3A2, scope := f.outPort, parcel := none, cnt := .dev (C.ECC_POISON_STOMP f.outPort) }

/-- The key generation the frame was dispatched on is the association's still. -/
def State.keyStill (s : State) (f : Frm) : Bool := (s.ctx f.sa).keyGen == f.keyGen && (s.ctx f.sa).st != .empty

/-- A passing verdict: the second replay check, the statistics, the replay state, and the frame verified or demoted. -/
def State.verdictPass (s : State) (i : Nat) (f : Frm) : State :=
  let bad := if s.keyStill f then s.replayBad f.sa f.pn else none
  match bad with
  | some k =>
    let s' := s.failFrame i f (s.replayCause f.sa k) true
    if f.spec then s'.quarantine f.sa (lineIdx f.inPort) else s'
  | none =>
    let conf := (s.saChan f.sa).conf
    let demo := f.specReq && !f.first && s.specReady i f
    let s := match s.demoted f with
      | some c => if demo then s.bump c else s
      | none => s
    let s := (s.saAdd f.sa 0 1).saAdd f.sa (if conf then 2 else 1) (f.lOut - 16)
    let s := if s.keyStill f then s.replayPass f.sa f.pn else s
    s.setFrame i { f with verdict := some true
                          rel := if f.first || s.inOrder i f then .verified else f.rel }

/-- ICV_VERDICT (R127): the verdict of a decrypt frame whose blocks have issued; poison, then failure, then the second
replay check. -/
def execIcvVerdict (id : Nat) (s : State) : Out :=
  match s.frame id with
  | some f =>
    if f.heat && !f.enc && f.rxEnd && f.verdict.isNone && f.ended.isNone && s.streamDone f then
      let n := lineIdx f.inPort
      if f.poison then .next (s.failFrame id f (State.poisonCause f) false)
      else if f.key.isNone then
        .next (s.failFrame id f { num := 0x186, scope := f.sa, parcel := some f.parcel, cnt := .sa f.sa 6 } false)
      else
        let h := s.parseHdr f.bytes
        let good := match f.key, h.secTag f.bytes with
          | some k, some t => (unsecure (s.saChan f.sa) k f.pn h t f.bytes).2
          | _, _ => false
        if good then .next (s.verdictPass id f)
        else
          let s := s.failFrame id f { num := 0x184, scope := f.sa, parcel := some f.parcel, cnt := .sa f.sa 3 } true
          .next (if s.flag (F.TRV_PORT_CFG_RELEASE f.inPort) then s.quarantine f.sa n else s)
    else .next s
  | none => .next s

/-- VERDICT_DEADLINE (R155): t_V has passed with no verdict. -/
def execVerdictDeadline (id : Nat) (s : State) : Out :=
  match s.frame id with
  | some f =>
    if f.heat && !f.enc && f.verdict.isNone && f.ended.isNone && f.shadow.isNone && decide (s.verdictBy f < s.cycNs) then
      .next (s.failFrame id f { num := 0x243, scope := f.anvil.getD 0, parcel := none, cnt := .dev C.REL_VERDICT_LATE } false)
    else .next s
  | none => .next s

end Sys2Proof.Machine
end

