-- ==== Sys2Proof/Machine/Lanes.lean ====
section
/-! DEFINITION. Machine/Lanes.lean: the lanes of a port and whether it can send (spec/19_lanes_and_ports.md). -/

namespace Sys2Proof.Machine

/-- A response of HOLD or above is in force (R409, R410). -/
def State.held (s : State) : Bool := decide (2 ≤ s.fld F.ENV_STATUS_LEVEL)

def State.portUp (s : State) (n : Nat) : Bool := s.fld (F.PRT_PORT_W2_STATE n) == 4
def State.portOpen (s : State) (n : Nat) : Bool := s.flag (F.PRT_PORT_W2_OPEN n)

/-! ## Lanes of a port (R448, R450) -/

def State.portWidth (s : State) (n : Nat) : Nat := 2 ^ s.fld (F.PRT_PORT_W0_WIDTH n)
def State.portActive (s : State) (n : Nat) : Bool := s.flag (F.PRT_PORT_W0_ACTIVE n)

/-- The physical lanes of a port's logical lanes, through a map of its octet. -/
def State.lanesBy (s : State) (map : Nat → Fld) (n : Nat) : List Nat :=
  (List.range (s.portWidth n)).map fun k =>
    let j := n + k
    8 * (j / 8) + s.fld (map (j / 8)) / 2 ^ (3 * (j % 8)) % 8

def State.rxLanes (s : State) (n : Nat) : List Nat := s.lanesBy F.SRD_SWAP_W1_RX_MAP n
def State.txLanes (s : State) (n : Nat) : List Nat := s.lanesBy F.SRD_SWAP_W0_TX_MAP n

/-- The active port that a physical lane belongs to, on receive or on transmit. -/
def State.portOfRx (s : State) (i : Nat) : Option Nat := (List.range 64).find? fun n => s.portActive n && (s.rxLanes n).contains i
def State.portOfTx (s : State) (i : Nat) : Option Nat := (List.range 64).find? fun n => s.portActive n && (s.txLanes n).contains i

def State.rxAwake (s : State) (i : Nat) : Bool := s.flag (F.SRD_LANE_W2_RX_AWAKE i)
def State.txAwake (s : State) (i : Nat) : Bool := s.flag (F.SRD_LANE_W2_TX_AWAKE i)

def State.portState (s : State) (n : Nat) : Nat := s.fld (F.PRT_PORT_W2_STATE n)

/-! ## Transmit availability (R455, R456) -/

def State.rxAsleep (s : State) (n : Nat) : Bool := (s.rxLanes n).all fun i => !s.rxAwake i
def State.txAsleep (s : State) (n : Nat) : Bool := (s.txLanes n).all fun i => !s.txAwake i

/-- Why transmit is not available: 0 it is, 1 DISABLED or TEST, 2 squelch, 3 sleep, 4 loss of UP, 5 remote fault; `sq` says whether
a squelch counts. -/
def State.txWhy (s : State) (n : Nat) (sq : Bool) : Nat :=
  let st := s.portState n
  if st = 0 ∨ st = 5 then 1
  else if sq && (s.txLanes n).any (fun i => s.flag (F.SRD_LANE_W2_SQUELCH i)) then 2
  else if (s.txLanes n).any (fun i => !s.txAwake i) then 3
  else if s.rxAsleep n then 0
  else if st ≠ 4 then 4
  else if s.flag (F.PRT_PORT_W2_REMOTE_FAULT n) then 5 else 0

def State.txCause (s : State) (n : Nat) : Nat := s.txWhy n true

def State.txAvail (s : State) (n : Nat) : Bool := s.flag (F.PRT_PORT_W2_TX_AVAIL n)

/-- Bellows and the admission engine run for the port: transmit is available, or the chip is a standby, which runs the same behind
its squelch (R383, R392). -/
def State.canSend (s : State) (n : Nat) : Bool := s.txAvail n || (s.isStandby && !s.held && s.txWhy n false == 0)

end Sys2Proof.Machine
end

