-- ==== Sys2Proof/Machine/FrameIn.lean ====
section
/-! DEFINITION. Machine/FrameIn.lean: a frame from its arrival to its stream: the checks of a port, Traverse's verdict applied,
admission, the end of reception, context fetches and Tongs (spec/01_frame_path.md, spec/02, spec/05, spec/08, spec/19). -/

namespace Sys2Proof.Machine

/-! ## Ports -/

/-- MAX_FRAME of a port. -/
def State.portMax (s : State) (n : Nat) : Nat := max 64 (s.fld (F.PRT_PORT_W0_MAX_FRAME n))

/-! ## Causes of drops (R38) -/

def portCause (num n cnt : Nat) : Cause := { num := num, scope := n, parcel := none, cnt := .dev cnt }
def closedCause (n : Nat) : Cause := portCause 0x052 n (C.PRT_RX_CLOSED n)
def fcsCause (n : Nat) : Cause := portCause 0x050 n (C.PRT_RX_FCS_ERR n)
def lenCause (n : Nat) : Cause := portCause 0x051 n (C.PRT_RX_LEN_ERR n)
def policyCause (n p : Nat) : Cause := { num := 0x100, scope := n, parcel := some p, cnt := .dev (C.TRV_POLICY_DROP n) }
def oversizeCause (n c : Nat) (p : Nat) : Cause :=
  { num := 0x280, scope := 8 * n + c, parcel := some p, cnt := .dev (C.GAT_OVERSIZE (8 * n + c)) }
def refusedCause (n c : Nat) (p : Nat) : Cause :=
  { num := 0x281, scope := 8 * n + c, parcel := some p, cnt := .dev (C.GAT_REFUSED (8 * n + c)) }
def parcelCause (num p cnt : Nat) : Cause := { num := num, scope := p, parcel := some p, cnt := .dev cnt }

/-- FCS of a received frame fails (R457, R459). -/
def badFcs (b : List Byte) (bad : Bool) : Bool := bad || !fcsGood b

/-- The states FREEZING and FROZEN, and RESETTING under HARD reset, drop what arrives (R307). -/
def State.parcelStops (s : State) (p : Nat) : Bool :=
  let st := s.fld (F.GLB_PARCEL_W0_STATE p)
  st == 2 || st == 3 || (st == 4 && s.flag (F.GLB_PARCEL_W0_HARD p))

/-- A drop at arrival: the frame's bytes, then its counter; a policy drop counts for its parcel too. -/
def State.dropIn (s : State) (f : Frm) (c : Cause) : State :=
  let l := f.bytes.length
  let s := (s.bumpBy (C.PRT_RX_OCTETS f.inPort) l).bwCount f.inPort 0 l
  let s := if c.num = 0x100 then s.bump (C.TRV_POLICY_DROP_P (c.parcel.getD 0)) else s
  s.account f c 1 l

/-- Of causes in the order of R38, each at once or found as the frame ends: none where none acts at once, else the
earliest. -/
def earliest (l : List (Bool × Cause)) : Option Cause := if l.any (·.1) then l.head?.map (·.2) else none

def causeIf (now : Bool) (b : Bool) (c : Cause) : List (Bool × Cause) := if b then [(now, c)] else []

/-! ## Lengths -/

/-- User data, block slots and output length of a frame of `l` bytes on channel `c` (R88, R124, R186). -/
def lensOf (c : Chan) (enc : Bool) (tags off tagLen l : Nat) : Nat × Nat :=
  if enc then
    let n := 4 * min c.clearTags tags
    (c.slotsFor (l - 16 - n) n c.tagLen, l + c.tagLen + 16)
  else (c.slotsFor (l - off - tagLen - 20) (4 * tags) tagLen, l - tagLen - 16)

/-! ## Admission (R199 to R201) -/

/-- What the admission test works on: the frame, its channel, and how its length depends on the output's. -/
structure AdmIn where
  f : Frm
  c : Chan
  tags : Nat
  off : Nat
  tagLen : Nat

/-- Received length, slots and need of the longest frame of the class. -/
def State.admMax (s : State) (a : AdmIn) : Nat × Nat × Rat :=
  let m := s.clsMax a.f.outPort a.f.cls
  let l := if a.f.enc then m - a.c.tagLen - 16 else m + a.tagLen + 16
  let k := (lensOf a.c a.f.enc a.tags a.off a.tagLen l).1
  (l, k, needPace k (s.rate a.f.inPort) l)

/-- The admission list entry of a frame at its verdict (R198, R200). -/
def State.admEntry (s : State) (a : AdmIn) : Adm :=
  let n := a.f.outPort
  let m := s.clsMax n a.f.cls
  let r : Rat := (s.rate a.f.inPort : Rat)
  let re : Rat := (s.rate n : Rat)
  let (_, k, g) := s.admMax a
  let h : Rat := if !a.f.enc then max 0 ((8 * (m + 32) : Nat) / r + 12 - 40)
    else if a.f.stored then max 0 ((8 * (m - 24) : Nat) / r - 40) else 0
  let gOut := g * (m : Rat) / ((16 * max 1 k : Nat) : Rat)
  let lead := max 64 ((m : Rat) * (1 - gOut / re)).ceil.toNat
  { tIn := a.f.tIn, tE := s.cycNs + 27 + 40 + h + ((8 * (lead - 64) : Nat) : Rat) / gOut + 24
    w := wireNs (s.rate n) m, limit := (s.clsDeadline n a.f.cls : Rat) }


/-- An entry of the port's admission list is poisoned (R370). -/
def State.admPoisoned (s : State) (n : Nat) : Bool :=
  match (s.gate n).admBad with
  | some i => (s.admList n).any (·.id == i)
  | none => false

/-- The reason an express frame is refused, if any, in the order of R199. -/
def State.refuseReason (s : State) (i : Nat) (a : AdmIn) (need : Rat) : Option Nat :=
  let f := a.f
  let n := f.outPort
  if 8192 ≤ s.heats then some 1
  else if (s.placeExpress need).isNone then some 2
  else if s.policeStops f.parcel (!f.enc) then some 3
  else if s.enqFails (queueIdx n f.cls f.parcel) f.parcel (cellsOf (s.clsMax n f.cls)) f.dei true then some 4
  else if 64 ≤ (s.admList n).length ∨ s.admPoisoned n then some 5
  else if !s.canSend n then some 6
  else s.predicts n { id := i, cls := f.cls, inPort := f.inPort, adm := s.admEntry a }

/-- GAT_REFUSE_LAST, at the first refusal since VALID was cleared. -/
def State.refuseLast (s : State) (n c reason : Nat) : State :=
  if s.flag F.GAT_REFUSE_LAST_VALID then s
  else (((s.setFld F.GAT_REFUSE_LAST_VALID 1).setFld F.GAT_REFUSE_LAST_REASON reason).setFld F.GAT_REFUSE_LAST_CLASS c).setFld
    F.GAT_REFUSE_LAST_PORT n

/-! ## Going on -/

/-- Bytes of a port's frames in its staging area (R32). -/
def State.stagedBytes (s : State) (n : Nat) : Nat :=
  (s.framesOf fun f => f.staged && f.inPort == n).foldl (fun k e => k + e.2.bytes.length) 0

/-- The fetch of a context asked for: none where 1,024 fetches are pending (R25). -/
def State.fetchCtx (s : State) (sa : Nat) : Option State :=
  if s.sec.misses.contains sa then some s
  else if 1024 ≤ s.sec.misses.length then none
  else some (({ s with sec := { s.sec with misses := s.sec.misses ++ [sa] } }).setFld F.SEC_STATUS_MISS_DEPTH (s.sec.misses.length + 1))

/-- A FORWARD frame past Traverse's checks: its policer or its admission, its context, its staging area (R25, R32, R176, R199).
`late` are the causes of R38 already known that count first if it is dropped here. -/
def State.toTongs (s : State) (i : Nat) (a : AdmIn) (need : Rat) (late : List Cause) : State :=
  let f := a.f
  let gone (s : State) (c : Cause) : State := s.dropIn f (late.headD c)
  let police (s : State) : State :=
    if s.flag (F.BLW_POLICE_W0_EN (State.policeIdx f.parcel (!f.enc))) then s.policeTake f.parcel (!f.enc) else s
  let rest (s : State) (f : Frm) : State :=
    let sa := f.sc * 4 + f.an
    let miss := !s.onChip sa
    match if miss then s.fetchCtx sa else some s with
    | none => gone s { num := 0x18C, scope := 0, parcel := none, cnt := .dev C.SEC_CTX_MISS_DROP }
    | some s' =>
      if 131072 < s.stagedBytes f.inPort + f.bytes.length then gone s (portCause 0x200 f.inPort (C.ANV_HEAT_DROP f.inPort))
      else (s'.setFrame i { f with staged := true, waitCtx := miss, missed := miss }).admSync f.outPort
  if f.express then
    match s.refuseReason i a need with
    | some r => gone (s.refuseLast f.outPort f.cls r) (refusedCause f.outPort f.cls f.parcel)
    | none =>
      let e := s.admEntry a
      rest ((police s).bump (C.GAT_ADMITTED (8 * f.outPort + f.cls)))
        { f with adm := some e, deadline := s.clsDeadline f.outPort f.cls, held := cellsOf (s.clsMax f.outPort f.cls) }
  else if s.policeStops f.parcel (!f.enc) then gone s (parcelCause 0x288 f.parcel (C.BLW_POLICE_DROP f.parcel))
  else rest (police s) f

/-- A CONTROL frame delivered to the control port's queue, or dropped (R59); its reception ends with it. -/
def State.toControl (s : State) (i : Nat) (f : Frm) : State :=
  let n := f.inPort
  let l := f.bytes.length
  if badFcs f.bytes f.badFec && decide (l ≤ s.portMax n) then s.dropIn f (fcsCause n)
  else if s.portMax n < l then s.dropIn f (lenCause n)
  else
    let c := cellsOf l
    if 1024 ≤ (s.queue ctlQueue).frames || decide (s.fld F.BLW_STATUS_FREE_CELLS < c) then
      s.dropIn f { num := 0x289, scope := ctlQueue, parcel := some f.parcel, cnt := .queue ctlQueue }
    else
      let s := ((s.bumpBy (C.PRT_RX_OCTETS n) l).bwCount n 0 l).bump C.TRV_CTL_FRAMES
      let f := { f with outPort := s.openVal % 64, lOut := l, out := f.bytes, ahead := (s.queue ctlQueue).depth }
      let s := s.drew.settle f 0 0 none l
      ({ s with nextEnq := s.nextEnq + 1 }.setFrame i
        { f with outPort := 64, rxEnd := true, first := true, last := true, queue := some ctlQueue, cells := c, enqSeq := s.nextEnq
                 enqDat := s.datumNs }).charge ctlQueue f.parcel c

/-- CONTROL_QUEUE_DEQUEUE (R59): firmware takes the oldest frame. -/
def execControlQueueDequeue (s : State) : Out :=
  match s.headOf ctlQueue with
  | some (i, f) => .next ((s.unqueue f).dropFrame i)
  | none => .next s

/-! ## Arrival -/

/-- A frame as it enters: number, timestamps (R217). -/
def State.enter (s : State) (n : Nat) (lag : BitVec 16) (b : List Byte) (bad : Bool) : State × Nat × Frm :=
  let f : Frm :=
    { inPort := n, enc := decide (n < 32), bytes := b, badFec := bad
      inTs := s.stamp lag.toNat + signed 16 (s.fld (F.DAT_PORT_ADJ_RX_ADJ n))
      tIn := s.cycNs - (lag.toNat : Rat) / 4, synced := s.synced }
  (({ s with nextFrame := s.nextFrame + 1 }).bump (C.PRT_RX_FRAMES n), s.nextFrame, f)

/-- A frame that no header is read of: its port is held, or it is too short. -/
def State.early (s : State) (n : Nat) (b : List Byte) (bad : Bool) : Option Cause :=
  if s.held then some (closedCause n)
  else if b.length < 64 then
    some (if !s.portOpen n then closedCause n else if badFcs b bad then fcsCause n else lenCause n)
  else none

/-- The causes of the port, in the order of R38: closed, FCS, length. -/
def State.portCauses (s : State) (n : Nat) (b : List Byte) (bad : Bool) : List (Bool × Cause) :=
  causeIf true (!s.portOpen n) (closedCause n) ++
  causeIf false (decide (b.length ≤ s.portMax n) && badFcs b bad) (fcsCause n) ++ causeIf false (decide (s.portMax n < b.length)) (lenCause n)

/-- DEI of the outer tag. -/
def Hdr.dei (h : Hdr) : Bool := match h.tags with | t :: _ => t.2 / 4096 % 2 == 1 | [] => false

/-- A bypass frame (R55). -/
def State.bypassIn (s : State) (i : Nat) (f : Frm) (v : Verdict) : State :=
  let n := f.inPort
  let l := f.bytes.length
  let pc := (s.portCauses n f.bytes f.badFec).filter fun c => c.2.num != 0x052
  match s.pairOf n with
  | none => s.dropIn f ((pc ++ [(true, policyCause n v.parcel)]).head?.map (·.2) |>.getD (policyCause n v.parcel))
  | some line =>
    let slot := v.res.slot
    let cs := pc ++ causeIf true (!s.bypHolds slot l) { num := 0x101, scope := slot, parcel := some v.parcel, cnt := .dev (C.TRV_BYPASS_CAP slot) } ++
      causeIf true (s.parcelStops v.parcel) (parcelCause 0x020 v.parcel (C.GLB_PARCEL_DROP v.parcel))
    let f := { f with bypass := true, outPort := line, lOut := l, out := f.bytes, express := false, stored := decide (s.rate n < s.rate line) }
    match earliest cs with
    | some c => s.dropIn f c
    | none =>
      let s := s.bypTake slot l
      if f.stored then s.setFrame i f else s.enqueue i f

/-- CLEAR_FRAME_ARRIVAL (R21, R40): Traverse's verdict on a frame that starts arriving on clear port `n`, `lag` quarter-ns after its
start passed the pins; `b` are its bytes from DA to FCS as they will be received, `bad` says that an uncorrectable codeword
overlaps it. A port that is not UP receives nothing. -/
def execClearFrameArrival (n : Fin 32) (lag : BitVec 16) (b : List Byte) (bad : Bool) (s : State) : Out :=
  if !s.portUp n.val then .next s else
  let (s, i, f) := s.enter n.val lag b bad
  match s.early n.val b bad with
  | some c => .next (s.dropIn f c)
  | none =>
    let (s, v) := s.classifyClear n.val b
    let f := { f with parcel := v.parcel, cls := v.cls, cmd := v.res.cmd, sample := v.res.sample, dei := v.hdr.dei }
    let pc := s.portCauses n.val b bad
    match v.res.action with
    | 3 => .next (s.toControl i f)
    | 2 => .next (s.bypassIn i f v)
    | 1 => .next (s.dropIn f ((earliest (pc ++ [(true, policyCause n.val v.parcel)])).getD (policyCause n.val v.parcel)))
    | _ => match v.tx with
      | .policy => .next (s.dropIn f ((earliest (pc ++ [(true, policyCause n.val v.parcel)])).getD (policyCause n.val v.parcel)))
      | .unknown =>
        let u := parcelCause 0x110 v.parcel (C.PLT_UNKNOWN_DROP v.parcel)
        .next (s.dropIn f ((earliest (pc ++ [(true, u)])).getD u))
      | .sc sc flood =>
        let c := s.chan sc
        let (k, lo) := lensOf c true v.hdr.tags.length v.hdr.off 0 b.length
        let f := { f with sc := sc, an := c.curAn, outPort := c.linePort, express := s.clsExpress c.linePort v.cls
                          stored := decide (s.rate n.val < s.rate c.linePort), slots := k, lOut := lo }
        let cs := pc ++ causeIf true (s.parcelStops v.parcel) (parcelCause 0x020 v.parcel (C.GLB_PARCEL_DROP v.parcel)) ++
          causeIf false (decide (s.clsMax c.linePort v.cls < lo)) (oversizeCause c.linePort v.cls v.parcel)
        match earliest cs with
        | some e => .next (s.dropIn f e)
        | none =>
          let s := if flood then s.bump (C.TRV_FLOOD v.parcel) else s
          .next (s.toTongs i { f := f, c := c, tags := v.hdr.tags.length, off := v.hdr.off, tagLen := 0 }
            (needPace k (s.rate n.val) b.length) (cs.map (·.2)))

/-- The cause for which the state of a receive association, or its replay check, drops a frame (R95, R26). -/
def State.rxCause (s : State) (sa port pn : Nat) : Option Cause :=
  match (s.ctx sa).st with
  | .empty | .installed => some (portCause 0x181 port (C.SEC_RX_NOSA port))
  | .exhausted | .revoked | .unusable => some (s.replayCause sa 6 |> fun c => { c with num := 0x186 })
  | _ => (s.replayBad sa pn).map (s.replayCause sa)

/-- A learning candidate (R69): the request, and whether the frame is dropped for a limit. -/
def State.learnIn (s : State) (n : Nat) (b : List Byte) (v : Verdict) (rx : Nat) : State × Option LearnReq × Bool :=
  let c := s.chan rx
  if s.flag (F.PLT_PARCEL_CFG_LEARN_EN v.parcel) && !v.res.noLearn && frmSa b / 2 ^ 40 % 2 == 0 && c.returnValid then
    s.pltSource v.parcel v.hdr.vid (frmSa b) n rx c.returnSc
  else (s, none, false)

/-- LINE_FRAME_ARRIVAL (R42): the same for line port 32 + `n`. -/
def execLineFrameArrival (n : Fin 32) (lag : BitVec 16) (b : List Byte) (bad : Bool) (s : State) : Out :=
  let n := n.val + 32
  if !s.portUp n then .next s else
  let (s, i, f) := s.enter n lag b bad
  match s.early n b bad with
  | some c => .next (s.dropIn f c)
  | none =>
    let (s, v) := s.classifyLine n b
    let f := { f with parcel := v.parcel, cls := v.cls, cmd := v.res.cmd, sample := v.res.sample, dei := v.hdr.dei }
    let pc := s.portCauses n b bad
    match v.res.action with
    | 3 => .next (s.toControl i f)
    | 0 => match v.tag, v.rx with
      | some t, some rx =>
        let c := s.chan rx
        let sa := 4 * rx + t.an
        let x := s.ctx sa
        let cls := if c.pinned && x.classValid then x.cls else v.cls
        let cmd := v.res.cmd || (c.pinned && x.cmd)
        let (k, lo) := lensOf c false v.hdr.tags.length v.hdr.off t.len b.length
        let pn := s.fullPn sa t.pn
        let f := { f with sc := rx, an := t.an, cls := cls, cmd := cmd, outPort := c.boundClr, express := s.clsExpress c.boundClr cls
                          stored := decide (s.rate n < s.rate c.boundClr), slots := k, lOut := lo, pn := t.pn
                          specReq := s.flag (F.TRV_PORT_CFG_RELEASE n) && v.res.spec && !v.res.cmd }
        let (s, req, limited) := s.learnIn n b v rx
        let sac := if s.onChip sa then s.rxCause sa n pn else none
        let cs := pc ++ causeIf true limited (portCause 0x111 n (C.PLT_LEARN_DROP n)) ++
          causeIf true (s.parcelStops v.parcel) (parcelCause 0x020 v.parcel (C.GLB_PARCEL_DROP v.parcel)) ++
          (match sac with | some e => [(true, e)] | none => []) ++
          causeIf false (decide (s.clsMax c.boundClr cls < lo)) (oversizeCause c.boundClr cls v.parcel)
        match earliest cs with
        | some e => .next (s.dropIn f e)
        | none =>
          .next (s.toTongs i { f := { f with learn := req }, c := c, tags := v.hdr.tags.length, off := v.hdr.off, tagLen := t.len }
            (needPace k (s.rate n) b.length) (cs.map (·.2)))
      | t, _ =>
        let bad := match t with | some t => t.malformed | none => true
        let e := if bad then portCause 0x180 n (C.SEC_RX_BADTAG n) else portCause 0x181 n (C.SEC_RX_NOSA n)
        let cs := pc ++ causeIf true (s.parcelStops v.parcel) (parcelCause 0x020 v.parcel (C.GLB_PARCEL_DROP v.parcel)) ++ [(true, e)]
        .next (s.dropIn f ((earliest cs).getD e))
    | _ => .next (s.dropIn f ((earliest (pc ++ [(true, policyCause n v.parcel)])).getD (policyCause n v.parcel)))

/-! ## The end of reception (R24, R186, R457, R458) -/

/-- A bypass frame whose last byte has come: its charge made exact, its tail drop settled, or, where it was stored, enqueued. -/
def State.bypassDone (s : State) (id : Nat) (f : Frm) : State :=
  let f := { f with last := true }
  let tail (s : State) (g : Frm) : State :=
    let q := g.queue.getD 0
    s.lose id g { num := 0x289, scope := q, parcel := some g.parcel, cnt := .queue q }
  if f.tailDrop then tail s f
  else if f.first then
    let c := cellsOf f.lOut
    let s := s.setFrame id { f with cells := c }
    match f.queue with | some q => s.recharge q f.parcel f.cells c | none => s
  else
    let s := s.enqueue id f
    match s.frame id with
    | some g => if g.tailDrop then tail s g else s
    | none => s

/-- An oversize frame of which bytes have passed: its output ends at exactly MAX_FRAME bytes (R186). -/
def State.cutOversize (s : State) (id : Nat) (f : Frm) : State :=
  let m := s.clsMax f.outPort f.cls
  let c := oversizeCause f.outPort f.cls f.parcel
  let out := f.out.take (m - 4) ++ fcsInverse (f.out.take (m - 4))
  let s := s.account f c 3 m
  (s.setFrame id { f with ended := some c, out := out, lOut := m, learn := none, rel := .stomped, deadline := 0, adm := none
                          issued := s.slotsDone f }).admSync f.outPort

/-- A frame has ended on its port after `got` bytes; fewer than it has means that it was cut short. -/
def State.rxEndAt (s : State) (id got : Nat) : State :=
  match s.frame id with
  | none => s
  | some f =>
    if f.rxEnd || f.origin then s else
    let n := f.inPort
    let l := f.bytes.length
    let long := decide (s.portMax n < min got l)
    let k := if long then s.portMax n + 1 else min got l
    let s := (s.bumpBy (C.PRT_RX_OCTETS n) k).bwCount n 0 k
    let f := { f with rxEnd := true }
    let s := s.setFrame id f
    if f.ended.isSome then (if !f.heat && f.queue.isNone then s.remove id f else s)
    else if long then s.endFrame id f (lenCause n) 3
    else if k < l || badFcs f.bytes f.badFec then s.endFrame id f (fcsCause n) 3
    else if s.clsMax f.outPort f.cls < f.lOut then
      if f.first && !f.tailDrop then s.cutOversize id f else s.lose id f (oversizeCause f.outPort f.cls f.parcel)
    else if f.bypass then s.bypassDone id f
    else s

/-- FRAME_RX_END (R457): frame `id` has ended after `got` bytes, having come in `frags` + 1 fragments (IEEE 802.3br). -/
def execFrameRxEnd (id : Nat) (got : BitVec 16) (frags : BitVec 8) (s : State) : Out :=
  match s.frame id with
  | some f => if f.rxEnd || f.origin then .next s else .next ((s.bumpBy (C.PRT_RX_FRAG f.inPort) frags.toNat).rxEndAt id got.toNat)
  | none => .next s

/-! ## Context fetches (R25, R115, R117) -/

/-- CONTEXT_FETCH_DONE (R25): the fetch of association `sa` ends; `good` says that Temper's integrity check passed, which it
cannot once Temper's memory keys are gone (R254). Where it failed the association is UNUSABLE, and its waiting frames are
dropped at dispatch. -/
def execContextFetchDone (sa : BitVec 18) (good : Bool) (s : State) : Out :=
  let sa := sa.toNat
  if s.sec.misses.contains sa then
    let s := { s with sec := { s.sec with misses := s.sec.misses.filter (· != sa) } }
    let s := (s.setFld F.SEC_STATUS_MISS_DEPTH s.sec.misses.length).cacheIn sa
    let s := if good && !s.sec.ddrLost then s else s.toUnusable sa false
    .next ((s.framesOf fun f => f.waitCtx && f.sc * 4 + f.an == sa).foldl (fun s e => s.setFrame e.1 { e.2 with waitCtx := false }) s)
  else .next s

/-! ## Tongs (R128 to R131) -/

/-- No frame that must go first holds frame `i` back: of its channel and class, of its channel where one waits for a context, or of
its port's express and command classes (R25, R31, R33). -/
def State.dispatchable (s : State) (i : Nat) (f : Frm) : Bool :=
  f.staged && !f.waitCtx &&
  (s.framesOf fun g => g.staged && g.enc == f.enc && g.sc == f.sc && (g.waitCtx || g.cls == f.cls)).all (fun e => decide (i ≤ e.1)) &&
  (f.prio || (s.framesOf fun g => g.staged && g.inPort == f.inPort && !g.waitCtx && g.prio).isEmpty)

/-- A switch that is due, or that AUTO_NEXT makes (R97, R98, R100). -/
def State.txSwitch (s : State) (sc : Nat) : State :=
  let s := s.dueSwitch sc
  let c := s.chan sc
  if (s.ctx (4 * sc + c.curAn)).st = .exhausted ∧ c.autoNext ∧ s.switchable sc c.swAn then s.doSwitch sc c.swAn else s

/-- A PN drawn (R23, R101 to R104, R111, R114). -/
def State.drawPn (s : State) (sa : Nat) : State :=
  let c := s.saChan sa
  let x := s.ctx sa
  let pn := x.next
  let s := (s.setCtx sa { x with next := pn + 1, softDone := x.softDone || decide (x.soft ≤ pn) }).tieDrew sa 0 pn (pn + 1)
  let s := if x.soft ≤ pn ∧ !x.softDone then s.saEvent 0x187 sa 0 pn else s
  let s := if c.static_ ∧ x.resvNext.isNone ∧ x.resv ≤ pn + 1 + 2 ^ 39 then
      (s.setCtx sa { s.ctx sa with resvNext := some (x.resv + 2 ^ 40) }).commitLater 2 sa (.pn (x.resv + 2 ^ 40)) else s
  if x.limit ≤ pn then s.toExhausted sa
  else if c.static_ ∧ x.resv ≤ pn + 1 then (s.saEvent 0x189 sa 0 (pn + 1)).toExhausted sa
  else s

/-- The association a frame will be dispatched under, after the switches due, its revocation mark applied (R244). -/
def State.dispatchSa (s : State) (f : Frm) : State × Frm :=
  let s := if f.enc then
      let s := (s.guardRaise (4 * f.sc + (s.chan f.sc).curAn)).txSwitch f.sc
      s.guardRaise (4 * f.sc + (s.chan f.sc).curAn) else s
  let f := if f.enc then { f with an := (s.chan f.sc).curAn } else f
  (if s.onChip f.sa && (s.ctx f.sa).marked then s.toRevoked f.sa true else s, f)

/-- Why a frame is dropped at dispatch. -/
def State.dispatchCause (s : State) (f : Frm) : Option Cause :=
  if f.enc then
    if (s.ctx f.sa).st = .active then none
    else some { num := 0x186, scope := f.sa, parcel := some f.parcel, cnt := .sa f.sa 4 }
  else match s.rxCause f.sa f.inPort (s.fullPn f.sa f.pn) with
    | some c => if (c.num == 0x182 || c.num == 0x183) && !f.missed then none else some c
    | none => none

/-- A frame's anvil, its pace, and the stream set aside for it. -/
def State.place (s : State) (f : Frm) (need : Rat) : Option (Nat × Rat × Option (Nat × Frm)) :=
  if f.prio then (s.placeExpress need).map fun p => (p.1, need, p.2) else (s.placeOrdinary need).map fun p => (p.1, p.2, none)

/-- A frame that waits for an anvil, counted once (R130, R131). -/
def State.waitAnvil (s : State) (i : Nat) (f : Frm) : State :=
  if f.waited then s
  else
    let s := s.setFrame i { f with waited := true }
    if f.prio then s.drop 0x203 f.inPort none (.dev (C.ANV_XWAIT f.inPort)) else s.bump (C.ANV_PLACE_WAIT f.inPort)

/-- The frame handed to its stream: heat, PN, key, output (R23, R30, R118, R128). -/
def State.handOff (s : State) (i : Nat) (f : Frm) (a : Nat) (g : Rat) (save : Option (Nat × Frm)) : State :=
  let s := match save with | some v => s.shadowSave a v.1 v.2 | none => s
  let c := s.chan f.sc
  let x := s.ctx f.sa
  let h := s.parseHdr f.bytes
  let pn := if f.enc then x.next else s.fullPn f.sa f.pn
  let out := match x.key, h.secTag f.bytes with
    | some k, t => if f.enc then secure c f.an k pn h f.bytes else match t with | some t => (unsecure c k pn h t f.bytes).1 | none => []
    | none, _ => []
  let f := { f with staged := false, heat := true, anvil := some a, stream := s.freeStream a, pace := g, tHand := s.cyc, tIssue := s.cyc
                    keyGen := x.keyGen, key := x.key, pn := pn, out := out }
  let s := (s.heatTake f.parcel).setFrame i f
  let s := if f.enc then
      let u := f.bytes.length - 16 - 4 * min c.clearTags h.tags.length
      let s := (s.saAdd f.sa (if c.conf then 1 else 0) 1).saAdd f.sa (if c.conf then 3 else 2) u
      s.drawPn f.sa
    else s
  (s.cacheTouch f.sa).anvSync a

/-- TONGS_DISPATCH (R128): frame `id`, where it may go next. -/
def execTongsDispatch (id : Nat) (s : State) : Out :=
  match s.frame id with
  | none => .next s
  | some f =>
    if !s.dispatchable id f || !s.heatFree f.prio then .next s else
    let (s, f) := s.dispatchSa f
    if f.enc && (s.ctx f.sa).resvWait then .next s
    else if !s.onChip f.sa then
      match s.fetchCtx f.sa with
      | some s => .next (s.setFrame id { f with waitCtx := true, missed := true })
      | none => .next (s.lose id f { num := 0x18C, scope := 0, parcel := none, cnt := .dev C.SEC_CTX_MISS_DROP })
    else match s.dispatchCause f with
      | some c => .next (s.lose id f c)
      | none =>
        let x := s.ctx f.sa
        let f := if f.enc then f else
          { f with cls := if x.classValid then x.cls else f.cls, cmd := f.cmd || x.cmd }
        let f := { f with express := s.clsExpress f.outPort f.cls }
        match s.place f (needPace f.slots (s.rate f.inPort) f.bytes.length) with
        | some (a, g, save) => .next (s.handOff id f a g save)
        | none => .next (s.waitAnvil id f)

/-- RESERVATION_DURABLE (R111): the block that association `sa` waits for stands in the store. -/
def execReservationDurable (sa : BitVec 18) (s : State) : Out :=
  let sa := sa.toNat
  let x := s.ctx sa
  match x.resvNext, s.current 2 sa with
  | some v, some r =>
    if r.pay = .pn v then
      .next (s.setCtx sa { x with resv := v, resvNext := none, resvWait := false, st := if x.resvWait && x.st == .empty then .installed else x.st })
    else .next s
  | _, _ => .next s

end Sys2Proof.Machine
end

