-- ==== Sys2Proof/Machine/Ports.lean ====
section
/-! DEFINITION. Machine/Ports.lean: lanes, link states, transmit availability, sleep, link tests, and the opening and closing
of ports (spec/19_lanes_and_ports.md, R479, R480). -/

namespace Sys2Proof.Machine

/-! ## Transmit availability (R455, R456) -/

/-- Admitted frames not started at a port whose transmit is lost lose their admission (R456). -/
def State.admLost (s : State) (n : Nat) : State :=
  ((s.framesOf fun f => f.adm.isSome && f.outPort == n).foldl (fun s e =>
    s.setFrame e.1 { e.2 with adm := none, deadline := 0, held := 0 }) s).admSync n

/-- TX_AVAIL and UNIDIR follow; a change of TX_AVAIL raises event 0x04B. -/
def State.txSync (s : State) (n : Nat) : State :=
  let c := s.txCause n
  let s := s.setFlag (F.PRT_PORT_W2_UNIDIR n) (s.portActive n && s.rxAsleep n != s.txAsleep n)
  if s.txAvail n = decide (c = 0) then s
  else
    let s := (s.setFlag (F.PRT_PORT_W2_TX_AVAIL n) (c == 0)).raise { num := 0x04B, scope := n, arg := b2n (c == 0) + 2 * c }
    if c = 0 then s else s.admLost n

/-! ## Receive state (R453) -/

/-- A port enters a receive state. -/
def State.enterState (s : State) (n st : Nat) : State :=
  { s with prt := { s.prt with since := tabSet 0 s.prt.since n s.cyc } }.setFld (F.PRT_PORT_W2_STATE n) st

/-- Every receive lane awake, with signal and clock. -/
def State.lanesReady (s : State) (n : Nat) : Bool :=
  (s.rxLanes n).all fun i => s.rxAwake i && s.flag (F.SRD_LANE_W2_SIGNAL i) && s.flag (F.SRD_LANE_W2_CDR_LOCK i)

/-- A port that is DOWN goes on to TRAINING or ALIGNING once its lanes are ready. -/
def State.acquire (s : State) (n : Nat) : State :=
  if s.portState n = 1 ∧ s.lanesReady n then
    if (s.rxLanes n).any fun i => s.flag (F.SRD_LANE_W0_CHAN i) then
      ((s.rxLanes n).foldl (fun s i => s.setFld (F.SRD_LANE_W2_TRAINED i) 0) s).enterState n 2
    else ((s.rxLanes n).foldl (fun s i => s.setFld (F.SRD_LANE_W2_TRAINED i) 1) s).enterState n 3
  else s

/-- Frames in progress on receive at a port end where they are (R457); how far they had come is left open. -/
def State.truncate (s : State) (n : Nat) : State :=
  (s.framesOf fun f => f.inPort == n && !f.rxEnd && !f.origin).foldl (fun s e => s.drew.rxEndAt e.1 (s.openVal % max 1 e.2.bytes.length)) s

/-- Departure of a port from UP to DOWN; causes 0 signal, 1 CDR lock, 2 block or marker lock, 3 FEC sync, 4 high bit-error state,
5 a restart. -/
def State.linkDown (s : State) (n cause : Nat) : State :=
  let s := s.bump (C.PRT_LINK_DOWN n)
  let s := (s.enterState n 1).raise { num := 0x041, scope := n, arg := cause }
  let s := (s.setFld (F.PRT_PORT_W2_LOCAL_FAULT n) 1).setFld (F.PRT_PORT_W2_REMOTE_FAULT n) 0
  ((s.truncate n).mmDown n).txSync n

/-- Back to DOWN from whatever acquisition is under way, and tried again. -/
def State.toDown (s : State) (n cause : Nat) : State :=
  let st := s.portState n
  if st = 4 then s.linkDown n cause
  else if st = 2 ∨ st = 3 then (s.enterState n 1).txSync n else s

/-- LANE_SIGNAL_CHANGE (R453): physical lane `i` has signal and clock, or not; a sleeping receiver sees nothing. -/
def execLaneSignalChange (i : Fin 64) (sig cdr : Bool) (s : State) : Out :=
  let i := i.val
  if !s.rxAwake i then .next s
  else
    let had := s.flag (F.SRD_LANE_W2_SIGNAL i) && s.flag (F.SRD_LANE_W2_CDR_LOCK i)
    let s := (s.setFlag (F.SRD_LANE_W2_SIGNAL i) sig).setFlag (F.SRD_LANE_W2_CDR_LOCK i) (sig && cdr)
    match s.portOfRx i with
    | none => .next s
    | some n =>
      if had && !(sig && cdr) then
        .next ((s.raise { num := 0x042, scope := i, arg := n }).toDown n (if sig then 1 else 0))
      else .next (s.acquire n)

/-- TRAINING_DONE (R453). -/
def execTrainingDone (n : Fin 64) (s : State) : Out :=
  if s.portState n.val = 2 then
    .next (((s.rxLanes n.val).foldl (fun s i => s.setFld (F.SRD_LANE_W2_TRAINED i) 1) s).enterState n.val 3)
  else .next s

/-- TRAINING_TIMEOUT (R454): 500 ms in TRAINING. -/
def execTrainingTimeout (n : Fin 64) (s : State) : Out :=
  if s.portState n.val = 2 && s.passed (tabGet 0 s.prt.since n.val) (500 * cycMs) then
    let s := (s.rxLanes n.val).foldl (fun s i => s.raise { num := 0x043, scope := i, arg := n.val }) s
    .next ((s.enterState n.val 1).acquire n.val)
  else .next s

/-- ALIGNMENT_DONE (R453). -/
def execAlignmentDone (n : Fin 64) (s : State) : Out :=
  let n := n.val
  if s.portState n = 3 then
    let s := ((s.enterState n 4).setFld (F.PRT_PORT_W2_LOCAL_FAULT n) 0).raise { num := 0x040, scope := n }
    .next (((s.setFld (F.PRT_PORT_W1_RESTART n) 0).mmUp n).txSync n)
  else .next s

/-- ALIGNMENT_TIMEOUT (R453): 100 ms in ALIGNING. -/
def execAlignmentTimeout (n : Fin 64) (s : State) : Out :=
  if s.portState n.val = 3 && s.passed (tabGet 0 s.prt.since n.val) (100 * cycMs) then .next ((s.enterState n.val 1).acquire n.val)
  else .next s

/-- LINK_DOWN (R453): block or marker lock, FEC sync or the bit-error state takes an UP port down. -/
def execLinkDown (n : Fin 64) (cause : Fin 3) (s : State) : Out :=
  if s.portUp n.val then .next ((s.linkDown n.val (2 + cause.val)).acquire n.val) else .next s

/-- REMOTE_FAULT_CHANGE (R455). -/
def execRemoteFaultChange (n : Fin 64) (on : Bool) (s : State) : Out :=
  if s.portUp n.val then .next ((s.setFlag (F.PRT_PORT_W2_REMOTE_FAULT n.val) on).txSync n.val) else .next s

/-- A write of PRT_PORT_CTL. -/
def State.portCtlWrite (s : State) (w : World) (n : Nat) (v : Word) : State :=
  secureOnly w (F.PRT_PORT_W1_RESTART n).addr (fun s =>
    if bitsOf v 31 1 = 1 ∧ 1 ≤ s.portState n ∧ s.portState n ≤ 4 then
      ((s.setFld (F.PRT_PORT_W1_RESTART n) 1).toDown n 5).acquire n
    else s) s

/-- PORT_RESTART (R453). -/
def execPortRestart (w : World) (n : Fin 64) (s : State) : Out := .next (s.portCtlWrite w n.val 0x80000000)

/-- A port taken into use or out of it by an applied image. -/
def State.portActivate (s : State) (n : Nat) (on : Bool) : State :=
  if on then (if s.portState n = 0 then ((s.enterState n 1).acquire n).txSync n else s)
  else if s.portState n = 0 then s
  else
    let s := if s.portUp n then (s.truncate n).mmDown n else s
    (s.enterState n 0).txSync n

/-! ## Opening and closing (R479, R480) -/

/-- A bit of GLB_OPEN and PRT_PORT_STATUS.OPEN. -/
def State.setOpen (s : State) (n : Nat) (on : Bool) : State :=
  let f : Fld := if n < 32 then { F.GLB_OPEN_LO_OPEN with lo := n, width := 1 } else { F.GLB_OPEN_HI_OPEN with lo := n - 32, width := 1 }
  (s.setFlag f on).setFlag (F.PRT_PORT_W2_OPEN n) on

def State.openPort (s : State) (n : Nat) : State :=
  if s.portOpen n then s else (s.setOpen n true).raise { num := 0x011, scope := n }

def State.closePort (s : State) (n : Nat) : State :=
  if s.portOpen n then (s.setOpen n false).raise { num := 0x012, scope := n } else s

/-- Line port `n` carries keys both ways. -/
def State.portKeyed (s : State) (n : Nat) : Bool :=
  (s.sec.chans.any fun e => e.2.valid && !e.2.dir && e.2.linePort == n && (s.ctx (4 * e.1 + e.2.curAn)).st == .active) &&
  (s.sec.ctxs.any fun e => (s.saChan e.1).valid && (s.saChan e.1).dir && (s.saChan e.1).linePort == n && e.2.st == .active)

/-- The conditions of R479 at line port 32 + `k`. -/
def State.mayOpen (s : State) (k : Nat) : Bool :=
  s.fld F.GLB_BOOT_STAGE == 4 && !s.held && !s.otp.retired && s.portActive (32 + k) && (bitSet (s.fld F.GLB_OPEN_CFG_KEYLESS) k || s.portKeyed (32 + k))

/-- PORT_OPEN (R479): line port 32 + `k` and the clear ports mapped to it open, once its conditions hold. -/
def execPortOpen (k : Fin 32) (s : State) : Out :=
  if s.mayOpen k.val then
    .next (((List.range 32).filter fun c => s.pairOf c == some (32 + k.val)).foldl State.openPort (s.openPort (32 + k.val)))
  else .next s

/-! ## Sleep (R460) -/

/-- A frame is on the wire of the port that a transmit lane serves. -/
def State.laneSending (s : State) (i : Nat) : Bool :=
  match s.portOfTx i with
  | some n => !(s.framesOf fun f => f.sending && !f.preempted && f.outPort == n).isEmpty
  | none => false

/-- Transmitters told to sleep do so once no frame is on their wire. -/
def State.sleepTx (s : State) (i : Nat) : State :=
  if s.flag (F.SRD_LANE_W1_TX_SLEEP i) && s.txAwake i && !s.laneSending i then
    let s := (s.setFld (F.SRD_LANE_W2_TX_AWAKE i) 0).raise { num := 0x048, scope := i, arg := 0 }
    match s.portOfTx i with | some n => s.txSync n | none => s
  else s

/-- Receivers told to sleep do so; their signal is gone. -/
def State.sleepRx (s : State) (i : Nat) : State :=
  if s.flag (F.SRD_LANE_W1_RX_SLEEP i) && s.rxAwake i then
    let s := (s.setFld (F.SRD_LANE_W2_RX_AWAKE i) 0).raise { num := 0x048, scope := i, arg := 2 }
    let s := (s.setFld (F.SRD_LANE_W2_SIGNAL i) 0).setFld (F.SRD_LANE_W2_CDR_LOCK i) 0
    match s.portOfRx i with | some n => (s.toDown n 0).txSync n | none => s
  else s

/-- Whether the reference clock of a lane is absent (R472). -/
def State.refLost (s : State) (i : Nat) : Bool := s.prt.refGone.getLsbD (i / 16)

/-- LANE_WAKE_DONE (R460): event 0x048 carries in bit 0 that the lane is awake and in bit 1 that it is the receiver. -/
def execLaneWakeDone (i : Fin 64) (rx : Bool) (s : State) : Out :=
  let i := i.val
  if s.refLost i then .next s
  else if rx then
    if !s.flag (F.SRD_LANE_W1_RX_SLEEP i) && !s.rxAwake i then
      let s := (s.setFld (F.SRD_LANE_W2_RX_AWAKE i) 1).raise { num := 0x048, scope := i, arg := 3 }
      match s.portOfRx i with | some n => .next (s.txSync n) | none => .next s
    else .next s
  else if !s.flag (F.SRD_LANE_W1_TX_SLEEP i) && !s.txAwake i then
    let s := (s.setFld (F.SRD_LANE_W2_TX_AWAKE i) 1).raise { num := 0x048, scope := i, arg := 1 }
    match s.portOfTx i with | some n => .next (s.txSync n) | none => .next s
  else .next s

/-- SERDES_REFERENCE_CHANGE (R472): a reference clock is found absent, with event 0x04A once per CHIP reset, or returns. -/
def execSerdesReferenceChange (r : Fin 4) (present : Bool) (s : State) : Out :=
  let bit : BitVec 4 := BitVec.twoPow 4 r.val
  if present then .next { s with prt := { s.prt with refGone := s.prt.refGone &&& ~~~bit } }
  else
    let told := s.prt.refTold.getLsbD r.val
    let s := { s with prt := { s.prt with refGone := s.prt.refGone ||| bit, refTold := s.prt.refTold ||| bit } }
    .next (if told then s else s.raise { num := 0x04A, scope := r.val })

/-! ## Lane tests (R461 to R465) -/

/-- A test field is set on a lane. -/
def State.laneTests (s : State) (i : Nat) : Bool :=
  s.fld (F.SRD_LANE_W1_LOOP i) != 0 || s.flag (F.SRD_LANE_W3_GEN_EN i) || s.flag (F.SRD_LANE_W3_CHK_EN i)

/-- The active port of a lane, on either side. -/
def State.portOfLane (s : State) (i : Nat) : Option Nat := match s.portOfTx i with | some n => some n | none => s.portOfRx i

/-- A port enters or leaves TEST as its lanes' test fields say (R453, R462). -/
def State.testSync (s : State) (n : Nat) : State :=
  let on := (s.txLanes n ++ s.rxLanes n).any s.laneTests
  let st := s.portState n
  if on && st != 5 then
    let s := if st = 4 then (s.truncate n).mmDown n else s
    ((s.enterState n 5).raise { num := 0x047, scope := n, arg := 1 }).txSync n
  else if !on && st == 5 then (((s.enterState n 1).raise { num := 0x047, scope := n, arg := 0 }).acquire n).txSync n
  else s

/-- A test field written by `f` on lane `i`: ignored with event 0x049 where it would put an open port into TEST without
TEST_OK (R462). -/
def State.testWrite (s : State) (i : Nat) (f : State → State) : State :=
  match s.portOfLane i with
  | none => f s
  | some n =>
    let t := f s
    if t.laneTests i && !s.laneTests i && s.portState n != 5 && s.portOpen n && !s.flag (F.PRT_PORT_W0_TEST_OK n) then
      s.raise { num := 0x049, scope := i, arg := n }
    else t.testSync n

/-- Lane rate in Mb/s. -/
def State.laneRate (s : State) (i : Nat) : Rat := match s.fld (F.SRD_LANE_W0_RATE i) with
  | 0 => 103125 / 10000 | 1 => 2578125 / 100000 | 2 => 53125 / 1000 | _ => 10625 / 100

/-- The pattern fits the lane's modulation (R463). -/
def State.patternOk (s : State) (i : Nat) : Bool :=
  decide (s.fld (F.SRD_LANE_W0_RATE i) ≤ 1) == decide (s.fld (F.SRD_LANE_W3_PATTERN i) ≤ 4)

def State.laneBits (s : State) (i : Nat) : Nat := s.fld (F.SRD_LANE_W6_BITS i) + 2 ^ 32 * s.fld (F.SRD_LANE_W7_BITS i)

/-- The bits a locked checker has compared since they were last counted, added. -/
def State.prbsCount (s : State) (i : Nat) : State :=
  let t := s.elapsed (tabGet 0 s.prt.prbsAt i)
  let s := { s with prt := { s.prt with prbsAt := tabSet 0 s.prt.prbsAt i s.cyc } }
  if s.flag (F.SRD_LANE_W4_LOCK i) then
    let b := s.laneBits i + (s.laneRate i * cycToNs t).floor.toNat
    (s.setFld (F.SRD_LANE_W6_BITS i) (b % 2 ^ 32)).setFld (F.SRD_LANE_W7_BITS i) (b / 2 ^ 32)
  else s

/-- Errors a locked checker has seen, saturating. -/
def State.prbsErr (s : State) (i n : Nat) : State :=
  if s.flag (F.SRD_LANE_W4_LOCK i) then s.setFld (F.SRD_LANE_W5_ERR i) (min (2 ^ 32 - 1) (s.fld (F.SRD_LANE_W5_ERR i) + n)) else s

/-- ⌊10 log10(bits ÷ errors)⌋, at most 255 (R465). -/
def qualOf (bits err : Nat) : Nat :=
  if bits < 1000000 then 0
  else ((List.range 256).filter fun q => decide (10 ^ q * (max 1 err) ^ 10 ≤ bits ^ 10)).foldl max 0

/-- PRBS_LOCK_CHANGE (R463): the checker of lane `i` takes lock or loses it. -/
def execPrbsLockChange (i : Fin 64) (lock : Bool) (s : State) : Out :=
  let i := i.val
  let s := s.prbsCount i
  if lock then
    if s.flag (F.SRD_LANE_W3_CHK_EN i) && s.patternOk i then .next (s.setFld (F.SRD_LANE_W4_LOCK i) 1) else .next s
  else if s.flag (F.SRD_LANE_W4_LOCK i) then
    .next (((s.setFld (F.SRD_LANE_W4_LOCK i) 0).setFld (F.SRD_LANE_W4_LOST i) 1).raise39 0x046 i none .none)
  else .next s

/-- QUAL_UPDATE (R465): 1.024 ms since the last; `err` errors have been seen meanwhile. -/
def execQualUpdate (i : Fin 64) (err : BitVec 32) (s : State) : Out :=
  let i := i.val
  if s.passed (tabGet 0 s.prt.qualAt i) 1536000 then
    let s := { s with prt := { s.prt with qualAt := tabSet 0 s.prt.qualAt i s.cyc } }
    let s := (s.prbsCount i).prbsErr i err.toNat
    .next (s.setFld (F.SRD_LANE_W4_QUAL i) (qualOf (s.laneBits i) (s.fld (F.SRD_LANE_W5_ERR i))))
  else .next s

/-- One error injected: the lane's own checker sees it through a near-end loop (R461, R464). -/
def State.inject (s : State) (i : Nat) : State :=
  let l := s.fld (F.SRD_LANE_W1_LOOP i)
  if l = 1 ∨ l = 2 then s.prbsErr i 1 else s

/-- Counters of a lane's checker zeroed. -/
def State.prbsClear (s : State) (i : Nat) : State :=
  let s := { s with prt := { s.prt with prbsAt := tabSet 0 s.prt.prbsAt i s.cyc } }
  (((s.setFld (F.SRD_LANE_W6_BITS i) 0).setFld (F.SRD_LANE_W7_BITS i) 0).setFld (F.SRD_LANE_W5_ERR i) 0).setFld (F.SRD_LANE_W4_QUAL i) 0

/-- A write of SRD_LANE_CTL: the sleep fields from the secure world only, the loop fields from any (R15, R460, R461). -/
def State.laneCtlWrite (s : State) (w : World) (i : Nat) (v : Word) : State :=
  let a := (F.SRD_LANE_W1_TX_SLEEP i).addr
  let s := if w.isSecure then s else s.secureRefused a w
  let s := s.testWrite i fun s => (s.setFld (F.SRD_LANE_W1_LOOP i) (bitsOf v 28 2)).setFld (F.SRD_LANE_W1_LOOP_TX i) (bitsOf v 27 1)
  if w.isSecure then
    (((s.setFld (F.SRD_LANE_W1_TX_SLEEP i) (bitsOf v 31 1)).setFld (F.SRD_LANE_W1_RX_SLEEP i) (bitsOf v 30 1)).sleepTx i).sleepRx i
  else s

/-- A write of SRD_LANE_PRBS_CFG. -/
def State.prbsCfgWrite (s : State) (i : Nat) (v : Word) : State :=
  let s := s.prbsCount i
  let s := s.testWrite i fun s =>
    let s := (s.setFld (F.SRD_LANE_W3_GEN_EN i) (bitsOf v 31 1)).setFld (F.SRD_LANE_W3_CHK_EN i) (bitsOf v 30 1)
    let s := (s.setFld (F.SRD_LANE_W3_PATTERN i) (bitsOf v 27 3)).setFld (F.SRD_LANE_W3_INJ_RATE i) (bitsOf v 21 5)
    if s.flag (F.SRD_LANE_W3_CHK_EN i) && s.patternOk i then s else s.setFld (F.SRD_LANE_W4_LOCK i) 0
  let s := if bitsOf v 20 1 = 1 then s.prbsClear i else s
  if bitsOf v 26 1 = 1 then s.inject i else s

/-- LANE_SLEEP_WRITE (R460): SRD_LANE_CTL written. -/
def execLaneSleepWrite (w : World) (i : Fin 64) (v : Word) (s : State) : Out := .next (s.laneCtlWrite w i.val v)

/-- TEST_FIELD_WRITE (R462): SRD_LANE_CTL written, or SRD_LANE_PRBS_CFG. -/
def execTestFieldWrite (w : World) (i : Fin 64) (prbs : Bool) (v : Word) (s : State) : Out :=
  .next (if prbs then s.prbsCfgWrite i.val v else s.laneCtlWrite w i.val v)

/-- INJ (R464): INJ written to lane `i`, its other fields as they stand. -/
def execPrbsInj (i : Fin 64) (s : State) : Out := .next ((s.prbsCount i.val).inject i.val)

/-- PRBS_CLR (R463). -/
def execPrbsClr (i : Fin 64) (s : State) : Out := .next (s.prbsClear i.val)

/-! ## FEC (R459) -/

/-- FEC_INTERVAL (R459): another 1.024 µs at port `n`: codewords corrected and uncorrectable, symbols corrected, and blocks found
invalid. -/
def execFecInterval (n : Fin 64) (corr uncorr sym bad : BitVec 16) (s : State) : Out :=
  let n := n.val
  if s.passed (tabGet 0 s.prt.fecAt n) 1536 && s.portUp n then
    let s := { s with prt := { s.prt with fecAt := tabSet 0 s.prt.fecAt n s.cyc } }
    let s := s.bumpBy (C.PRT_BAD_BLOCK n) bad.toNat
    if s.fld (F.PRT_PORT_W0_FEC n) < 2 then .next s
    else
      let s := (s.bumpBy (C.PRT_FEC_CORR n) corr.toNat).bumpBy (C.PRT_FEC_SYMBOLS n) sym.toNat
      let s := s.bumpBy (C.PRT_FEC_UNCORR n) uncorr.toNat
      let s := if uncorr = 0 then s else s.raise39 0x044 n none (.dev (C.PRT_FEC_UNCORR n))
      let lim := s.fld (F.PRT_PORT_W3_DEG_SYM n)
      if lim ≠ 0 ∧ lim < sym.toNat then .next ((s.setFld (F.PRT_PORT_W2_DEGRADED n) 1).raise39 0x044 n none (.dev (C.PRT_FEC_UNCORR n)))
      else .next (s.setFld (F.PRT_PORT_W2_DEGRADED n) 0)
  else .next s

end Sys2Proof.Machine
end

