-- ==== Sys2Proof/Machine/Link.lean ====
section
/-! DEFINITION. Machine/Link.lean: squelch, and what the rest of the chip shares with the Tie link: messages sent, roles and the
release of the interlock (spec/16_tie_pair.md). -/

namespace Sys2Proof.Machine

/-! ## Squelch (R36, R204, R385, R409) -/

def abortCause (n : Nat) : Cause := { num := 0x058, scope := n, parcel := none, cnt := .dev (C.PRT_TX_ABORT n) }

/-- A frame that a squelch or a HOLD ends: counted in PRT_TX_ABORT, unless it had been counted; what of it is still to come is
discarded. -/
def State.abortFrame (s : State) (i : Nat) (f : Frm) : State :=
  let n := f.outPort
  let s := if f.ended.isSome then s else s.account f (abortCause n) (if f.sending then 3 else 1) f.lOut
  if f.rxEnd && (f.last || !f.heat) then s.remove i f
  else ((s.unqueue f).setFrame i
    { f with ended := some (abortCause n), sending := false, preempted := false, adm := none, deadline := 0, rel := .stomped
             queue := none, learn := none }).admSync n

def State.abortAll (s : State) (p : Frm → Bool) : State := (s.framesOf p).foldl (fun s e => s.abortFrame e.1 e.2) s

/-- Every transmit lane squelched: the frames on the wire end. -/
def State.squelch (s : State) : State :=
  let s := (List.range 64).foldl (fun s i => s.setFld (F.SRD_LANE_W2_SQUELCH i) 1) s
  (List.range 64).foldl State.txSync (s.abortAll fun f => f.sending)

/-- Every transmit lane leaves electrical idle. -/
def State.unsquelch (s : State) : State :=
  (List.range 64).foldl State.txSync ((List.range 64).foldl (fun s i => s.setFld (F.SRD_LANE_W2_SQUELCH i) 0) s)

/-! ## The Tie link (R385, R387, R389, R398) -/

def State.tieOn (s : State) : Bool := s.flag F.TIE_CFG_EN

def State.role (s : State) : Nat := s.fld F.TIE_STATUS_ROLE

def State.strap (s : State) : Nat := s.fld F.TIE_STATUS_STRAP

namespace Role
def alone : Nat := 0
def forming : Nat := 1
def active : Nat := 2
def standby : Nat := 3
def activeIso : Nat := 4
def standbyIso : Nat := 5
def taking : Nat := 6
def swapping : Nat := 7
end Role

/-- A role taken up: event 0x3C0 carries it and the one before. -/
def State.setRole (s : State) (r : Nat) : State :=
  if s.role = r then s
  else (s.setFld F.TIE_STATUS_ROLE r).raise { num := 0x3C0, arg := r + 8 * s.role }

/-- The lanes squelched and TIE_HOLD_OUT released (R385). -/
def State.tieRelease (s : State) : State :=
  (({ s with tie := { s.tie with wait := none } }).setFld F.TIE_STATUS_HOLD_OUT 0).squelch

/-- A chip of a pair reports its own fault: a FAULT message, and the interlock released (R398). -/
def State.tieFault (s : State) (cause : Nat) : State :=
  if !s.tieOn || s.tie.faulted then s
  else (({ s with tie := { s.tie with faulted := true } }).tieSend { typ := 6, args := [cause] }).tieRelease

/-! ## Sequences and their comparison (R392 to R395) -/

/-- A sequence of egress port `n` and class `c`. -/
def State.tieSeq (s : State) (k : Nat) : TieSeq := tabGet {} s.tie.seqs k
def State.setTieSeq (s : State) (k : Nat) (q : TieSeq) : State := { s with tie := { s.tie with seqs := tabSet {} s.tie.seqs k q } }

def crc64Bit (c : BitVec 64) : BitVec 64 := if c.getLsbD 63 then (c <<< 1) ^^^ 0x42F0E1EBA9EA3693#64 else c <<< 1

def crc64Byte (c : BitVec 64) (b : Byte) : BitVec 64 :=
  (List.range 8).foldl (fun c _ => crc64Bit c) (c ^^^ (b.zeroExtend 64 <<< 56))

/-- CRC-64 of ECMA-182, carried on from `c`. -/
def crc64 (c : BitVec 64) (l : List Byte) : BitVec 64 := l.foldl crc64Byte c

/-- A mark: 12 bytes (R387). -/
def State.markBytes (s : State) (k : Nat) : List Byte :=
  let x := s.ctx (k / 2)
  leBytes 4 (k / 2 + 2 ^ 31 * (k % 2)) ++ leBytes 8 (if k % 2 = 0 then x.next else x.high)

/-- Up to `n` marks taken for a message that the active sends (R396). -/
def State.takeMarks (s : State) (n : Nat) : State × List Byte :=
  ({ s with tie := { s.tie with outMarks := s.tie.outMarks.drop n } }, (s.tie.outMarks.take n).flatMap s.markBytes)

/-- A self-check begins, at most one per 10 ms (R395). -/
def State.startCheck (s : State) (first : BitVec 64) : State :=
  let soon := match s.tie.checkAt with | some t => !s.passed t (10 * cycMs) | none => false
  if soon then s
  else (({ s with tie := { s.tie with check := some s.cyc, checkAt := some s.cyc, checkFrom := first, own := none
                                      partner := none } }).tieSend { typ := 7, args := [0] }).bump C.TIE_SELFCHK_RUN

/-- The first Datum time at least 100 µs ahead, as a realignment names it (R393). -/
def State.ahead100 (s : State) : BitVec 64 := s.datumNs + 100000#64

/-- A mismatch of block `b` of sequence `k` (R393 to R395): reason 1 DIGEST, 2 MISSING.  Until the first realignment completes it
is counted and recorded only. -/
def State.mismatch (s : State) (k : Nat) (b : TieBlk) (reason : Nat) : State :=
  let c := if b.excused then C.TIE_MISMATCH_EXCUSED else C.TIE_MISMATCH
  let s := s.drop 0x3C5 k none (.dev c)
  let s := if s.flag F.TIE_LAST_MISMATCH_VALID then s else
    ((((((s.setFld F.TIE_LAST_MISMATCH_VALID 1).setFld F.TIE_LAST_MISMATCH_REASON reason).setFlag F.TIE_LAST_MISMATCH_EXCUSED
      b.excused).setFld F.TIE_LAST_MISMATCH_PORT (k / 8)).setFld F.TIE_LAST_MISMATCH_CLASS (k % 8)).setFld
      F.TIE_LAST_MISMATCH_BLOCK b.num)
  if !s.flag F.TIE_STATUS_COMPARE_OK then s
  else
    let s := if s.role = Role.active then
        let q := s.tieSeq k
        (s.setTieSeq k { q with realign := some s.ahead100 }).tieSend { typ := 9, args := [k / 8, k % 8, s.ahead100.toNat] }
      else s
    if b.excused then s else s.startCheck b.first

/-- Own and partner's digests of a block of sequence `k` compared, where both are there. -/
def State.compareBlk (s : State) (k num : Nat) : State :=
  let q := s.tieSeq k
  match q.own.find? (·.num == num), q.theirs.find? (·.1 == num) with
  | some b, some d =>
    let s := s.setTieSeq k { q with own := q.own.filter (·.num != num), theirs := q.theirs.filter (·.1 != num) }
    if b.digest = d.2 then s.bump C.TIE_BLOCKS else s.mismatch k b 1
  | _, _ => s

/-- A sequence cut anew from Datum `t` (R393). -/
def State.restartSeq (s : State) (k : Nat) (t : BitVec 64) : State := s.setTieSeq k { base := t }

/-- A frame has gone through output comparison at port `n` in class `c`: it entered at Datum `at_`, core cycle `cyc` (R392).  One
that entered before its sequence was cut anew belongs to what was cut off. -/
def State.tieFrame (s : State) (n c : Nat) (at_ : BitVec 64) (cyc : BitVec 64) (out : List Byte) : State :=
  let k := 8 * n + c
  let q := s.tieSeq k
  if !s.tieOn || decide ((at_ - q.base).toInt < 0) || decide ((at_ - s.tie.base).toInt < 0) then s
  else
    let late := match s.tie.excused with | some e => decide ((cyc - e).toNat ≤ s.excuseCyc) | none => false
    let q := if q.frames = 0 then { q with first := cyc, excused := late } else q
    let q := { q with crc := crc64 q.crc (leBytes 2 out.length ++ out), frames := q.frames + 1 }
    if q.frames < 256 then s.setTieSeq k q
    else
      let b : TieBlk := { num := q.num, digest := q.crc, first := q.first, closed := s.cyc, excused := q.excused }
      let s := s.setTieSeq k { q with crc := 0, frames := 0, num := q.num + 1, excused := false, own := q.own ++ [b] }
      let (s, m) := if s.role = Role.active then s.takeMarks 32 else (s, [])
      (s.tieSend { typ := 3, args := [n, c, b.num, b.digest.toNat], data := m }).compareBlk k b.num

end Sys2Proof.Machine
end

