-- ==== Sys2Proof/Machine/Env.lean ====
section
/-! DEFINITION. Machine/Env.lean: environment monitors, graded responses, evidence and the battery domain
(spec/17_environment_tamper.md). -/

namespace Sys2Proof.Machine

/-! ## Sources and thresholds (R407, R408) -/

/-- A value beyond one of a source's two thresholds.  Temperatures are signed and always compared; elsewhere a threshold of 0 is
off.  While PORST_N is asserted the low thresholds of the two rails are ignored (R408). -/
def State.beyond (s : State) (i : Nat) (lo hi : Fld) (v : BitVec 16) : Bool :=
  if 4 ≤ i ∧ i ≤ 7 then decide (v.toInt < s.sfld lo) || decide (s.sfld hi < v.toInt)
  else (s.fld lo != 0 && decide (v.toNat < s.fld lo) && !(s.env.held && decide (i ≤ 1))) ||
    (s.fld hi != 0 && decide (s.fld hi < v.toNat))

/-- A switch input at its active level. -/
def State.tampered (s : State) (i : Nat) (v : BitVec 16) : Bool :=
  (i == 9 || i == 10) && v.getLsbD 0 == s.flag (F.ENV_SRC_W0_POL i)

/-- What a measurement says of source `i`: 0 inside both thresholds, 1 warning, 2 alarm; `crossing` is loss of lock of the core PLL
(source 2) or the duty detector (source 3). -/
def State.condOf (s : State) (i : Nat) (v : BitVec 16) (crossing : Bool) : Nat :=
  if (crossing && (i == 2 || i == 3)) || s.tampered i v ||
      (decide (i ≤ 8) && s.beyond i (F.ENV_SRC_W1_ALARM_LO i) (F.ENV_SRC_W1_ALARM_HI i) v) then 2
  else if decide (i ≤ 8) && s.beyond i (F.ENV_SRC_W2_WARN_LO i) (F.ENV_SRC_W2_WARN_HI i) v then 1 else 0

def State.envCond (s : State) (i : Nat) : Nat := tabGet 0 s.env.cond i

/-- The condition of a source, and its ACTIVE bit. -/
def State.setCond (s : State) (i c : Nat) : State :=
  ({ s with env := { s.env with cond := tabSet 0 s.env.cond i c } }).setFlag { F.ENV_STATUS_ACTIVE with lo := i, width := 1 } (c == 2)

def State.srcOn (s : State) (i : Nat) : Bool := s.flag (F.ENV_SRC_W0_EN i)

/-- The level an alarm of source `i` applies (R407, R409). -/
def State.respOf (s : State) (i : Nat) : Nat := min 4 (s.fld (F.ENV_SRC_W0_RESP i))

/-- The record of R409: source, value and DAT_CYC. -/
def State.envDetail (s : State) (i v : Nat) : List Byte := leBytes 1 i ++ leBytes 2 v ++ leBytes 8 s.cyc.toNat

/-- ENV_LAST takes the first alarm since VALID was cleared. -/
def State.envLast (s : State) (i level v : Nat) : State :=
  if s.flag F.ENV_LAST_VALID then s
  else (((s.setFld F.ENV_LAST_VALID 1).setFld F.ENV_LAST_LEVEL level).setFld F.ENV_LAST_SOURCE i).setFld F.ENV_LAST_VALUE v

/-! ## Responses (R409 to R412) -/

/-- A level comes into force. -/
def State.setLevel (s : State) (l : Nat) : State :=
  (s.setFld F.ENV_STATUS_LEVEL (max l (s.fld F.ENV_STATUS_LEVEL))).setFld F.ENV_STATUS_ALERT 1

/-- HOLD: every port closes, frames on the wire end (R36), frames that wait go (R204), every lane is squelched, the Tie interlock
is released with a fault reported (R385, R398). -/
def State.holdNow (s : State) : State :=
  let s := (List.range 64).foldl State.closePort s.squelch
  let s := s.abortAll fun f => f.queue.isSome && f.first && !f.tailDrop
  s.tieFault 1

/-- Event 0x3D3: a response applied. -/
def State.applied (s : State) (source level : Nat) : State :=
  s.raise { num := 0x3D3, scope := source, arg := level, alarm := decide (1 ≤ level) }

/-- A response of `source` applied (levels ERASE and PURGE are the Quench scopes 4 and 5); what is in force, or decided, at its level or above leaves it recorded only. -/
def State.applyResp (s : State) (source level : Nat) : State :=
  let now := s.fld F.ENV_STATUS_LEVEL
  if 2 ≤ now ∧ level ≤ now then s
  else if level = 0 then s.applied source 0
  else if level = 1 then (s.setLevel 1).applied source 1
  else
    let s := if now < 2 then ((s.setLevel 2).holdNow).applied source 2 else s
    if level = 2 ∨ s.env.decs.any (fun d => !d.cmd && decide (level + 1 ≤ d.scope)) then s
    else s.decide_ (level + 1) 0 false source

/-- The second computation of a zeroize decision (R414): the scope starts whatever the comparison says, unless one as wide runs. -/
def State.zeroize (s : State) (d : Dec) : State :=
  let wider (q : Quench) : Bool := decide (4 ≤ d.scope ∧ d.scope ≤ q.scope)
  let s := if s.hrt.quench.any wider then
      let mark := s.hrt.quench.map fun q => if wider q then { q with cmd := q.cmd || d.cmd } else q
      { s with hrt := { s.hrt with quench := mark } }
    else s.quenchStart d.scope d.parcel d.cmd
  if d.cmd || d.scope = 3 then s else (s.setLevel (d.scope - 1)).applied d.source (d.scope - 1)

/-! ## Evidence (R415, R416) -/

/-- An evidence bit of source `i` owed: an entry of the battery register, unless the thermometer is full. -/
def State.owe (s : State) (i : Nat) : State := if 2048 ≤ s.otp.evidence then s else s.batEntry i

/-- EVIDENCE_PROGRAMMED: 20 µs after it began, the bit of the lowest pending entry reads back programmed. -/
def execEvidenceProgrammed (s : State) : Out :=
  match s.env.evAt, s.evPending with
  | some t, i :: _ =>
    if s.passed t (20 * cycUs) then
      let s := (s.evidenceBit).batClear i
      .next ({ s with env := { s.env with evAt := none } }).evSync
    else .next s
  | _, _ => .next s

/-! ## Alarms, warnings and requests -/

/-- An alarm of source `i` (R409): recorded, its evidence owed, its response applied; a clock alarm releases the interlock (R385).  The
bit is programmed once no zeroization that the response decides is due or runs (R415). -/
def State.alarm (s : State) (i level v : Nat) : State :=
  let s := s.envLast i level v
  let s := s.raiseSec { num := 0x3D0, scope := i, arg := v, alarm := decide (1 ≤ level) } (s.envDetail i v)
  let owes := s.flag (F.ENV_SRC_W0_EVIDENCE i)
  let s := (if owes then s.owe i else s).applyResp i level
  let s := if owes then s.evSync else s
  if (i = 2 ∨ i = 3) ∧ s.tieOn then s.tieRelease else s

/-- ENV_MEAS follows the value of a source that has a place there. -/
def State.envMeas (s : State) (i : Nat) (v : BitVec 16) : State :=
  if i ≤ 1 then s.setFld (F.ENV_MEAS_VALUE i) v.toNat
  else if 4 ≤ i ∧ i ≤ 8 then s.setFld (F.ENV_MEAS_VALUE (i - 1)) v.toNat else s

/-- MONITOR_ALARM (R408): source `i` has been beyond an alarm threshold for its filter time, at value `v`; a switch input's value
is its level. -/
def execMonitorAlarm (i : Fin 11) (v : BitVec 16) (crossing : Bool) (s : State) : Out :=
  let i := i.val
  if s.srcOn i && s.envCond i != 2 && s.condOf i v crossing == 2 then
    .next (((s.envMeas i v).setCond i 2).alarm i (s.respOf i) v.toNat)
  else .next s

/-- MONITOR_WARNING (R407). -/
def execMonitorWarning (i : Fin 11) (v : BitVec 16) (s : State) : Out :=
  let i := i.val
  if s.srcOn i && s.envCond i != 1 && s.condOf i v false == 1 then
    let l := b2n (s.flag (F.ENV_SRC_W0_WARN_ALERT i))
    let s := (s.envMeas i v).setCond i 1
    .next ((s.raiseSec { num := 0x3D1, scope := i, arg := v.toNat, alarm := l == 1 } (s.envDetail i v.toNat)).applyResp i l)
  else .next s

/-- MONITOR_RETURN (R407). -/
def execMonitorReturn (i : Fin 11) (v : BitVec 16) (s : State) : Out :=
  let i := i.val
  if s.envCond i != 0 && s.condOf i v false == 0 then
    .next (((s.envMeas i v).setCond i 0).raise { num := 0x3D2, scope := i, arg := v.toNat })
  else .next s

/-- RESPONSE_REQUEST (R411): the oldest request is taken; one of another block as source 12, with its event number in the
record, one of a doubled decision as an alarm of source 11. -/
def execResponseRequest (s : State) : Out :=
  match s.requests with
  | [] => .next s
  | r :: rest =>
    let s := { s with requests := rest }
    if !s.srcOn r.source then .next s
    else if r.source = 11 then .next (s.alarm 11 r.level r.value)
    else
      let s := s.envLast 12 r.level r.event
      let s := s.secLogRec { num := r.event, scope := 12, arg := r.level, alarm := decide (1 ≤ r.level) } (s.envDetail 12 r.value)
      .next (s.applyResp 12 r.level)

/-! ## The battery domain (R417 to R419) -/

/-- Whether the battery domain watches input `k`: 0 TAMP_IN0, 1 TAMP_IN1, 2 temperature high, 3 low, 4 VBAT low. -/
def State.batWatches (s : State) (k : Nat) : Bool :=
  s.flag (match k with
    | 0 => F.ENV_BAT_CFG_TAMP0_EN | 1 => F.ENV_BAT_CFG_TAMP1_EN | 2 => F.ENV_BAT_CFG_TEMP_EN | 3 => F.ENV_BAT_CFG_TEMP_EN
    | _ => F.ENV_BAT_CFG_VBAT_EN)

/-- BATTERY_ALARM (R418): on cell power, `lapse` battery seconds after the counter last moved. -/
def execBatteryAlarm (k : Fin 5) (lapse : BitVec 32) (s : State) : Out :=
  if s.env.held && s.batWatches k.val then
    let s := s.setFld F.ENV_BAT_SEC_SECONDS (s.fld F.ENV_BAT_SEC_SECONDS + lapse.toNat)
    .next (({ s with hrt := { s.hrt with kek := none } }).batEntry (16 + k.val))
  else .next s

/-- VBAT_LOSS (R18, R470): the BATTERY domain resets, and BBRAM_KEK is gone. -/
def execVbatLoss (s : State) : Out :=
  if s.env.held then .next ({ s with hrt := { s.hrt with kek := none } }.resetDomains fun d => d == Dom.battery) else .next s

/-- Recovery of the battery register at boot (R419): a record and an evidence bit for each entry, one bit for each count of
OVERFLOW. -/
def State.batRecover (s : State) : State :=
  let is := (List.range 16).filter fun i => s.flag (F.ENV_BAT_W0_VALID i)
  let s := is.foldl (fun s i =>
    let src := s.fld (F.ENV_BAT_W0_SOURCE i)
    let sec := s.fld (F.ENV_BAT_W1_SECONDS i)
    let s := s.secLogRec { num := 0x3D8, scope := src, arg := sec } []
    let s := if 16 ≤ src ∨ s.flag (F.ENV_BAT_W0_PENDING i) then s.evidenceBit else s
    s.batClear i) s
  let s := if is = [] then s else s.raise { num := 0x3D8, arg := is.length }
  let n := s.fld F.ENV_BAT_CTL_OVERFLOW
  if n = 0 then s
  else ((List.range n).foldl (fun s _ => s.evidenceBit) (s.setFld F.ENV_BAT_CTL_OVERFLOW 0)).raise { num := 0x3D9, arg := n }

end Sys2Proof.Machine
end

