-- ==== Sys2Proof/Machine/Parcels.lean ====
section
/-! DEFINITION. Machine/Parcels.lean: parcel states, assignment, resets, freezing, release, the parcel window and function level
resets (spec/12_parcels.md). -/

namespace Sys2Proof.Machine

/-! ## States (R306) -/

def State.parState (s : State) (p : Nat) : Nat := s.fld (F.GLB_PARCEL_W0_STATE p)

namespace Ps
def unassigned : Nat := 0
def running : Nat := 1
def freezing : Nat := 2
def frozen : Nat := 3
def resetting : Nat := 4
end Ps

def State.parOf (s : State) (p : Nat) : Par := tabGet {} s.par p
def State.setPar (s : State) (p : Nat) (x : Par) : State := { s with par := tabSet {} s.par p x }

/-- A parcel's state changed: event 0x021 carries the new state and eight times the old one. -/
def State.setParState (s : State) (p st : Nat) : State :=
  if s.parState p = st then s
  else (s.setFld (F.GLB_PARCEL_W0_STATE p) st).raise { num := 0x021, scope := p, arg := st + 8 * s.parState p, parcel := some p }

/-- A parcel assigned to a tenant (R304): its epoch advances, durably; false where the store takes no commit. -/
def State.assign (s : State) (p tenant : Nat) : State × Bool :=
  let e := s.parcelEpoch p + 1
  let s := { s with hrt := { s.hrt with
    epochs := tabSet 0 s.hrt.epochs p e, tenants := tabSet 0 s.hrt.tenants p tenant, rootGone := s.hrt.rootGone &&& ~~~ (1#64 <<< p) } }
  match s.commitNow 0 0 s.ownerPay with
  | (s, ok) => (((s.setFld (F.GLB_PARCEL_W2_EPOCH p) e).setFld (F.GLB_PARCEL_W1_TENANT p) tenant).setParState p Ps.running, ok)

/-! ## Frames of a parcel (R307, R311, R314) -/

/-- A frame of the parcel from before a boundary that the reset and freeze rules act on: not one delivered to the control port. -/
def parFrame (p bound : Nat) (i : Nat) (f : Frm) : Bool := f.parcel == p && decide (i < bound) && f.queue != some ctlQueue

def State.parFrames (s : State) (p bound : Nat) (q : Frm → Bool) : List (Nat × Frm) :=
  (s.framesOf fun f => f.parcel == p && q f).filter fun e => parFrame p bound e.1 e.2

/-- It holds a heat or a staging place. -/
def Frm.inside (f : Frm) : Bool := f.heat || f.staged

/-- A frame discarded for its parcel's state: stomped where part of it is on the wire (R154), else gone whole. -/
def State.parDiscard (s : State) (i : Nat) (f : Frm) : State :=
  let c := parcelCause 0x020 f.parcel (C.GLB_PARCEL_DROP f.parcel)
  if f.sending then (s.cut i f c 3 (s.openPassed f)).drew else s.lose i f c

/-- Those frames discarded that have not ended already. -/
def State.parSquash (s : State) (l : List (Nat × Frm)) : State :=
  (l.filter fun e => e.2.ended.isNone).foldl (fun s e => s.parDiscard e.1 e.2) s

/-- What a HARD reset does to everything but the frames (R311). -/
def State.hardClear (s : State) (p : Nat) : State :=
  let s := { s with blw := { s.blw with queues := tabMapKeep (fun _ => {}) (fun q (x : Queue) =>
    if q < ctlQueue ∧ q % 64 = p then { x with deficit := 0, credit := 0 } else x) s.blw.queues } }
  let s := s.pltFlushNow (BitVec.ofNat 32 (2 ^ 28 + p * 2 ^ 22), none)
  let s := { s with plat := { s.plat with queue := s.plat.queue.filter fun r => r.parcel != p } }
  let s := s.quenchHands fun h => h.parcel == p
  [2 * p, 2 * p + 1].foldl (fun s i =>
    { s with blw := { s.blw with police := tabSet {} s.blw.police i { credit := 65536 * s.fld (F.BLW_POLICE_W1_BURST i) } } }) s

/-- The fields that record history, at their reset values (R311). -/
def State.parHistory (s : State) (p : Nat) : State :=
  { s with blw := { s.blw with queues := tabMapKeep (fun _ => {}) (fun q (x : Queue) =>
    if q < ctlQueue ∧ q % 64 = p then { x with maxDepth := 0, maxDelay := 0 } else x) s.blw.queues } }

/-- The frames and stores of a HARD reset with boundary `r` (R311). -/
def State.hardNow (s : State) (p : Nat) (r : PReset) : State :=
  let l := s.parFrames p r.bound fun f => f.ended.isNone
  let s := (s.parSquash l).hardClear p
  (s.setPar p { s.parOf p with reset := some { r with hard := true, gone := r.gone + l.length } }).setFld (F.GLB_PARCEL_W0_HARD p) 1

/-- A reset begun, or merged into the one that runs (R306, R312, R321). -/
def State.startReset (s : State) (p : Nat) (hard release : Bool) : State :=
  match (s.parOf p).reset with
  | some r =>
    let r := { r with release := r.release || release }
    if hard && !r.hard then s.hardNow p r else s.setPar p { s.parOf p with reset := some r }
  | none =>
    let r : PReset := { hard := hard, at_ := s.cyc, bound := s.nextFrame
                        frozen := s.parState p == Ps.freezing || s.parState p == Ps.frozen, release := release }
    let s := ((s.setPar p { reset := some r }).setParState p Ps.resetting).parHistory p
    if hard then s.hardNow p r else s

/-! ## Commands (R308, R310) -/

/-- A parcel command refused for the parcel's state: event 0x027. -/
def State.parRefuse (s : State) (p code : Nat) : Res :=
  { st := s.raise { num := 0x027, scope := p, arg := code, parcel := some p }, status := code }

/-- The parcel a parcel command names: its first four bytes (log entry 61). -/
def parNum (b : List Byte) : Nat := leAt b 0 4

/-- A parcel command; `pf0` says that only PF0 may issue it, `len` is the payload's length.  An accepted one goes to the
standby with what the active read for it, `more` (R391). -/
def parCmd (d : Desc) (opcode : Nat) (cls : Cls) (len : Nat) (pf0 : Bool) (run : State → Nat → List Byte → Res) (s : State)
    (more : List Byte := []) : State :=
  ringCmd d
    { opcode := opcode, cls := cls, payMax := len, payOk := fun b => b.length == len && decide (parNum b < 64)
      parcels := fun _ b => [parNum b] }
    (fun s b =>
      if pf0 ∧ d.fn.val ≠ 0 then { st := s, status := St.classDenied }
      else
        let r := run s (parNum b) b
        if r.status = St.ok then { r with st := r.st.tieMirror opcode 0 0 (b ++ more) } else r) s

/-- PARCEL_ASSIGN (R304, R308, R309): parcel, TENANT, the two words of GLB_PARCEL_LIM. -/
def assignRun (s : State) (p : Nat) (b : List Byte) : Res :=
  if s.parState p ≠ Ps.unassigned ∨ p = 0 ∨ leAt b 4 4 = 0 then s.parRefuse p St.parcelState
  else
    let s1 := ((s.setFld (F.GLB_PARCEL_LIM_W0_SC_MAX p) (min 65536 (leAt b 8 4))).setFld (F.GLB_PARCEL_LIM_W1_SLOT_MAX p)
      (min 4096 (leAt b 12 4 / 65536 % 8192))).setFld (F.GLB_PARCEL_LIM_W1_PIN_MAX p) (min 4096 (leAt b 12 4 % 8192))
    match s1.assign p (leAt b 4 4) with
    | (s1, true) => { st := s1 }
    | (_, false) => { st := s.areaReadOnly 0, status := St.noRoom }

def execParcelAssign (d : Desc) (s : State) : Out :=
  .next (parCmd d 0x0500 .secure 16 true assignRun s)

/-- PARCEL_RELEASE (R308, R315): a HARD reset, and then the steps of R315. -/
def releaseRun (s : State) (p : Nat) (_ : List Byte) : Res :=
  if s.parState p = Ps.unassigned ∨ p = 0 then s.parRefuse p St.parcelState
  else { st := s.startReset p true true, wait := true }

def execParcelRelease (d : Desc) (s : State) : Out :=
  .next (parCmd d 0x0501 .secure 4 true releaseRun s)

/-- PARCEL_RESET (R306, R311): parcel and kind, 0 SOFT, 1 HARD. -/
def resetRun (s : State) (p : Nat) (b : List Byte) : Res :=
  let hard := leAt b 4 4 == 1
  let st := s.parState p
  if st = Ps.running ∨ (hard ∧ (st = Ps.freezing ∨ st = Ps.frozen)) ∨
      (st = Ps.resetting ∧ hard ∧ (match (s.parOf p).reset with | some r => !r.hard | none => false) = true) then
    { st := s.startReset p hard false, wait := true }
  else s.parRefuse p St.parcelState

def execParcelReset (d : Desc) (s : State) : Out :=
  .next (parCmd d 0x0502 .operate 8 false resetRun s)

/-- PARCEL_FREEZE (R314). -/
def freezeRun (s : State) (p : Nat) (_ : List Byte) : Res :=
  if s.parState p ≠ Ps.running ∨ p = 0 then s.parRefuse p St.parcelState
  else { st := (s.setPar p { freeze := some s.cyc }).setParState p Ps.freezing, wait := true }

def execParcelFreeze (d : Desc) (s : State) : Out :=
  .next (parCmd d 0x0503 .operate 4 true freezeRun s)

/-- PARCEL_THAW (R316). -/
def thawRun (s : State) (p : Nat) (_ : List Byte) : Res :=
  if s.parState p ≠ Ps.frozen then s.parRefuse p St.parcelState
  else { st := ((s.setFld (F.GLB_PARCEL_W0_SAVED p) 0).setFld (F.GLB_PARCEL_W0_RESTORED p) 0).setParState p Ps.running }

def execParcelThaw (d : Desc) (s : State) : Out :=
  .next (parCmd d 0x0504 .operate 4 true thawRun s)

/-- Ring commands of an opcode that wait for parcel `p` completed (R332). -/
def State.parFinish (s : State) (p opcode : Nat) : State :=
  (s.waits.filter fun w => w.opcode == opcode && parNum (descBody w.d) == p).foldl
    (fun s w => s.finishWait w (fun s => { st := s }) 0) s

/-! ## Completions -/

/-- Rules in the parcel's range or owned by it, invalidated. -/
def State.parRules (s : State) (p : Nat) : State :=
  { s with rules := s.rules.filter fun e => !((s.rule e.1).owner == p || s.inRange p e.1) }.ruleSync

/-- Associations and channels of the parcel gone (R315 step 1). -/
def State.parChannels (s : State) (p : Nat) : State :=
  let sas := (s.sec.ctxs.filter fun e => s.saParcel e.1 == p && ((s.ctx e.1).st != .empty || (s.ctx e.1).resvWait)).map (·.1)
  let s := sas.foldl State.saClear s
  let scs := (s.sec.chans.filter fun e => (s.chan e.1).valid && (s.chan e.1).parcel == p).map (·.1)
  let pins := scs.filter fun k => (s.chan k).pinned
  let s := scs.foldl (fun s k => s.setChan k {}) s
  (s.setFld F.SEC_PIN_PINNED_SCS (s.fld F.SEC_PIN_PINNED_SCS - pins.length)).scUse p

/-- The steps of a release after its reset (R315). -/
def State.released (s : State) (p : Nat) : State :=
  let s := ((s.parChannels p).parRules p).pltFlushNow (BitVec.ofNat 32 (2 ^ 31 + 2 ^ 28 + p * 2 ^ 22), none)
  let s := s.quenchSlots fun x => x.parcel == p && x.persist
  let s := (s.decide_ 3 p false 0).closeSession p 8
  let s := { s with hrt := { s.hrt with tenants := tabSet 0 s.hrt.tenants p 0 } }
  let s := s.commitLater 0 0 s.ownerPay
  let s := ((s.setFld (F.GLB_PARCEL_W1_TENANT p) 0).setWord (F.GLB_PARCEL_LIM_W0_SC_MAX p).addr 0).setWord
    (F.GLB_PARCEL_LIM_W1_SLOT_MAX p).addr 0
  (s.setParState p Ps.unassigned).parFinish p 0x0501

/-- Frames that hold a reset back: any of a HARD reset's, those inside of a SOFT one's (R312). -/
def State.parHolders (s : State) (p : Nat) (r : PReset) : List (Nat × Frm) := s.parFrames p r.bound fun f => r.hard || f.inside

/-- PARCEL_RESET_DONE (R312): no frame of parcel `p` from before the boundary holds the reset back. -/
def execParcelResetDone (p : Fin 64) (s : State) : Out :=
  let p := p.val
  match (s.parOf p).reset with
  | none => .next s
  | some r =>
    if !(s.parHolders p r).isEmpty then .next s
    else
      let s := s.raise { num := 0x022, scope := p, arg := b2n r.hard, parcel := some p
                         data := leBytes 4 r.gone ++ leBytes 4 r.late ++ zeros 8 }
      let s := ((s.setPar p {}).setFld (F.GLB_PARCEL_W0_HARD p) 0).setParState p (if r.frozen then Ps.frozen else Ps.running)
      let s := s.parFinish p 0x0502
      .next (if r.release then s.released p else s)

/-- PARCEL_RESET_TIMEOUT (R312, R314): 10 µs after the boundary of a SOFT reset, or of a freeze, the frames that still hold heats or
staging places are squashed. -/
def execParcelResetTimeout (p : Fin 64) (s : State) : Out :=
  let p := p.val
  let x := s.parOf p
  match x.reset, x.freeze with
  | some r, _ =>
    if r.hard || !s.passed r.at_ (10 * cycUs) then .next s
    else
      let l := s.parFrames p r.bound fun f => f.inside && f.ended.isNone
      .next ((s.parSquash l).setPar p { x with reset := some { r with gone := r.gone + l.length, late := r.late + l.length } })
  | none, some t =>
    if !s.passed t (10 * cycUs) then .next s
    else
      let l := s.parFrames p s.nextFrame fun f => f.inside && f.ended.isNone
      .next ((s.parSquash l).setPar p { x with gone := x.gone + l.length })
  | none, none => .next s

/-- A freeze complete: FROZEN, event 0x023. -/
def State.parFrozen (s : State) (p : Nat) : State :=
  let n := (s.parOf p).gone
  let s := ((s.setPar p {}).setParState p Ps.frozen).raise { num := 0x023, scope := p, arg := n, parcel := some p }
  s.parFinish p 0x0503

/-- PARCEL_FROZEN (R314): no frame of parcel `p` remains. -/
def execParcelFrozen (p : Fin 64) (s : State) : Out :=
  let p := p.val
  if s.parState p = Ps.freezing ∧ (s.parFrames p s.nextFrame fun _ => true).isEmpty then .next (s.parFrozen p) else .next s

/-- FREEZE_TIMEOUT (R314): FREEZE_MS has passed; what is queued goes. -/
def execFreezeTimeout (p : Fin 64) (s : State) : Out :=
  let p := p.val
  let x := s.parOf p
  match x.freeze with
  | some t =>
    if s.passed t (max 1 (s.fld F.GLB_PARCEL_CTL_FREEZE_MS) * cycMs) then
      let l := s.parFrames p s.nextFrame fun f => f.ended.isNone
      .next (((s.parSquash l).setPar p { x with gone := x.gone + l.length }).parFrozen p)
    else .next s
  | none => .next s

/-! ## Function level reset (R313) and the parcel window (R322, R323) -/

/-- FUNCTION_LEVEL_RESET (R313, R327): event 0x033 says whether a parcel reset was started. -/
def execFunctionLevelReset (f : Fin 64) (s : State) : Out :=
  let p := f.val
  let s := s.hostReset p 6
  let go := p ≠ 0 ∧ s.parState p = Ps.running
  let s := if go then s.startReset p false false else s
  .next (s.raise { num := 0x033, scope := p, arg := if go then 1 else 0, parcel := if p = 0 then none else some p })

/-- PARCEL_WINDOW_WRITE (R322, R323): a write at offset `off` of VFp's window; only the mirrors take it, while VFp holds a session of
class OPERATE. -/
def execParcelWindowWrite (p : Fin 64) (off : BitVec 16) (v : Word) (s : State) : Out :=
  let p := p.val
  let o := off.toNat
  let may := match (s.fn p).session with | some q => q.cls == 1 | none => false
  let refused (s : State) : State := s.dropDev 0x026 p (some p) (C.GLB_CMD_REFUSED p)
  if p = 0 then .next s
  else if !may then .next (refused s)
  else if o = 0x100 then .next (s.pltReg .nonSecure v (bitsOf v F.PLT_CMD_OP.lo F.PLT_CMD_OP.width) (some p))
  else if o = 0x104 then .next (s.writeReg .nonSecure F.PLT_FLUSH_MODE.addr v)
  else if o = 0x110 ∨ o = 0x114 ∨ o = 0x118 ∨ o = 0x11C then .next (s.setWord (pltWin + (o - 0x110)) v)
  else if o = 0x200 then .next (s.queueReg .nonSecure v (bitsOf v F.BLW_QCMD_OP.lo F.BLW_QCMD_OP.width) (some p))
  else .next (refused s)

end Sys2Proof.Machine
end

