-- ==== Sys2Proof/Machine/Ecc.lean ====
section
/-! DEFINITION. Machine/Ecc.lean: the error table, correctable and uncorrectable words, and hard faults
(spec/15_stored_data_protection.md, R369 to R375). -/

namespace Sys2Proof.Machine

/-- Words of each memory (R368). -/
def eccWords : Nat → Nat
  | 0 => 8388608 | 1 => 917504 | 2 => 786432 | 3 => 196608 | 4 => 65536 | 5 => 262144 | 6 => 131072 | 7 => 262144
  | 8 => 65536 | 9 => 32768 | _ => 0

/-- The words of memories 0 to 9 together: one pass of the scrubber. -/
def eccAllWords : Nat := 11108352

/-- The first macro of each memory (the table above R375). -/
def eccMacro (mem addr : Nat) : Nat :=
  let base := match mem with
    | 0 => 0 | 1 => 1024 | 2 => 1136 | 3 => 1232 | 4 => 1256 | 5 => 1264 | 6 => 1296 | 7 => 1312 | 8 => 1344 | _ => 1352
  base + addr / 8192

/-- An error in the table of 32 entries (R372): `source` 0 read, 1 scrub, 2 partial write, 3 DDR5. -/
def State.eccLog (s : State) (mem addr syn : Nat) (ue : Bool) (source : Nat) : State :=
  let has (i : Nat) : Bool := s.flag (F.ECC_LOG_W0_VALID i)
  match (List.range 32).find? fun i => has i && s.fld (F.ECC_LOG_W0_MEM i) == mem && s.fld (F.ECC_LOG_W1_ADDR i) == addr with
  | some i => s.setFld (F.ECC_LOG_W0_REPEAT i) (min 65535 (s.fld (F.ECC_LOG_W0_REPEAT i) + 1))
  | none => match (List.range 32).find? fun i => !has i with
    | some i =>
      let s := (((s.setFld (F.ECC_LOG_W0_VALID i) 1).setFlag (F.ECC_LOG_W0_UE i) ue).setFlag (F.ECC_LOG_W0_POISON i)
        (ue && syn == 255)).setFld (F.ECC_LOG_W0_MEM i) mem
      let s := ((s.setFld (F.ECC_LOG_W0_SYNDROME i) syn).setFld (F.ECC_LOG_W0_REPEAT i) 1).setFld (F.ECC_LOG_W1_ADDR i) addr
      let s := (s.setFld (F.ECC_LOG_W2_CYC i) (s.cyc.toNat / 2 ^ 30 % 2 ^ 32)).setFld (F.ECC_LOG_W3_SOURCE i) source
      s.setFld F.ECC_LOG_CTL_USED (s.fld F.ECC_LOG_CTL_USED + 1)
    | none =>
      let k := s.fld F.ECC_LOG_CTL_OVERFLOW
      let s := s.setFld F.ECC_LOG_CTL_OVERFLOW (min 65535 (k + 1))
      if k = 0 then s.raise { num := 0x3A4, scope := mem, arg := addr } else s

/-- The pending repair record in its register and on its way to the store (R375). -/
def State.repairSync (s : State) : State :=
  let c : Commit := { area := 3, id := 1, pay := .repair s.ecc.pend }
  ({ s with hrt := { s.hrt with commits := s.hrt.commits ++ [c] } }).setFld
    F.ECC_REPAIR_PENDING s.ecc.pend.length

/-- A hard fault (R375): a word already in the record is not recorded again. -/
def State.eccHard (s : State) (mem addr : Nat) : State :=
  if s.ecc.pend.contains (mem, addr) then s
  else if 64 ≤ s.ecc.pend.length then s.bump C.ECC_REPAIR_SKIP
  else (({ s with ecc := { s.ecc with pend := s.ecc.pend ++ [(mem, addr)] } }).repairSync.bump (C.ECC_HARD mem)).raise
    { num := 0x3A5, scope := mem, arg := addr }

/-- The corrected words of a memory within 3,600 s, against CE_THRESH (R371). -/
def State.eccRate (s : State) (mem : Nat) : State :=
  let l := ((tabGet [] s.ecc.ces mem).filter fun t => !s.passed t (3600 * cycS)) ++ [s.cyc]
  let s := { s with ecc := { s.ecc with ces := tabSet [] s.ecc.ces mem l } }
  let quiet : Bool := match tabGet none s.ecc.told mem with | some t => !s.passed t (3600 * cycS) | none => false
  if s.fld F.ECC_CFG_CE_THRESH = 0 ∨ l.length ≤ s.fld F.ECC_CFG_CE_THRESH ∨ quiet then s
  else (({ s with ecc := { s.ecc with told := tabSet none s.ecc.told mem (some s.cyc) } }).raise
    { num := 0x3A8, scope := mem, alarm := true }).request 1 0x3A8 mem

/-- A word read with a correctable error: counted, logged, rewritten; hard where it recurs (R371, R375). -/
def State.eccCe (s : State) (mem addr syn source : Nat) : State :=
  let again := s.ecc.fixed.contains (mem, addr)
  let s := ((s.dropDev 0x3A0 mem none (C.ECC_CE mem)).eccLog mem addr syn false source).eccRate mem
  if again then s.eccHard mem addr else { s with ecc := { s.ecc with fixed := (mem, addr) :: s.ecc.fixed } }

/-- An uncorrectable word of memories 0 to 9: counted, logged, and hard (R372, R375). -/
def State.eccUe (s : State) (mem addr syn source : Nat) : State :=
  (((s.dropDev 0x3A1 mem none (C.ECC_UE mem)).eccLog mem addr syn true source).eccHard mem addr).noteFault 2

end Sys2Proof.Machine
end

