-- ==== Sys2Proof/Machine/Temper.lean ====
section
/-! DEFINITION. Machine/Temper.lean: protected external memory (spec/14_temper_external_memory.md). -/

namespace Sys2Proof.Machine

/-! ## Masters and rights (R351, R364) -/

/-- The code of a master in counters and TMP_FAIL_LAST. -/
def masterCode : TMaster → Nat
  | .ctxCache | .sampler | .archiver | .parcelEngine => 0
  | .monitor => 1 | .firmware => 2 | .dma => 3 | .debug _ => 4

def tmpScrub : Nat := 5

def State.region (s : State) (r : Nat) : Option Region := tabGet none s.tmp.regions r

/-- The region of a line, while DDR5 is present (R349). -/
def State.regionOf (s : State) (line : Nat) : Option (Nat × Region) :=
  if !s.flag F.TMP_STATUS_PRESENT then none
  else ((List.range 8).filterMap fun r => (s.region r).map fun x => (r, x)).find? fun e =>
    decide (16384 * e.2.base ≤ line) && decide (line < 16384 * (e.2.base + e.2.size))

/-- The right a master has in a region: 0 none, 1 read, 2 read-write; 3 is taken as 1. -/
def State.right (s : State) (m : TMaster) (r : Nat) (x : Region) : Nat :=
  let cap (v : Nat) : Nat := if v = 3 then 1 else v
  match m with
  | .ctxCache => if r = 0 then 2 else 0
  | .sampler => if r = 1 then 2 else 0
  | .archiver => if r = 2 then 2 else 0
  | .parcelEngine => if r = 3 ∨ r = 0 then 2 else 0
  | .monitor => 2
  | .firmware => if x.secure ∨ r = 0 ∨ r = 3 then 0 else cap (s.fld (F.TMP_REGION_W2_FW r))
  | .dma => if x.secure ∨ r = 0 ∨ r = 3 then 0 else cap (s.fld (F.TMP_REGION_W2_DMA r))
  | .debug sec => if (x.secure && !sec) ∨ r = 0 ∨ r = 3 then 0 else cap (s.fld (F.TMP_REGION_W2_DEBUG r))

/-! ## Failures -/

/-- The first failure since VALID was cleared. -/
def State.tmpFail (s : State) (kind m region line : Nat) : State :=
  if s.flag F.TMP_FAIL_LAST_W0_VALID then s
  else ((((s.setFld F.TMP_FAIL_LAST_W0_VALID 1).setFld F.TMP_FAIL_LAST_W0_KIND kind).setFld F.TMP_FAIL_LAST_W0_MASTER m).setFld
    F.TMP_FAIL_LAST_W0_REGION region).setFld F.TMP_FAIL_LAST_W1_LINE line

/-- What the master gets. -/
def State.tmpGive (s : State) (l : Option Line) (err : Bool) : State := { s with tmp := { s.tmp with last := l, err := err } }

def zeroLine : List Byte := List.replicate 64 0
def poisonLine : Line := { bytes := zeroLine, poison := true }

/-- An access refused (R364). -/
def State.tmpDeny (s : State) (m region line : Nat) : State :=
  let s := (s.tmpFail 5 m region line).secLogRec { num := 0x387, scope := m, arg := line } []
  (s.dropDev 0x387 m none (C.TMP_ACCESS_DENY m)).tmpGive (some { bytes := zeroLine }) true

/-- HALT (R357): HOLD with keys kept, every further access refused. -/
def State.tmpHalt (s : State) : State :=
  if s.flag F.TMP_STATUS_HALTED then s
  else ((s.setFld F.TMP_STATUS_HALTED 1).raise { num := 0x388, alarm := true }).request 2 0x388 0

/-- The response to an integrity failure (R357). -/
def State.integResp (s : State) (event : Nat) : State :=
  if s.flag F.TMP_CFG_INTEG_RESP then s.tmpHalt else s.request 1 event 0

/-- BUS_ERROR towards the context cache: the association is UNUSABLE (R357). -/
def State.tmpCtxFail (s : State) (cache : Bool) (line : Nat) : State :=
  match cache, s.region 0 with
  | true, some x => s.toUnusable ((line - 16384 * x.base) / 4) false
  | _, _ => s

/-- A data line fails its MAC (R357). -/
def State.macFail (s : State) (m region line : Nat) : State :=
  let s := ((s.bump C.TMP_MAC_FAIL).tmpFail 1 m region line).noteFault 3
  let o : Occ := { num := 0x380, scope := m, arg := line, alarm := true }
  (s.raiseSec o (leBytes 4 line ++ leBytes 1 region)).integResp 0x380

/-- A counter block or tree node fails (R359): level and index. -/
def State.metaFail (s : State) (m level index line : Nat) : State :=
  let s := (((s.bump C.TMP_META_FAIL).tmpFail 2 m 15 line).noteFault 3).raise { num := 0x382, scope := level, arg := index, alarm := true }
  if s.tmp.failed.contains (level, index) then s.integResp 0x382
  else if 64 ≤ s.tmp.failed.length then s.tmpHalt
  else (({ s with tmp := { s.tmp with failed := s.tmp.failed ++ [(level, index)] } }).setFld F.TMP_STATUS_FAILED_NODES
    (s.tmp.failed.length + 1)).integResp 0x382

/-- The node of a level above a line (R354): a counter block covers 64 lines, each further level 64 nodes. -/
def nodeOf (level line : Nat) : Nat := line / 64 ^ (level + 1)

/-- The line lies beneath a failed node. -/
def State.beneath (s : State) (line : Nat) : Bool := s.tmp.failed.any fun e => nodeOf e.1 line == e.2

/-- The channel of a line: bit 1 of its index (R348; log entry 60). -/
def ddrChannel (line : Nat) : Nat := line / 2 % 2

/-- A corrected line (R356). -/
def State.ddrCe (s : State) (line : Nat) : State :=
  (s.dropDev 0x384 (ddrChannel line) none (C.TMP_CE (ddrChannel line))).eccLog 15 line 0 false 3

/-- An uncorrectable line (R356), and its rate (R360). -/
def State.ddrUe (s : State) (m region line : Nat) : State :=
  let s := (s.tmpFail 3 m region line).dropDev 0x383 (ddrChannel line) none (C.TMP_UE (ddrChannel line))
  let s := s.eccLog 15 line 0 true 3
  let l := (s.tmp.ues.filter fun t => !s.passed t (3600 * cycS)) ++ [s.cyc]
  let s := { s with tmp := { s.tmp with ues := l } }
  let quiet : Bool := match s.tmp.told with | some t => !s.passed t (3600 * cycS) | none => false
  if s.fld F.TMP_CFG_UE_ALARM = 0 ∨ l.length ≤ s.fld F.TMP_CFG_UE_ALARM ∨ quiet then s
  else (({ s with tmp := { s.tmp with told := some s.cyc } }).raise { num := 0x389, alarm := true }).request 1 0x389 0

/-! ## Lines and counters (R353, R355, R358, R361, R362) -/

def State.tmpMinor (s : State) (line : Nat) : Nat := tabGet 0 s.tmp.minors line
def State.tmpMajor (s : State) (page : Nat) : BitVec 64 := tabGet 0 s.tmp.majors page

/-- A line whose counters are not (0, 0). -/
def State.tmpWritten (s : State) (line : Nat) : Bool := s.tmpMinor line != 0 || s.tmpMajor (line / 64) != 0

def State.tmpLine (s : State) (line : Nat) : Line := (tabGet none s.tmp.lines line).getD { bytes := zeroLine }

/-- A page whose M has reached its end (R362). -/
def State.readOnly (s : State) (line : Nat) : Bool := s.tmp.ro.contains (line / 64)

/-- The re-encryption of a page (R361): M advanced, every minor 0; at M = 2^64 - 1 the page is read-only (R362). -/
def State.reencrypt (s : State) (page : Nat) : State :=
  let m := s.tmpMajor page + 1#64
  let s := { s with tmp := { s.tmp with
    majors := tabSet 0 s.tmp.majors page m, minors := s.tmp.minors.filter fun e => e.1 / 64 != page } }
  let s := s.dropDev 0x385 0 none C.TMP_REENC
  if m = BitVec.allOnes 64 then
    let k := s.fld F.TMP_STATUS_RO_PAGES
    ((({ s with tmp := { s.tmp with ro := s.tmp.ro ++ [page] } }).setFld F.TMP_STATUS_RO_PAGES (min 65535 (k + 1))).raise
      { num := 0x386, arg := page, alarm := true }).request 1 0x386 page
  else s

/-- A write refused under a read-only page (R362). -/
def State.roWrite (s : State) (m region line : Nat) (cache : Bool) : State :=
  let s := ((s.bump C.TMP_RO_WRITE).tmpFail 6 m region line).raise { num := 0x38C, scope := m, arg := line }
  (s.tmpCtxFail cache line).tmpGive none true

/-- A whole line stored under its next counters (R358, R361): the state, and whether it was stored. -/
def State.putLine (s : State) (line : Nat) (l : Line) : State × Bool :=
  let s := if s.tmpMinor line = 127 then s.reencrypt (line / 64) else s
  if s.readOnly line then (s, false)
  else ({ s with tmp := { s.tmp with
      minors := tabSet 0 s.tmp.minors line (s.tmpMinor line + 1), lines := tabSet none s.tmp.lines line (some l) } }, true)

/-- A line rewritten poisoned; under a read-only page it stays as it is. -/
def State.poisonAt (s : State) (line : Nat) : State := (s.putLine line poisonLine).1

/-- What a read of a protected line finds (R356, R359): the state, the line, and whether a check failed. -/
def State.fetchLine (s : State) (m : TMaster) (code region line : Nat) (dram : Dram) : State × Line × Bool :=
  let cache := decide (m = .ctxCache)
  if !s.flag F.TMP_STATUS_KEYS_VALID ∨ s.beneath line then
    ((s.macFail code region line).tmpCtxFail cache line, poisonLine, true)
  else match dram with
    | .badNode k => ((s.metaFail code k.val (nodeOf k.val line) line).tmpCtxFail cache line, poisonLine, true)
    | .uncorrectable => ((s.ddrUe code region line).poisonAt line, poisonLine, false)
    | .forged =>
      if s.tmpWritten line then (((s.macFail code region line).poisonAt line).tmpCtxFail cache line, poisonLine, true)
      else (s, { bytes := zeroLine }, false)
    | .corrected => (s.ddrCe line, s.tmpLine line, false)
    | .clean => (s, s.tmpLine line, false)

/-- A line of the unprotected remainder (R356): what nothing has written is left open. -/
def State.plainLine (s : State) (code region line : Nat) (dram : Dram) : State × Line :=
  let (s, l) := match tabGet none s.tmp.plain line with
    | some l => (s, l)
    | none => (s.drew, { bytes := leBytes 64 s.openVal })
  match dram with
  | .uncorrectable => (s.ddrUe code region line, { l with poison := true })
  | .corrected => (s.ddrCe line, l)
  | _ => (s, l)

/-! ## Accesses -/

/-- An access checked (R357, R364): its region, where it is allowed. -/
def State.tmpCheck (s : State) (m : TMaster) (line need : Nat) : Option (Nat × Region) :=
  match s.regionOf line with
  | some (r, x) => if need ≤ s.right m r x then some (r, x) else none
  | none => none

/-- A line delivered; one with the poison mark is counted. -/
def State.deliver (s : State) (code : Nat) (l : Line) (err : Bool) : State :=
  (if l.poison then s.bump (C.TMP_POISON_READ code) else s).tmpGive (some l) err

/-- TEMPER_READ (R356): master `m` reads a line, by DA / 64. -/
def execTemperRead (m : TMaster) (line : BitVec 32) (dram : Dram) (s : State) : Out :=
  let a := line.toNat
  if s.flag F.TMP_STATUS_HALTED then .next ((s.secLogRec { num := 0x388, scope := (masterCode m), arg := a } []).tmpGive (some { bytes := zeroLine }) true)
  else match s.tmpCheck m a 1 with
    | none => .next (s.tmpDeny (masterCode m) ((s.regionOf a).elim 15 (·.1)) a)
    | some (r, x) =>
      if x.prot then
        let (s, l, err) := s.fetchLine m (masterCode m) r a dram
        .next (s.deliver (masterCode m) l err)
      else
        let (s, l) := s.plainLine (masterCode m) r a dram
        .next (s.deliver (masterCode m) l false)

/-- A partial write to a protected line (R358): read, merged, rewritten; not performed on a line that fails. -/
def State.partWrite (s : State) (m : TMaster) (r a off : Nat) (b : List Byte) (dram : Dram) : State :=
  let (s, l, err) := s.fetchLine m (masterCode m) r a dram
  if err || l.poison then
    let refuse (s : State) : State :=
      (((s.bump (C.TMP_PART_REFUSED (masterCode m))).tmpFail 4 (masterCode m) r a).raise { num := 0x381, scope := (masterCode m), arg := a }).tmpGive none true
    refuse (if err then s else s.poisonAt a)
  else
    match s.putLine a { bytes := l.bytes.take off ++ b ++ l.bytes.drop (off + b.length) } with
    | (s, true) => s.tmpGive none false
    | (s, false) => s.roWrite (masterCode m) r a (decide (m = .ctxCache))

/-- TEMPER_WRITE (R358): master `m` writes bytes to a line from `off`; 64 bytes are a whole-line write. -/
def execTemperWrite (m : TMaster) (line : BitVec 32) (off : Fin 64) (b : List Byte) (dram : Dram) (s : State) : Out :=
  let a := line.toNat
  let b := b.take (64 - off.val)
  let cache := decide (m = .ctxCache)
  if s.flag F.TMP_STATUS_HALTED then .next ((s.secLogRec { num := 0x388, scope := (masterCode m), arg := a } []).tmpGive none true)
  else match s.tmpCheck m a 2 with
    | none => .next (s.tmpDeny (masterCode m) ((s.regionOf a).elim 15 (·.1)) a)
    | some (r, x) =>
      if !x.prot then
        let (s, l) := if b.length = 64 then (s, { bytes := b }) else
          let (s, l) := s.plainLine (masterCode m) r a dram
          (s, { l with bytes := l.bytes.take off.val ++ b ++ l.bytes.drop (off.val + b.length) })
        .next (({ s with tmp := { s.tmp with plain := tabSet none s.tmp.plain a (some l) } }).tmpGive none false)
      else if s.readOnly a then .next (s.roWrite (masterCode m) r a cache)
      else if b.length = 64 then
        if !s.flag F.TMP_STATUS_KEYS_VALID ∨ s.beneath a then
          .next (((s.macFail (masterCode m) r a).tmpCtxFail cache a).tmpGive none true)
        else match dram with
          | .badNode k => .next (((s.metaFail (masterCode m) k.val (nodeOf k.val a) a).tmpCtxFail cache a).tmpGive none true)
          | _ => match s.putLine a { bytes := b } with
            | (s, true) => .next (s.tmpGive none false)
            | (s, false) => .next (s.roWrite (masterCode m) r a cache)
      else .next (s.partWrite m r a off.val b dram)

/-! ## Patrol scrub (R365) -/

/-- Lines of the fitted memory. -/
def State.tmpLines (s : State) : Nat := 16384 * s.fld F.TMP_LAYOUT_FITTED_MIB

/-- The line counted in the pass, and the pass ended after the last. -/
def State.patrolCount (s : State) (ce ue mac : Nat) : State :=
  let t := s.tmp
  let s := { s with tmp := { t with walked := t.walked + 1, walkCe := t.walkCe + ce, walkUe := t.walkUe + ue, walkMac := t.walkMac + mac } }
  if s.tmp.walked < s.tmpLines then s.setFld F.TMP_SCRUB_PROGRESS (100 * s.tmp.walked / s.tmpLines)
  else
    let o : Occ := { num := 0x38A, data := leBytes 4 s.tmp.walkCe ++ leBytes 4 s.tmp.walkUe ++ leBytes 4 s.tmp.walkMac ++ zeros 4 }
    let s := { s with tmp := { s.tmp with walked := 0, walkCe := 0, walkUe := 0, walkMac := 0 } }
    ((s.setFld F.TMP_SCRUB_START 0).setFld F.TMP_SCRUB_PROGRESS 0).raise o

/-- PATROL_SCRUB_LINE (R365): the patrol reads a line. -/
def execPatrolScrubLine (line : BitVec 32) (dram : Dram) (s : State) : Out :=
  let a := line.toNat
  if !(s.flag F.TMP_CFG_SCRUB_EN || s.flag F.TMP_SCRUB_START) || !s.flag F.TMP_STATUS_PRESENT || s.flag F.TMP_STATUS_HALTED ||
    decide (s.tmpLines ≤ a) then .next s
  else
    let r := (s.regionOf a).elim 15 (·.1)
    let prot := decide (a < 16384 * s.tmp.prot)
    let ce := if dram = .corrected then 1 else 0
    let ue := if dram = .uncorrectable then 1 else 0
    if prot && s.tmpWritten a then
      let (s, _, err) := s.fetchLine .monitor tmpScrub r a dram
      .next (s.patrolCount ce ue (if err then 1 else 0))
    else
      let s := match dram with
        | .corrected => s.ddrCe a
        | .uncorrectable => let s := s.ddrUe tmpScrub r a
                            if prot then s.poisonAt a else s
        | .badNode k => if prot then s.metaFail tmpScrub k.val (nodeOf k.val a) a else s
        | _ => s
      .next (s.patrolCount ce ue 0)

/-- A write of TMP_SCRUB (R365): a pass begins at once. -/
def State.tmpScrubWrite (s : State) (w : World) (v : Word) : State :=
  secureOnly w F.TMP_SCRUB_START.addr (fun s =>
    let was := s.flag F.TMP_SCRUB_START
    let s := s.writeReg w F.TMP_SCRUB_START.addr v
    if was || !s.flag F.TMP_SCRUB_START then s
    else ({ s with tmp := { s.tmp with walked := 0, walkCe := 0, walkUe := 0, walkMac := 0 } }).setFld F.TMP_SCRUB_PROGRESS 0) s

/-- TMP_SCRUB_START (R365). -/
def execTmpScrubStart (w : World) (v : Word) (s : State) : Out := .next (s.tmpScrubWrite w v)

/-! ## Layout (R350, R351, R355) -/

/-- The layout registers' layout. -/
def State.layoutRegs (s : State) : Nat × Tab (Option Region) :=
  (256 * min 64 (s.fld F.TMP_LAYOUT_PROT_UNITS),
   (List.range 8).foldl (fun t r =>
     if s.flag (F.TMP_REGION_W0_VALID r) then
       tabSet none t r (some { prot := r == 0 || r == 3 || s.flag (F.TMP_REGION_W0_PROTECTED r)
                               secure := r == 0 || r == 3 || s.flag (F.TMP_REGION_W0_SECURE r)
                               base := s.fld (F.TMP_REGION_W0_BASE_MIB r), size := s.fld (F.TMP_REGION_W1_SIZE_MIB r) })
     else t) [])

/-- The layout that the registers give comes into force, as it does only at a CHIP reset. -/
def State.layoutTake (s : State) : State :=
  { s with tmp := { s.tmp with prot := s.layoutRegs.1, regions := s.layoutRegs.2 } }

/-- LAYOUT_PEND: the registers differ from the layout in force. -/
def State.layoutSync (s : State) : State :=
  s.setFlag F.TMP_STATUS_LAYOUT_PEND (decide (s.layoutRegs ≠ (s.tmp.prot, s.tmp.regions)))

end Sys2Proof.Machine
end

