-- ==== Sys2Proof/Machine/Scrub.lean ====
section
/-! DEFINITION. Machine/Scrub.lean: the on-chip scrubber, poison at its point of use, and error injection
(spec/15_stored_data_protection.md, R370, R374, R379). -/

namespace Sys2Proof.Machine

/-- A change of a frame that is still in the device. -/
def State.onFrame (s : State) (i : Nat) (f : Frm → Frm) : State :=
  match s.frame i with | some x => s.setFrame i (f x) | none => s

/-- A poisoned word in a frame's path: ciphertext not yet settled, or bytes that will leave. -/
def Frm.poisoned (f : Frm) : Frm := if !f.enc && f.heat && f.verdict.isNone then { f with poison := true } else { f with outPoison := true }

/-- A broken chain (R370): the frame is stomped, those behind it in its queue go. -/
def State.breakChain (s : State) (i : Nat) : State :=
  match s.frame i with
  | none => s
  | some f => match f.queue with
    | none => s
    | some _ =>
      let s := s.setFrame i { f with outPoison := true }
      (s.framesOf fun g => g.queue == f.queue && !g.tailDrop && decide (f.enqSeq < g.enqSeq)).foldl
        (fun s e => s.lose e.1 e.2 (State.poisonCause e.2)) s

/-- What a poisoned word does where it is consumed (R370). -/
def State.poisonUse (s : State) (u : EccUse) : State :=
  match u with
  | .nothing | .metaClean => s
  | .frame i | .heat i => s.onFrame i Frm.poisoned
  | .context sa =>
    let s := s.setCtx sa.toNat { s.ctx sa.toNat with poison := true }
    s.toUnusable sa.toNat false
  | .bitmap sa w =>
    let x := s.ctx sa.toNat
    s.setCtx sa.toNat { x with bitmap := x.bitmap ||| (0xFFFFFFFFFFFFFFFF#2048 <<< (64 * w.val)) }
  | .statistics sa k =>
    { s with saStat := tabSet 0 s.saStat (8 * sa.toNat + k.val) 0
             sec := { s.sec with statPoison := tabMod 0 s.sec.statPoison sa.toNat fun v => Nat.lor v (2 ^ k.val) } }
  | .rule i => (s.rulePoison i.toNat).ruleSync
  | .queueConfig q =>
    let x := s.queue q.toNat
    s.setQueue q.toNat { x with shape := false, slope := 0, quantum := 1, limit := 16384, hi := 65535, lo := 65535 }
  | .cellLink i => s.breakChain i
  | .gateEntry n pend =>
    let g := s.gate n.val
    s.setGate n.val (if pend then { g with pendBroken := true } else { g with broken := true })
  | .admission i => match s.frame i with
    | some f => s.setGate f.outPort { s.gate f.outPort with admBad := some i }
    | none => s
  | .metaDirty k index => s.metaFail 0 k.val index 0
  | .slot n => { s with hrt := { s.hrt with badSlots := tabSet none s.hrt.badSlots n.toNat (some s.cyc) } }
  | .monitor => (s.raise { num := 0x3A9, alarm := true }).request 2 0x3A9 8
  | .counter i => s.setCount i.toNat 0
  | .sample k =>
    let mark (r : Option Sample) : Option Sample := r.map fun (x : Sample) => { x with poisoned := true }
    { s with fbk := { s.fbk with samples := tabMod none s.fbk.samples k.toNat mark } }

/-- One word more of the pass; event 0x3A7 at its end (R374). -/
def State.scrubCount (s : State) : State :=
  let n := s.ecc.words + 1
  if n < eccAllWords then
    ({ s with ecc := { s.ecc with words := n } }).setFld F.ECC_SCRUB_PROGRESS (100 * n / eccAllWords)
  else (((({ s with ecc := { s.ecc with words := 0 } }).setFld F.ECC_SCRUB_PROGRESS 0).setFld F.ECC_SCRUB_START 0)).raise { num := 0x3A7 }

/-- ECC_SCRUB_WORD (R374): the scrubber reads word `addr` of memory `mem`; `use` says what the word holds. -/
def execEccScrubWord (mem : Fin 10) (addr : Word) (find : EccFind) (use : EccUse) (s : State) : Out :=
  let a := addr.toNat
  if !(s.flag F.ECC_CFG_SCRUB_EN || s.flag F.ECC_SCRUB_START) || decide (eccWords mem.val ≤ a) then .next s
  else
    let planted := find ≠ .clean ∧ s.flag F.ECC_INJECT_W0_ARM ∧ s.fld F.ECC_INJECT_W0_MEM = mem.val ∧ s.fld F.ECC_INJECT_W1_ADDR = a
    let s := if planted then s.setFld F.ECC_INJECT_W0_ARM 0 else s
    let s := match find with
      | .clean => s
      | .correctable syn => s.eccCe mem.val a syn.toNat 1
      | .uncorrectable syn => (s.eccUe mem.val a syn.toNat 1).poisonUse use
    .next s.scrubCount

/-- A write of ECC_SCRUB (R374): a pass begins at once. -/
def State.eccScrubWrite (s : State) (w : World) (v : Word) : State :=
  let was := s.flag F.ECC_SCRUB_START
  let s := s.writeReg w F.ECC_SCRUB_START.addr v
  if was || !s.flag F.ECC_SCRUB_START then s
    else ({ s with ecc := { s.ecc with words := 0 } }).setFld F.ECC_SCRUB_PROGRESS 0

/-- ECC_SCRUB_START (R374). -/
def execEccScrubStart (w : World) (v : Word) (s : State) : Out := .next (s.eccScrubWrite w v)

/-- A write of ECC_LOG_CTL (R372): CLEAR empties the table and reads 0. -/
def State.eccLogWrite (s : State) (v : Word) : State :=
  if bitsOf v 31 1 = 0 then s
  else
    let s := s.setWords (F.ECC_LOG_W0_VALID 0).addr (List.replicate 128 0)
    (s.setFld F.ECC_LOG_CTL_USED 0).setFld F.ECC_LOG_CTL_OVERFLOW 0

/-- ECC_LOG_CLEAR (R372). -/
def execEccLogClear (_w : World) (v : Word) (s : State) : Out := .next (s.eccLogWrite v)

/-- A write of the first word of ECC_INJECT (R379): refused with event 0x010 outside the secure world, and its ARM while SEALED; a
MEM above 9 is not armed. -/
def State.eccInjectWrite (s : State) (w : World) (v : Word) : State :=
  secureOnly w F.ECC_INJECT_W0_ARM.addr (fun s =>
    if s.otp.lcs = 2 ∧ bitsOf v 31 1 = 1 then s.secureRefused F.ECC_INJECT_W0_ARM.addr w
    else
      let s := s.writeReg w F.ECC_INJECT_W0_ARM.addr v
      if 9 < s.fld F.ECC_INJECT_W0_MEM then s.setFld F.ECC_INJECT_W0_ARM 0 else s) s

/-- ECC_INJECT_ARM (R379): ECC_INJECT written, its second word first. -/
def execEccInjectArm (w : World) (v : Word) (addr : Word) (s : State) : Out :=
  .next ((if w.isSecure then s.writeReg w F.ECC_INJECT_W1_ADDR.addr addr else s).eccInjectWrite w v)

end Sys2Proof.Machine
end

