-- ==== Sys2Proof/Machine/Wire.lean ====
section
/-! DEFINITION. Machine/Wire.lean: choosing a frame for the wire, preemption, the end of a transmission, and frames that firmware
originates (spec/07_bellows_scheduler.md, spec/08, R37, R196, R203). -/

namespace Sys2Proof.Machine

/-- The frame on the wire of a port. -/
def State.onWire (s : State) (n : Nat) : Option (Nat × Frm) :=
  (s.framesOf fun f => f.sending && !f.preempted && f.outPort == n).head?

/-- The preempted frame of a port. -/
def State.held_ (s : State) (n : Nat) : Option (Nat × Frm) :=
  (s.framesOf fun f => f.preempted && f.outPort == n).head?

/-- A frame preempted on the wire: a fragment has gone (R36, R195). -/
def State.preempt (s : State) (i : Nat) (f : Frm) : State :=
  ((s.setFrame i { f with preempted := true }).bump (C.PRT_TX_PREEMPT f.outPort)).bump (C.PRT_TX_FRAG f.outPort)

/-- A frame chosen starts at the MAC (R170, R198); its egress timestamp is `q` quarter-ns later; a standby transmits none. -/
def State.begin_ (s : State) (n i : Nat) (f : Frm) (q : Nat) : State :=
  let t : Rat := s.cycNs + (q : Rat) / 4
  let s := s.setFrame i { f with sending := true, preempted := false, tStart := s.cycNs, adm := none
                                 tOut := if s.isStandby then none else some t }
  s.admSync n

/-- A class's turn: its frame goes on the wire, or, poisoned with no byte sent, is dropped whole (R370). -/
def State.sendFrom (s : State) (n c q : Nat) : State :=
  let s := s.wake n
  match s.takeFrom n c with
  | (s, some (i, f)) =>
    let s := if f.outPoison && f.ended.isNone then s.lose i f (State.poisonCause f) else s.begin_ n i f q
    { s with blw := { s.blw with active := tabSet 0 s.blw.active n (s.activeBits n) } }
  | (s, none) => s

/-- A preempted frame may go on: its class is not gated, or its gate is open. -/
def State.resumes (s : State) (f : Frm) : Bool :=
  s.openNow f.outPort f.cls && s.clearOfSwap f.outPort s.cycNs (wireNs (s.rate f.outPort) f.lOut)

/-- TRANSMIT_SELECT (R170): the transmitter of port `n` looks for a frame.  Where a preemptable frame is on the wire only an
express frame takes its place (R36); a preempted frame goes on ahead of any new preemptable frame (R195). -/
def execTransmitSelect (n : Fin 64) (q : BitVec 16) (s : State) : Out :=
  let n := n.val
  if !s.canSend n then .next s
  else match s.onWire n with
    | some (i, f) =>
      if s.clsPreempt n f.cls && !f.express && (s.held_ n).isNone then
        match s.pickClass n (s.clsExpress n) with
        | some c => .next ((s.preempt i f).sendFrom n c q.toNat)
        | none => .next s
      else .next s
    | none => match s.held_ n with
      | some (i, f) =>
        match s.pickClass n (fun c => !s.clsPreempt n c) with
        | some c => .next (s.sendFrom n c q.toNat)
        | none => if s.resumes f then .next (s.setFrame i { f with preempted := false }) else .next s
      | none => match s.pickClass n (fun _ => true) with
        | some c => .next (s.sendFrom n c q.toNat)
        | none => .next s

/-- Latency of a frame sent, in quarter-ns: egress timestamp less ingress timestamp, on the cycle count (R27, R203, R217). -/
def State.latencyOf (s : State) (f : Frm) : Option Nat :=
  f.tOut.map fun t =>
    (((t - f.tIn) * 4).floor + signed 16 (s.fld (F.DAT_PORT_ADJ_TX_ADJ f.outPort)) -
      signed 16 (s.fld (F.DAT_PORT_ADJ_RX_ADJ f.inPort))).toNat

/-- A frame counted as sent (R37): counters, windows, latency, breach, sampler. -/
def State.sent (s : State) (f : Frm) : State :=
  let n := f.outPort
  let l := f.out.length
  let lat := if f.origin then none else s.latencyOf f
  let s := ((s.bump (C.PRT_TX_FRAMES n)).bumpBy (C.PRT_TX_OCTETS n) l).bwCount n 2 l
  let s := match lat with | some q => s.latSample n f.cls q | none => s
  let s := match lat with
    | some q => if f.deadline ≠ 0 ∧ 4 * f.deadline < q then s.breach n f.cls f.parcel (some ((q + 3) / 4 - f.deadline)) else s
    | none => s
  s.settle f 0 0 lat l

/-- Cells with a hard fault withdrawn as their frame releases them (R376). -/
def State.withdraw (s : State) (k : Nat) : State :=
  (List.range k).foldl (fun s _ =>
    ((s.setFld F.BLW_STATUS_FREE_CELLS (s.fld F.BLW_STATUS_FREE_CELLS - 1)).bump C.ECC_CELL_WITHDRAWN).raise { num := 0x3AA }) s

/-- FRAME_TX_END (R37): the frame on the wire of port `n` ends there; `hard` of its cells hold a hard fault.  It counts as sent
unless it was ended before or poison stomps its tail (R370). -/
def execFrameTxEnd (n : Fin 64) (hard : BitVec 16) (s : State) : Out :=
  let n := n.val
  match s.onWire n with
  | none => .next s
  | some (i, f) =>
    if !f.last then .next s
    else
      let poison := f.outPoison && f.ended.isNone
      let out := if poison then stompOut f.out (s.openPassed f) else f.out
      let k := min hard.toNat f.cells
      let s := if poison then s.drew.account f (State.poisonCause f) 2 f.lOut
        else if f.ended.isSome then s else s.sent f
      let ago := (s.cycNs - f.tStart).floor
      let s := s.tieFrame n f.cls (s.datumNs - BitVec.ofInt 64 ago) (s.cyc - BitVec.ofInt 64 (ago * 3 / 2)) out
      let s := (s.remove i f).withdraw k
      .next ((s.txLanes n).foldl State.sleepTx s)

/-- CONTROL_FRAME_ORIGINATE (R37, R59): firmware sends the frame `b`, given without its FCS, from the control port to port `n` in
class `c`; a standby sends none (R383). -/
def execControlFrameOriginate (n : Fin 64) (c : Fin 8) (b : List Byte) (s : State) : Out :=
  if s.isStandby || s.held || decide (b.length < 60) || decide (s.portMax n.val < b.length + 4) then .next s
  else
    let out := b ++ fcsOf b
    let f : Frm :=
      { inPort := n.val, enc := true, bytes := out, parcel := 0, cls := c.val, express := s.clsExpress n.val c.val, origin := true
        outPort := n.val, rxEnd := true, out := out, lOut := out.length, last := true, stored := true, rel := .done
        tIn := s.cycNs }
    let i := s.nextFrame
    let s := ({ s with nextFrame := i + 1 }).bump (C.TRV_CTL_ORIG n.val)
    let s := s.enqueue i f
    match s.frame i with
    | some g => if g.tailDrop then
        let q := g.queue.getD 0
        .next (s.lose i g { num := 0x289, scope := q, parcel := some 0, cnt := .queue q })
      else .next s
    | none => .next s

end Sys2Proof.Machine
end

