-- ==== Sys2Proof/Machine/Router.lean ====
section
/-! DEFINITION. Machine/Router.lean: a word written to a register of BAR0, taken to what its block does with it
(R14 to R17, R505); the word that a reader sees (R15, R437, R442). -/

namespace Sys2Proof.Machine

/-- Which copy of the registers that start at `base`, `stride` apart, `count` in number, key `a` is. -/
def regIx (base stride count a : Nat) : Option Nat :=
  if base ≤ a ∧ (a - base) % stride = 0 ∧ (a - base) / stride < count then some ((a - base) / stride) else none

/-- The OP field of a word written to a command register. -/
def opOf (f : Fld) (v : Word) : Nat := bitsOf v f.lo f.width

/-- A write of a command register whose OP is 0 (R505): the other writable fields, and nothing else. -/
def State.opZero (s : State) (w : World) (opF : Fld) (v : Word) : State :=
  if secureReg opF.addr && !w.isSecure then s.secureRefused opF.addr w
  else (s.writeReg w opF.addr v).setFld opF 0

/-- A write of a command register: OP 0 starts nothing; any other goes to the block, which refuses what it does not list. -/
def State.cmdWrite (s : State) (w : World) (opF : Fld) (v : Word) (run : Nat → State → State) : State :=
  if opOf opF v = 0 then s.opZero w opF v else run (opOf opF v) s

/-- A plain write: secure fields refused outside the secure world, the others by their access type (R14, R15). -/
def State.plainWrite (s : State) (w : World) (a : Nat) (v : Word) : State :=
  ((if secureReg a && !w.isSecure then s.secureRefused a w else s).writeReg w a v).mirrorReg a v

/-- PRT_PORT_CFG: a change of ACTIVE takes the port into use or out of it; an open port it takes out of use closes (R453, R480). -/
def State.portCfgWrite (s : State) (w : World) (n a : Nat) (v : Word) : State :=
  let was := s.portActive n
  let s := s.plainWrite w a v
  let now := s.portActive n
  if now = was then s else (if now then s else s.closePort n).portActivate n now

/-- A role left because EN reads 0: the chip drives as a single device (R384, R389). -/
def State.tieAlone (s : State) : State :=
  if s.role = Role.alone then s
  else
    let s := (({ s with tie := { s.tie with wait := none, swap := none } }).setFld F.TIE_STATUS_HOLD_OUT 0).setRole Role.alone
    if s.held then s else s.unsquelch

/-- Sequences are not aligned from here on (R390). -/
def State.unaligned (s : State) : State := s.setFld F.TIE_STATUS_COMPARE_OK 0

/-- HELLO, with serial, strap, measurements and the check value of TIE_KEY (R387). -/
def State.sendHello (s : State) : State :=
  s.tieSend { typ := 1, args := [Config.serial.toNat, s.strap]
              data := wordBytes (s.words (F.GLB_FW_MEASURE 0).addr 12) ++ wordBytes (s.words (F.GLB_CFG_MEASURE 0).addr 12) ++
                (tabGet {} s.hrt.slots (s.fld F.TIE_KEY_SLOT)).kcv }

/-- Back to FORMING for a new snapshot (R391). -/
def State.reform (s : State) : State :=
  let s := ({ s with tie := { s.tie with since := some s.cyc, checked := false, refused := false, wait := none, check := none } }).unaligned
  let s := (s.setFld F.TIE_STATUS_HOLD_OUT 0).setRole Role.forming
  if s.flag F.TIE_STATUS_LINK_UP then s.sendHello else s

/-- Formation begins: transmitters squelched (R389). -/
def State.tieForm (s : State) : State := s.reform.squelch

/-- TIE_CFG: EN turned off leaves the pair, EN turned on forms one. -/
def State.tieCfgWrite (s : State) (w : World) (v : Word) : State :=
  let was := s.tieOn
  let s := s.plainWrite w F.TIE_CFG_EN.addr v
  if s.tieOn = was then s else if was then s.tieAlone else s.tieForm

/-- Registers of SRD and PRT. -/
def State.putLanes (s : State) (w : World) (a : Nat) (v : Word) : State :=
  match regIx (F.SRD_LANE_W1_TX_SLEEP 0).addr 64 64 a, regIx (F.SRD_LANE_W3_GEN_EN 0).addr 64 64 a,
    regIx (F.PRT_PORT_W0_ACTIVE 0).addr 16 64 a, regIx (F.PRT_PORT_W1_RESTART 0).addr 16 64 a with
  | some i, _, _, _ => s.laneCtlWrite w i v
  | _, some i, _, _ => s.prbsCfgWrite i v
  | _, _, some n, _ => s.portCfgWrite w n a v
  | _, _, _, some n => s.portCtlWrite w n v
  | _, _, _, _ => s.plainWrite w a v

/-- Registers of TRV and PLT. -/
def State.putTables (s : State) (w : World) (a : Nat) (v : Word) : State :=
  if a = F.TRV_GEN_SWAP.addr then secureOnly w a (fun s => if bitsOf v 1 1 = 1 then s.genSwap else s) s
  else if a = F.TRV_RULE_CMD_OP.addr then s.cmdWrite w F.TRV_RULE_CMD_OP v fun op s => ruleCmd op (.reg w v) s
  else if a = F.PLT_CMD_OP.addr then s.cmdWrite w F.PLT_CMD_OP v fun op s => s.pltReg w v op none
  else if a = F.PLT_REBUILD_START.addr then
    if w = .nonSecure then s.secureRefused a w else if bitsOf v F.PLT_REBUILD_START.lo 1 = 1 then s.pltRebuild else s
  else if w = .service ∧ (a = F.PLT_SEED_NEXT0.addr ∨ a = F.PLT_SEED_NEXT1.addr) then s.writeReg .secure a v
  else match regIx (F.TRV_BYP_CAP_W0_RATE_MBPS 0).addr 4 512 a with
    | some k => secureOnly w a (fun s => s.bypCapWrite w (k / 2) (k % 2) v) s
    | none => s.plainWrite w a v

/-- Registers of SEC, ANV and BLW. -/
def State.putPath (s : State) (w : World) (a : Nat) (v : Word) : State :=
  if a = F.SEC_CMD_OP.addr then s.cmdWrite w F.SEC_CMD_OP v fun op s => secCmd op (.reg w v) s
  else if a = F.BLW_QCMD_OP.addr then s.cmdWrite w F.BLW_QCMD_OP v fun op s => s.queueReg w v op none
  else if a = F.ANV_HEAT_USE_HWM.addr then
    if bitsOf v F.ANV_HEAT_USE_HWM_CLR.lo 1 = 1 then s.setFld F.ANV_HEAT_USE_HWM s.heats else s
  else if a = F.ANV_XRES_COUNT.addr then (s.plainWrite w a v).svcSync
  else match regIx (F.SEC_REL_PORT_RESUME 0).addr 4 32 a, regIx (F.ANV_CTL_RETURN 0).addr 4 40 a,
    regIx (F.BLW_POLICE_W0_EN 0).addr 4 256 a with
  | some n, _, _ => s.relPortWrite w n v
  | _, some n, _ => s.anvCtlWrite w n v
  | _, _, some k => secureOnly w a (fun s => s.policerWrite w (k / 2) (k % 2) v) s
  | _, _, _ => s.plainWrite w a v

/-- Registers of GAT and DAT. -/
def State.putTime (s : State) (w : World) (a : Nat) (v : Word) : State :=
  if a = F.GAT_GCL_CMD_OP.addr then s.cmdWrite w F.GAT_GCL_CMD_OP v fun op s => gclCmd op (.reg w v) s
  else if a = F.DAT_CMD_OP.addr then s.cmdWrite w F.DAT_CMD_OP v fun op s => datCmd op (.reg w v) s
  else if a = F.DAT_CFG_SRC.addr then secureOnly w a (fun s => s.srcWrite w v) s
  else if a = F.DAT_FREQ.addr then secureOnly w a (fun s => s.freqWrite v) s
  else if a = F.MER_CFG_EN.addr then
    let s := s.plainWrite w a v
    if s.flag F.MER_CFG_EN then s else s.merGo 0
  else match regIx (F.GAT_PORT_CFG_GATE_EN 0).addr 4 64 a, regIx (F.GAT_CLASS_CFG_W0_EXPRESS 0).addr 4 1024 a,
    regIx (F.DAT_STAKE_W0_ARM 0).addr 32 8 a with
  | some n, _, _ => secureOnly w a (fun s => s.gatWrite w n a v) s
  | _, some k, _ => secureOnly w a (fun s => s.gatWrite w (k / 16) a v) s
  | _, _, some k => secureOnly w a (fun s => s.stakeWrite w k v) s
  | _, _, _ => s.plainWrite w a v

/-- Registers of HRT, TMP, ECC, TIE and FBK. -/
def State.putRest (s : State) (w : World) (a : Nat) (v : Word) : State :=
  if a = F.HRT_CMD_OP.addr then
    s.cmdWrite w F.HRT_CMD_OP v fun op s =>
      hrtCmd op (if op = 0x12 then s.fld F.HRT_CMD_ARG / 2 ^ 29 else s.fld F.HRT_CMD_ARG / 65536 % 4) (.reg w v) s
  else if a = F.TMP_SCRUB_START.addr then s.tmpScrubWrite w v
  else if a = F.TMP_LAYOUT_PROT_UNITS.addr ∨ (regIx (F.TMP_REGION_W0_VALID 0).addr 4 32 a).isSome then
    (s.plainWrite w a v).layoutSync
  else if a = F.ECC_LOG_CTL_USED.addr then s.eccLogWrite v
  else if a = F.ECC_SCRUB_START.addr then s.eccScrubWrite w v
  else if a = F.ECC_INJECT_W0_ARM.addr then s.eccInjectWrite w v
  else if a = F.TIE_CFG_EN.addr then s.tieCfgWrite w v
  else if a = F.FBK_SMP_CFG_EN.addr then secureOnly w a (fun s => s.smpCfgWrite w v) s
  else if a = F.FBK_BW_CFG_WINDOW_US.addr then s.windowWrite w v
  else match regIx (F.FBK_HSEL_VALID 0).addr 4 32 a with
  | some h => s.hselWrite w h v
  | none => s.plainWrite w a v

/-- A word written at key `a` of BAR0, but for the registers whose bits reset, recover or swap the chip. -/
def State.regPut (s : State) (w : World) (a : Nat) (v : Word) : State :=
  match a / 0x100000 with
  | 1 | 2 => s.putLanes w a v
  | 3 | 4 => s.putTables w a v
  | 5 | 6 | 7 => s.putPath w a v
  | 8 | 9 => s.putTime w a v
  | 0xA | 0xB | 0xC | 0xD | 0xF => s.putRest w a v
  | _ => s.plainWrite w a v

/-! ## Reading -/

/-- Registers of a function's own view of BAR0: the whole of it for PF0, 64 KiB for a virtual function (R300). -/
def viewOk (f o n : Nat) : Bool := if f = 0 then decide (o + 4 * n ≤ 0x1000000) else decide (o + 4 * n ≤ 0x10000)

/-- The record of the sample slot that FBK_SMP_RD names, as FBK_SMP_WIN shows it. -/
def State.smpWin (s : State) : List Byte :=
  match tabGet none s.fbk.samples (s.fld F.FBK_SMP_RD_INDEX) with
  | some x => x.bytes
  | none => zeros 32

/-- A word of counter `i`: the low word latches the high one for master `m`, which takes it at its next read (R437). -/
def State.readCounter (s : State) (m i : Nat) (high : Bool) : State × Word :=
  let v := s.count i
  if !high then
    ({ s with fbk := { s.fbk with cntLatch := tabSet (0, 0) s.fbk.cntLatch m (i, v.extractLsb' 32 32) } }, v.extractLsb' 0 32)
  else
    let l := tabGet (0, 0) s.fbk.cntLatch m
    if l.1 = i ∧ (s.fbk.cntLatch.any fun e => e.1 == m) then
      ({ s with fbk := { s.fbk with cntLatch := tabSet (0, 0) s.fbk.cntLatch m (0, 0) } }, l.2)
    else (s, v.extractLsb' 32 32)

/-- What the register at key `a` shows to a reader in world `w`. -/
def State.shown (s : State) (w : World) (a : Nat) : Word :=
  match regDesc a with
  | some d => d.readWord w.isSecure (s.word a)
  | none => 0

/-- The state that a meaning answers, where it answers one. -/
def nextOf (s : State) : Out → State
  | .next t => t
  | _ => s

/-- A word read at key `a` of BAR0 by PF0, with what the read itself does (R210, R223, R437, R444). -/
def State.readPf (s : State) (a : Nat) : State × Word :=
  if 0xF10000 ≤ a ∧ a < 0xF10000 + 65536 then s.readCounter 0 ((a - 0xF10000) / 8) ((a - 0xF10000) % 8 == 4)
  else
    let s := if a = F.DAT_NOW_FRAC.addr then nextOf s (execNowLatch s) else s
    let s := match regIx (F.DAT_BENCH_W1_LO 0).addr 16 8 a with
      | some i => nextOf s (execBenchPop (Fin.ofNat 8 i) s)
      | none => s
    let s := match regIx (F.FBK_BW 0).addr 32 64 a with
      | some n => nextOf s (execBandwidthRead (Fin.ofNat 64 n) s)
      | none => s
    match regIx F.FBK_SMP_RD_INDEX.addr 4 14 a with
    | some k => (s, if 6 ≤ k then (leWords 8 s.smpWin).getD (k - 6) 0 else s.shown .nonSecure a)
    | none => (s, s.shown .nonSecure a)

/-- The key whose register the window of parcel `p` shows at offset `o`, and the bits it shows (R322). -/
def winReg (p o : Nat) : Option (Nat × Nat) :=
  match o with
  | 0x0004 => some ((F.GLB_PARCEL_W1_TENANT p).addr, 32)
  | 0x0008 => some ((F.GLB_PARCEL_LIM_W0_SC_MAX p).addr, 32)
  | 0x000C => some ((F.GLB_PARCEL_LIM_W1_SLOT_MAX p).addr, 32)
  | 0x0010 => some ((F.GLB_PARCEL_USE_W0_SCS p).addr, 32)
  | 0x0014 => some ((F.GLB_PARCEL_USE_W1_SLOTS p).addr, 32)
  | 0x0018 => some ((F.BLW_PARCEL_OCC_CELLS p).addr, 19)
  | 0x001C => some ((F.BLW_PARCEL_CFG_BUF_QUOTA p).addr, 19)
  | 0x0020 => some ((F.PLT_PARCEL_OCC_COUNT p).addr, 19)
  | 0x0024 => some ((F.PLT_PARCEL_CFG_QUOTA p).addr, 19)
  | 0x0100 => some (F.PLT_CMD_OP.addr, 32)
  | 0x0104 => some (F.PLT_FLUSH_MODE.addr, 32)
  | 0x0200 => some (F.BLW_QCMD_OP.addr, 32)
  | _ => none

/-- A word read at offset `o` of the window of parcel `p` (R322, R440). -/
def State.readWin (s : State) (p o : Nat) : State × Word :=
  if o = 0 then
    (s, putBits (s.shown .secure (F.GLB_PARCEL_W0_STATE p).addr) 16 6 p)
  else if 0x110 ≤ o ∧ o < 0x120 then (s, s.shown .nonSecure (pltWin + (o - 0x110)))
  else if 0x210 ≤ o ∧ o < 0x240 then (s, s.shown .nonSecure (blwWin + (o - 0x210)))
  else if 0x1000 ≤ o ∧ o < 0x1060 then
    match parcelCounter p ((o - 0x1000) / 8) with
    | some i => s.readCounter p i ((o - 0x1000) % 8 == 4)
    | none => (s, 0)
  else match winReg p o with
    | some (a, n) => (s, BitVec.ofNat 32 (bitsOf (s.shown .secure a) 0 n))
    | none => (s, 0)

/-- Consecutive words read by function `f` from offset `o`. -/
def State.readView (f : Nat) : Nat → Nat → State → State × List Word
  | 0, _, s => (s, [])
  | n + 1, o, s =>
    let x := if f = 0 then s.readPf o else s.readWin f o
    let r := State.readView f n (o + 4) x.1
    (r.1, x.2 :: r.2)

/-- The first offset of `n` words from `o` whose register has a secure field. -/
def firstSecure : Nat → Nat → Option Nat
  | 0, _ => none
  | n + 1, o => if secureReg o then some o else firstSecure n (o + 4)

end Sys2Proof.Machine
end

