-- ==== Sys2Proof/Machine/Boot.lean ====
section
/-! DEFINITION. Machine/Boot.lean: the boot flash and recovery (spec/11_signed_control.md, R265 to R268), what resets clear and
keep and the path to verified firmware (spec/20_power_reset_bringup.md), the repair engine (R377, R378) and the mounting of the
Hearth store (R250, R251). -/

namespace Sys2Proof.Machine

/-! ## The flash (R265) -/

/-- Bytes `b` programmed at offset `o` of a slot. -/
def flashPut (l : List Byte) (o : Nat) (b : List Byte) : List Byte :=
  l.take o ++ List.replicate (o - l.length) 0xFF ++ b ++ l.drop (o + b.length)

/-- `n` bytes read at offset `o`; erased bytes read 0xFF. -/
def flashGet (l : List Byte) (o n : Nat) : List Byte :=
  slice l o n ++ List.replicate (n - (slice l o n).length) 0xFF

def State.fwFlash (s : State) (k : Nat) : List Byte := if k = 0 then s.ctl.fwA else s.ctl.fwB
def State.setFwFlash (s : State) (k : Nat) (l : List Byte) : State :=
  if k = 0 then { s with ctl := { s.ctl with fwA := l } } else { s with ctl := { s.ctl with fwB := l } }
def State.cfgFlash (s : State) (k : Nat) : List Byte := if k = 0 then s.ctl.cfgA else s.ctl.cfgB
def State.setCfgFlash (s : State) (k : Nat) (l : List Byte) : State :=
  if k = 0 then { s with ctl := { s.ctl with cfgA := l } } else { s with ctl := { s.ctl with cfgB := l } }

/-- Copy 1 is the one in use: of the valid copies, the one with the higher SEQ. -/
def State.recSecond (s : State) : Bool :=
  match s.ctl.rec0, s.ctl.rec1 with
  | some a, some b => decide (a.seq < b.seq)
  | none, some _ => true
  | _, _ => false

/-- The boot record in force; without one, slots A. -/
def State.bootRec (s : State) : BootRec :=
  (if s.recSecond then s.ctl.rec1 else s.ctl.rec0).getD { seq := 0, fw := 0, cfg := 0 }

/-- A new boot record: the other copy, SEQ + 1. -/
def State.writeBootRec (s : State) (fw cfg : Nat) : State :=
  let r : BootRec := { seq := s.bootRec.seq + 1, fw := fw, cfg := cfg }
  if s.recSecond ∨ s.ctl.rec0.isNone then { s with ctl := { s.ctl with rec0 := some r } }
  else { s with ctl := { s.ctl with rec1 := some r } }

/-! ## Firmware verification (R266) -/

structure FwInfo where
  svn : Nat
  flags : Nat
  version : Nat
  keyIndex : Nat
  measure : List Byte

/-- The image in a firmware slot: what it is, or the code it is refused with (R285, R287).  The doubled verdict is apart. -/
def fwCheck (o : Otp) (l : List Byte) : FwInfo ⊕ Nat :=
  let n := leNat (flashGet l 12 4)
  let img := flashGet l 0 n
  let covered := img.take (n - sigBlockLen)
  let blk := img.drop (n - sigBlockLen)
  let svn := leAt img 6 1
  let flags := leAt img 7 1
  if n < 32 + sigBlockLen ∨ 16777216 < n ∨ slice img 0 4 ≠ [0x5A, 0x47, 0x46, 0x57] ∨ leAt img 4 2 ≠ 1 then .inr St.imageFormat
  else if svn < o.svnFloor then .inr St.svnLow
  else if flags / 2 ^ (1 + sigKeyIndex blk) % 2 = 1 ∧ sigKeyIndex blk ≤ 3 then .inr St.keyRevoked
  else match o.verify 0 (label "ZGD fw") covered blk with
    | .revoked => .inr St.keyRevoked
    | .bad => .inr St.sigBad
    | .ok => .inl { svn := svn, flags := flags, version := leAt img 8 4, keyIndex := sigKeyIndex blk, measure := Config.sha384 covered }

/-- The firmware of slot `k` runs (R266, R267). -/
def State.runFw (s : State) (k : Nat) (i : FwInfo) : State :=
  let s := ((s.setFld F.GLB_BOOT_STAGE 1).setFld F.GLB_BOOT_FW_SLOT k).setFld F.GLB_BOOT_FW_SVN i.svn
  { s.setWords (F.GLB_FW_MEASURE 0).addr (leWords 12 i.measure) with ctl := { s.ctl with fwVersion := i.version } }

/-- The slot that the boot record names, then the other (R266); `agree` is the doubled verdict on the first that passes. -/
def State.romFirmware (s : State) (agree : Bool) : State :=
  let n := s.bootRec.fw
  let other (s : State) : State := match fwCheck s.otp (s.fwFlash (1 - n)) with
    | .inl i => (s.runFw (1 - n) i).setFld F.GLB_BOOT_FALLBACK 1
    | .inr _ => s.setFld F.GLB_BOOT_STAGE 8
  match fwCheck s.otp (s.fwFlash n) with
  | .inl i => if agree then s.runFw n i else other (s.ddMismatch 0)
  | .inr _ => other s

/-! ## Repair (R377, R378) -/

/-- Spares used in a macro. -/
def State.spareUsed (s : State) (m : Nat) : Nat := Config.factorySpares m + tabGet 0 s.ecc.spares m

/-- Free fuse entries. -/
def State.fuseFree (s : State) : Nat := 2048 - Config.factoryFuses - s.ecc.fuses

/-- A fault repaired by the next spare of its macro, rows before columns; without a spare, its cell withdrawn or the fault left in
service with event 0x3A6. -/
def State.repairOne (s : State) (mem addr : Nat) : State :=
  let m := eccMacro mem addr
  let used := s.spareUsed m
  if used < 6 ∧ 0 < s.fuseFree then
    let s := { s with ecc := { s.ecc with spares := tabSet 0 s.ecc.spares m (tabGet 0 s.ecc.spares m + 1), fuses := s.ecc.fuses + 1 } }
    if s.flag F.ECC_REPAIR_LAST_VALID then s
    else
      ((((s.setFld F.ECC_REPAIR_LAST_VALID 1).setFld F.ECC_REPAIR_LAST_ROW_COL (if used < 4 then 0 else 1)).setFld
        F.ECC_REPAIR_LAST_MACRO m).setFld F.ECC_REPAIR_LAST_INDEX s.openVal).drew
  else if mem = 0 ∧ 1048576 ≤ addr then s.withdraw 1
  else ((s.setFld F.ECC_STATUS_UNREPAIRED 1).raise { num := 0x3A6, scope := mem, arg := addr, alarm := true }).request 1 0x3A6 mem

/-- The repair engine: the pending entries, then what the march test finds; the pending record is cleared. -/
def State.repair (s : State) (march : List (Nat × Nat)) : State :=
  let pend := match s.current 3 1 with | some r => (match r.pay with | .repair l => l | _ => []) | none => []
  let s := (pend ++ march.filter (fun f => !pend.contains f)).foldl (fun s f => s.repairOne f.1 f.2) s
  let s := ((s.setFld F.ECC_STATUS_FACTORY_USED (min 2048 Config.factoryFuses)).setFld F.ECC_STATUS_FIELD_USED s.ecc.fuses).setFld
    F.ECC_REPAIR_FUSE_FREE s.fuseFree
  if pend = [] then s else ({ s with ecc := { s.ecc with pend := [] } }).repairSync

/-! ## What a reset other than a parcel reset clears (R18, R475) -/

/-- Store commits that a reset overtakes (R250): the first `n` of those queued are written, and the next may be cut short. -/
def State.writeOut (s : State) (n : Nat) (torn : Bool) : State :=
  let s := (List.range n).foldl (fun s _ => nextOf s (execStoreCommitDone true s)) s
  match s.hrt.commits with
  | c :: _ => match s.freeRec c.area with
    | some i =>
      if torn then
        let g := (s.copies c.area c.id).foldl (fun m e => max m e.2.gen) 0
        s.setRecSlot c.area i { writes := s.recWrites c.area i + 1, copy := some { id := c.id, gen := g + 1, pay := c.pay, crcOk := false } }
      else s
    | none => s
  | [] => s

/-- Before anything else: transmitters squelched and the interlock released, ports closed, rings disabled, sessions closed (R475). -/
def State.goDown (s : State) : State :=
  (List.range 64).foldl (fun s f => s.hostReset f 4) ((List.range 64).foldl State.closePort s.tieRelease)

/-- A boot record that was due 20 ms after SWITCH (R276, R277). -/
def State.recordDue (s : State) : State :=
  match s.ctl.run with
  | some r => match r.switched with
    | some t => if !r.recorded && s.passed t (20 * cycMs) then s.writeBootRec s.bootRec.fw (1 - s.bootRec.cfg) else s
    | none => s
  | none => s

/-- What a function keeps: the masks of its vectors and the tally of events not posted. -/
def FnS.kept (x : FnS) : FnS :=
  { lost := x.lost, lostFirst := x.lostFirst, lostLast := x.lostLast
    vec0 := { masked := x.vec0.masked }, vec1 := { masked := x.vec1.masked }
    vec2 := { masked := x.vec2.masked }, vec3 := { masked := x.vec3.masked } }

/-- The operational log without the repeats that were not yet written (R427, R432). -/
def Fbk.opKept (b : Fbk) : List LogRec :=
  match b.opLog.getLast? with
  | some r => if b.opPend = 0 then b.opLog else b.opLog.dropLast ++ [({ r with rep := max 1 (r.rep - b.opPend) } : LogRec).sealed]
  | none => []

/-- The field book after a reset: logs, life block and archive, which an unprotected region keeps through a CHIP reset. -/
def State.fbkKept (s : State) (power : Bool) (now : BitVec 64) : Fbk :=
  let b := s.fbk
  let keep := !power && (match tabGet none s.tmp.regions 2 with | some r => !r.prot | none => false)
  { life := b.life, archive := if keep then b.archive else [], archiveGen := b.archiveGen, secLog := b.secLog, opLog := b.opKept
    secSeq := b.secSeq, opSeq := b.opSeq, hourAt := b.hourAt, winAt := now, minAt := now, envAt := now, bufAt := now }

def Hrt.kept (h : Hrt) (now : BitVec 64) : Hrt :=
  { store := h.store, kek := h.kek, listed := h.listed, nearFull := h.nearFull, reseed := now }

/-- The flash, and what is owed to the next boot. -/
def Ctl.kept (c : Ctl) (power : Bool) : Ctl :=
  { fwA := c.fwA, fwB := c.fwB, cfgA := c.cfgA, cfgB := c.cfgB, rec0 := c.rec0, rec1 := c.rec1, lcsNew := c.lcsNew
    owedPower := c.owedPower + b2n power, owedBoots := c.owedBoots + 1 }

/-- The state that a reset leaves: the domains restored, and of all the rest what R475 keeps. -/
def State.cleared (s : State) (power : Bool) : State :=
  let now : BitVec 64 := if power then 0 else s.cyc
  let t := s.resetDomains fun d => d == Dom.chip || d == Dom.parcel || (power && d == Dom.power)
  let ecc : Ecc := { fuses := s.ecc.fuses, spares := s.ecc.spares }
  let tie : Tie := { restarted := if power then none else s.tie.restarted, swapMin := s.tie.swapMin }
  let tmp : Tmp := { plain := if power then [] else s.tmp.plain }
  let u : State :=
    { pending := s.pending, regs := t.regs, cyc := now, datum := if power then 0 else s.datum, free := s.free
      opMin := s.opMin, powerCycles := s.powerCycles, boots := s.boots, otp := s.otp
      fns := if power then [] else tabMapKeep (fun _ => {}) (fun _ x => x.kept) s.fns
      fbk := s.fbkKept power now, hrt := s.hrt.kept now, ctl := s.ctl.kept power, ecc := ecc, tie := tie, tmp := tmp
      bypAt := now, polAt := now, sampAt := now, prt := { refGone := s.prt.refGone }
      env := { held := power, pll := !power && s.env.pll }
      linkUp := !power && s.linkUp, linkSpeed := if power then 0 else s.linkSpeed, linkWidth := if power then 0 else s.linkWidth }
  let u := (u.setFld F.TIE_STATUS_STRAP s.strap).setFld F.TIE_STATUS_HOLD_IN (s.fld F.TIE_STATUS_HOLD_IN)
  let n := u.fbk.secLog.length
  ((u.setFld F.FBK_STATUS_SEC_USED n).setFlag F.FBK_STATUS_SEC_FULL (n == 4096)).setFld F.FBK_SEC_OVF_OVERFLOW u.fbk.life.secOverflow

/-! ## The ROM (R477) -/

/-- What OTP shows: life cycle, floors, evidence. -/
def State.otpShow (s : State) : State :=
  let s := ((s.setFld F.HRT_STATUS_LCS s.otp.lcs).setFld F.HRT_STATUS_STORE_LOSS s.otp.storeLoss).setFld F.GLB_BOOT_SVN_FLOOR s.otp.svnFloor
  (if s.otp.lcs = 0 then s.setFld F.GLB_BOOT_DEBUG 3 else s).evLoad

/-- From the core PLL's lock to verified firmware, or to NO_FW. -/
def State.rom (s : State) (b : BootIn) : State :=
  let s := ({ s with env := { s.env with pll := true } }).setFld F.HRT_STATUS_TRNG_OK 1
  let s := s.repair (b.march.map fun f => (f.1.val, f.2.toNat))
  let s := s.otpShow.setFlag F.HRT_STATUS_HUK_OK b.huk
  let s := if b.huk then s else s.hrtEvent { num := 0x340 } 0
  s.batRecover.romFirmware b.agree

/-- A reset that starts at the row of the core PLL's lock: its cause recorded, and the ROM (R474, R477). -/
def State.resetChip (s : State) (cause : Fld) (b : BootIn) : State :=
  ((((s.goDown.recordDue).writeOut b.written.val b.torn).cleared false).setFld cause 1).rom b

/-- POWER_ON_RESET (R18, R474): PORST_N asserted, or VDD_CORE below its threshold; `written` and `torn` say how far the queued store
commits came. -/
def execPowerOnReset (written : Fin 33) (torn : Bool) (s : State) : Out :=
  if s.env.held then .next s else .next (((s.goDown.recordDue).writeOut written.val torn).cleared true)

/-- PORST_N_RELEASE (R473, R477): TIE_ROLE sampled; with SYS_REFCLK present the PLL locks and the boot goes on. -/
def execPorstNRelease (strap refclk : Bool) (b : BootIn) (s : State) : Out :=
  if !s.env.held then .next s
  else
    let s := ({ s with env := { s.env with held := false } }).setFlag F.TIE_STATUS_STRAP strap
    .next (if refclk then s.rom b else s)

/-- CORE_PLL_LOCK (R472): SYS_REFCLK arrives on a device that waits for it. -/
def execCorePllLock (b : BootIn) (s : State) : Out := .next (if s.env.held || s.env.pll then s else s.rom b)

/-- A CHIP reset commanded, or one of another cause, on a device that is out of power-on reset. -/
def State.chipReset (s : State) (cause : Fld) (b : BootIn) : State := if s.env.held || !s.env.pll then s else s.resetChip cause b

/-- CHIP_RESET (R474): GLB_RST.CHIP written. -/
def execChipReset (w : World) (b : BootIn) (s : State) : Out :=
  .next (secureOnly w F.GLB_RST_CHIP.addr (fun s => s.chipReset F.GLB_RST_CAUSE_CHIP_CMD b) s)

/-- WATCHDOG_RESET (R297, R474). -/
def execWatchdogReset (b : BootIn) (s : State) : Out := .next (s.chipReset F.GLB_RST_CAUSE_WATCHDOG b)

/-! ## Recovery (R268) -/

namespace Rv
def ok : Nat := 0
def badArg : Nat := 1
def flashErr : Nat := 2
def verifyFail : Nat := 3
def overrun : Nat := 4
end Rv

def State.noFw (s : State) : Bool := s.fld F.GLB_BOOT_STAGE == 8

def State.recStatus (s : State) (c : Nat) : State := s.setFld F.GLB_RECOVERY_CTL_STATUS c

/-- ERASE: firmware slot A; what a failed erase leaves there is open. -/
def State.recErase (s : State) (good : Bool) : State :=
  if good then (s.setFwFlash 0 []).recStatus Rv.ok
  else ((s.setFwFlash 0 (leBytes (s.openVal % 16777217) s.drew.openVal)).drew.drew).recStatus Rv.flashErr

/-- WRITE: LEN bytes of the data window at OFS; what a failed one leaves in their place is open. -/
def State.recWrite (s : State) (good : Bool) : State :=
  let o := s.fld F.GLB_RECOVERY_OFS
  let n := s.fld F.GLB_RECOVERY_LEN
  if o % 4096 ≠ 0 ∨ 16777216 ≤ o ∨ n % 4 ≠ 0 ∨ n < 4 ∨ 4096 < n then s.recStatus Rv.badArg
  else if good then
    (s.setFwFlash 0 (flashPut s.ctl.fwA o (wordBytes (s.words (F.GLB_RECOVERY_DATA 0).addr (n / 4))))).recStatus Rv.ok
  else (s.setFwFlash 0 (flashPut s.ctl.fwA o (leBytes n s.openVal))).drew.recStatus Rv.flashErr

/-- BOOT: slot A verified; on success a boot record that names it, and the boot. -/
def State.recBoot (s : State) (agree : Bool) : State :=
  match fwCheck s.otp s.ctl.fwA with
  | .inl i => if agree then ((s.recStatus Rv.ok).writeBootRec 0 s.bootRec.cfg).runFw 0 i else (s.ddMismatch 0).recStatus Rv.verifyFail
  | .inr _ => s.recStatus Rv.verifyFail

/-- A write of GLB_RECOVERY_CTL, ignored outside NO_FW; with more than one bit the first of ERASE, WRITE, BOOT. -/
def State.recCtlWrite (s : State) (v : Word) (good : Bool) : State :=
  if !s.noFw then s
  else if bitsOf v 31 1 = 1 then s.recErase good
  else if bitsOf v 30 1 = 1 then s.recWrite good
  else if bitsOf v 29 1 = 1 then s.recBoot good else s

def execRecoveryErase (good : Bool) (s : State) : Out := .next (s.recCtlWrite 0x80000000 good)
def execRecoveryWrite (good : Bool) (s : State) : Out := .next (s.recCtlWrite 0x40000000 good)
def execRecoveryBoot (agree : Bool) (s : State) : Out := .next (s.recCtlWrite 0x20000000 agree)

/-! ## The Hearth store mounted (R250, R251, R478) -/

/-- One more bit of the store-loss thermometer. -/
def State.storeLossBit (s : State) : State :=
  let n := min 64 (s.otp.storeLoss + 1)
  ({ s with otp := { s.otp with storeLoss := n } }).setFld F.HRT_STATUS_STORE_LOSS n

/-- A copy that fails its checks: its slot is free, and the trace of R250. -/
def State.mountSlot (s : State) (a i : Nat) : State :=
  let r := s.recSlot a i
  match r.copy with
  | none => s
  | some c =>
    if c.crcOk && c.macOk then s
    else
      let s := s.setRecSlot a i { r with copy := none }
      if !c.crcOk then (s.bump (C.HRT_TORN a)).hrtEvent { num := 0x345, scope := a, arg := c.id } i
      else (s.hrtErr 0x346 i).raiseSec { num := 0x346, scope := a, arg := c.id } []

/-- A tombstone that others of its record outlived: they go. -/
def State.mountTomb (s : State) (a i : Nat) : State :=
  match (s.recSlot a i).copy with
  | some c =>
    if c.pay = Pay.tombstone ∧ (s.copies a c.id).any (fun e => decide (e.2.gen < c.gen)) then
      (s.tidyRec a c.id .tombstone).hrtEvent { num := 0x351, scope := a, arg := c.id } i
    else s
  | none => s

/-- Records that are listed and have no valid copy are lost. -/
def State.mountLost (s : State) : State :=
  let gone := s.hrt.listed.filter fun k => (s.current (k / 1000000) (k % 1000000)).isNone
  let s := { s with hrt := { s.hrt with listed := s.hrt.listed.filter fun k => !gone.contains k } }
  gone.foldl (fun s k =>
    let s := (s.hrtErr 0x347 0).raiseSec { num := 0x347, scope := k / 1000000, arg := k % 1000000 } []
    if k / 1000000 = 2 then s.storeLossBit else s) s

/-- BBRAM_KEK absent: areas 0 to 2 begin empty under a new one. -/
def State.mountFresh (s : State) : State :=
  let s := (s.hrtEvent { num := 0x352 } 0).storeLossBit
  let s := (s.hrtErr 0x347 0).raiseSec { num := 0x347, scope := 2 } []
  ({ s with hrt := { s.hrt with
      kek := some s.randomVal, listed := [], epochs := [], seqs := [], tenants := [], ack := 0
      store := tabMapKeep (fun _ => {}) (fun k (e : RecSlot) => if k < 3 * 4096 then { e with copy := none } else e) s.hrt.store } }).drew

/-- The owner area's record and the persistent slots, loaded. -/
def State.mountLoad (s : State) : State :=
  let s := match (s.current 0 0).map (fun (r : Rec) => r.pay) with
    | some (.owner e q t a) => { s with hrt := { s.hrt with epochs := e, seqs := q, tenants := t, ack := a } }
    | _ => s
  let s := (List.range 64).foldl (fun s p =>
    let t := tabGet 0 s.hrt.tenants p
    let s := (s.setFld (F.GLB_PARCEL_W2_EPOCH p) (s.parcelEpoch p)).setFld (F.GLB_PARCEL_W3_XSEQ p) (tabGet 0 s.hrt.seqs p)
    if t = 0 then s else (s.setFld (F.GLB_PARCEL_W1_TENANT p) t).setFld (F.GLB_PARCEL_W0_STATE p) Ps.running) s
  let keys := ((List.range (areaSlots 1)).filterMap fun i => (s.recSlot 1 i).copy.map (·.id)).eraseDups
  let s := keys.foldl (fun s n => match (s.current 1 n).map (fun (r : Rec) => r.pay) with
    | some (.key x) => s.setSlot n { x with hidden := none }
    | _ => s) s
  (List.range 64).foldl State.slotUse s

/-- The counts of power-on resets and boots, committed (R478). -/
def State.countBoot (s : State) : State :=
  let s := { s with
    powerCycles := s.powerCycles + s.ctl.owedPower, boots := s.boots + s.ctl.owedBoots
    ctl := { s.ctl with owedPower := 0, owedBoots := 0 } }
  let s := (s.setFld F.GLB_LIFE_W0_POWER_CYCLES s.powerCycles).setFld F.GLB_LIFE_W1_BOOTS s.boots
  (s.commitNow 3 0 (.counters s.opMin s.powerCycles s.boots)).1

/-- HRT_STORE_AREA of areas 0 to 3 as the mount finds them. -/
def State.mountAreas (s : State) : State :=
  (List.range 4).foldl (fun s a => let s := s.areaSync a; if (s.freeRec a).isNone then s.areaReadOnly a else s) s

/-- The mount: with the HUK good, areas 0 to 2 too. -/
def State.mount (s : State) : State :=
  let areas := if s.flag F.HRT_STATUS_HUK_OK then [0, 1, 2, 3] else [3]
  let s := areas.foldl (fun s a => (List.range (areaSlots a)).foldl (fun s i => s.mountSlot a i) s) s
  let s := if !s.flag F.HRT_STATUS_HUK_OK then s
    else
      let s := if s.hrt.kek.isNone then s.mountFresh
        else ([1, 2].foldl (fun s a => (List.range (areaSlots a)).foldl (fun s i => s.mountTomb a i) s) s).mountLost
      (s.setFld F.HRT_STATUS_KEK_OK 1).mountLoad
  (s.mountAreas.countBoot).setFld F.GLB_BOOT_STAGE 2

end Sys2Proof.Machine
end

