-- ==== Sys2Proof/Machine/Tie.lean ====
section
/-! DEFINITION. Machine/Tie.lean: the Tie pair — interlock, link, roles, comparison, marks, takeover and planned swaps
(spec/16_tie_pair.md), and the second computation of doubled decisions (R414). -/

namespace Sys2Proof.Machine

/-! ## Roles and the interlock (R384, R385, R389) -/

def State.holdIn (s : State) : Bool := s.flag F.TIE_STATUS_HOLD_IN
def State.holdOut (s : State) : Bool := s.flag F.TIE_STATUS_HOLD_OUT

/-- TIE_HOLD_OUT asserted, and TIE_HOLD_IN read deasserted since for as long as R384 asks. -/
def State.holds (s : State) : Bool := s.holdOut && s.tie.wait.isNone

/-- A chip that takes the pair's output to be its own affair while it joins or waits: it keeps marks and mirrored changes. -/
def State.follows (s : State) : Bool :=
  s.role == Role.forming || s.role == Role.standby || s.role == Role.standbyIso || (s.role == Role.swapping && !s.tie.swapActive)

/-- A role in which this chip is the active of the pair. -/
def State.leads (s : State) : Bool := s.role == Role.active || s.role == Role.activeIso || (s.role == Role.swapping && s.tie.swapActive)

/-- ACTIVE_ISOLATED. -/
def State.isolate (s : State) : State := (({ s with tie := { s.tie with standby := false } }).unaligned).setRole Role.activeIso

/-- An interlock conflict: event 0x3CA (R384). -/
def State.conflict (s : State) : State := s.raise { num := 0x3CA, arg := s.strap, alarm := true }

/-- TIE_HOLD_OUT asserted, and the wait of 100 ns begun; chip B gives way to an asserted TIE_HOLD_IN. -/
def State.acquireHold (s : State) : State :=
  let s := ({ s with tie := { s.tie with wait := some s.cyc } }).setFld F.TIE_STATUS_HOLD_OUT 1
  if !s.holdIn then s else if s.strap = 0 then s.conflict else s.conflict.tieRelease

/-! ## Packet-number guard (R400) -/

/-- GUARD. -/
def State.tieGuard (s : State) (wide : Bool) : Nat := if wide then 2 ^ 40 else 2 ^ (max 20 (min 40 (s.fld F.TIE_CFG_GUARD_LOG2)))

/-- The value a transmit association's NEXT_PN is raised to. -/
def State.raisedPn (s : State) (g sa : Nat) (x : Ctx) : Nat :=
  max (max x.next (tabGet 0 s.tie.armed sa)) (tabGet 0 s.tie.marks (2 * sa)) + g

/-- The raise armed for every transmit association that is not EMPTY, and the receive marks applied. -/
def State.armGuard (s : State) (wide : Bool) : State :=
  let g := s.tieGuard wide
  let armed := s.sec.ctxs.filterMap fun e =>
    if e.2.st = .empty ∨ (s.saChan e.1).dir then none else some (e.1, s.raisedPn g e.1 e.2)
  let ctxs := tabMapKeep (fun _ => ({} : Ctx)) (fun sa (x : Ctx) =>
    let m := tabGet 0 s.tie.marks (2 * sa + 1)
    if (s.saChan sa).dir ∧ x.high < m then { x with high := m, onesTo := m } else x) s.sec.ctxs
  ({ s with sec := { s.sec with ctxs := ctxs }, tie := { s.tie with armed := armed, marks := [] } }).markSync

/-! ## Failure and takeover (R398, R399, R414) -/

/-- T of the swap in progress lies ahead. -/
def State.beforeSwap (s : State) : Bool := match s.tie.swap with | some t => decide (0 < s.until_ t) | none => false

/-- A swap aborted before T: each side takes up again what it was, the active without a partner to count on. -/
def State.dropSwap (s : State) : State :=
  if s.role = Role.swapping ∧ s.beforeSwap then
    let s := (({ s with tie := { s.tie with swap := none } }).setFld F.TIE_CTL_SWAP 0).raise { num := 0x3CD, arg := 1 }
    if s.tie.swapActive then s.isolate else s.setRole Role.standby
  else s

/-- Failure of the active recognised for a cause: the first evaluation of the takeover decision. -/
def State.recognise (s : State) (cause : Nat) : State :=
  if s.tie.fail.isSome then s
  else
    let late := match s.tie.lost with | some t => decide (cycMs < s.elapsed t) | none => false
    let wide := s.flag F.TIE_STATUS_MARK_OVF || (s.role == Role.standbyIso && late)
    let s := s.dropSwap
    let t := { s.tie with fail := some { at_ := s.cyc, cause := cause, wide := wide }, decided := s.cyc, check := none }
    { s with tie := t }.decide_ 0 0 false 0

/-- The takeover goes ahead. -/
def State.takeOver (s : State) : State :=
  if s.tie.fail.isNone then s else ((s.unaligned).setRole Role.taking).acquireHold

/-- The cause of a takeover whose decision disagreed persists. -/
def State.causePersists (s : State) (cause : Nat) : Bool :=
  match cause with
  | 1 => s.passed s.tie.heard (2 * cycUs)
  | 3 => !s.holdIn
  | _ => true

/-- DOUBLED_DECISION_SECOND (R414): the oldest decision whose delay has passed is computed again.  A zeroization starts whatever
the comparison says; a takeover starts where both computations agree. -/
def execDoubledDecisionSecond (agree : Bool) (s : State) : Out :=
  match s.env.decs.find? fun d => s.passed d.start d.delay with
  | none => .next s
  | some d =>
    let s := { s with env := { s.env with decs := s.env.decs.erase d } }
    if d.scope = 0 then
      .next (if agree then s.takeOver else ({ s with tie := { s.tie with decided := s.cyc } }).ddMismatch 5)
    else .next ((if agree then s else s.ddMismatch 3).zeroize d)

/-- TAKEOVER_DECISION_RETRY (R414): 10 µs after a decision that disagreed, while the cause persists. -/
def execTakeoverDecisionRetry (s : State) : Out :=
  match s.tie.fail with
  | none => .next s
  | some f =>
    if s.role = Role.taking ∨ s.env.decs.any (fun d => d.scope == 0) ∨ !s.passed s.tie.decided (10 * cycUs) then .next s
    else if s.causePersists f.cause then .next (({ s with tie := { s.tie with decided := s.cyc } }).decide_ 0 0 false 0)
    else .next { s with tie := { s.tie with fail := none } }

/-- HOLD_WAIT_DONE (R384, R389, R399, R403): 100 ns with TIE_HOLD_IN deasserted. -/
def execHoldWaitDone (s : State) : Out :=
  match s.tie.wait with
  | none => .next s
  | some t =>
    if !s.holdOut || s.holdIn || !s.passed t 150 then .next s
    else
      let s := { s with tie := { s.tie with wait := none } }
      if s.role = Role.forming then .next (({ s with tie := { s.tie with heard := s.cyc } }).setRole Role.active).unsquelch
      else if s.role = Role.activeIso then .next s.unsquelch
      else if s.role = Role.taking then .next (s.armGuard (match s.tie.fail with | some f => f.wide | none => false)).unsquelch
      else if s.role = Role.swapping then .next (s.armGuard false).unsquelch
      else .next s

/-- TAKEOVER_COMPLETE (R399): the first frame starts at the MAC of a chip that has taken the hold. -/
def execTakeoverComplete (s : State) : Out :=
  match s.tie.fail with
  | none => .next s
  | some f =>
    if s.role ≠ Role.taking ∨ !s.holds ∨ s.holdIn then .next s
    else
      let s := s.bump C.TIE_TAKEOVERS
      let s := ((s.setFld F.TIE_LAST_TAKEOVER_VALID 1).setFld F.TIE_LAST_TAKEOVER_CAUSE f.cause).setFlag F.TIE_LAST_TAKEOVER_WIDE f.wide
      let s := s.setFld F.TIE_LAST_TAKEOVER_TIME_NS (min 8191 (s.elapsed f.at_ * 2 / 3))
      let t := { s.tie with fail := none, swap := none, lost := none }
      .next (({ s with tie := t }.setFld F.TIE_CTL_SWAP 0).raise { num := 0x3C7, arg := f.cause, alarm := true }).isolate

/-- TIE_HOLD_IN_CHANGE (R384, R389, R398, R403): the pin is seen asserted (low) or deasserted. -/
def execTieHoldInChange (asserted : Bool) (s : State) : Out :=
  if s.holdIn = asserted then .next s
  else
    let s := s.setFlag F.TIE_STATUS_HOLD_IN asserted
    if !s.tieOn then .next s
    else if asserted then
      if s.tie.wait.isSome then .next (if s.strap = 0 then s.conflict else s.conflict.tieRelease)
      else if s.holdOut then .next s.conflict.tieRelease
      else if s.role = Role.forming ∧ s.tie.refused then .next (s.setRole Role.standbyIso)
      else .next s
    else if s.tie.wait.isSome then .next { s with tie := { s.tie with wait := some s.cyc } }
    else if s.tie.faulted then .next s
    else if s.role = Role.standby ∨ s.role = Role.standbyIso then .next (s.recognise 3)
    else if s.role = Role.swapping then
      if s.tie.swapActive then .next (if s.holdOut then s else s.recognise 4)
      else if s.beforeSwap then .next (s.recognise 3) else .next s.acquireHold
    else if (s.role = Role.forming ∧ s.tie.checked ∧ s.strap = 0) ∨ s.role = Role.taking then
      .next (if s.holdOut then s else s.acquireHold)
    else .next s

/-- HOLD_TIMER_EXPIRY (R385): the transmit path has not refreshed the timer for 2 µs. -/
def execHoldTimerExpiry (s : State) : Out := .next (if s.tieOn && s.holdOut then s.tieRelease else s)

/-! ## Marks (R388, R396, R397) -/

/-- The receiver's own NEXT_PN or HIGH_PN. -/
def State.ownPn (s : State) (sa dir : Nat) : Nat := if dir = 0 then (s.ctx sa).next else (s.ctx sa).high

/-- A mark received: stored where it leads; one that does not removes the entry. -/
def State.takeMark (s : State) (m : Mark) : State :=
  let sa := m.sa.toNat
  let dir := if m.rx then 1 else 0
  let k := 2 * sa + dir
  let old := tabGet 0 s.tie.marks k
  if m.pn.toNat ≤ s.ownPn sa dir then ({ s with tie := { s.tie with marks := tabSet 0 s.tie.marks k 0 } }).markSync
  else if old = 0 ∧ 4096 ≤ s.tie.marks.length then
    let s := { s with tie := { s.tie with refresh := true } }
    (s.setFld F.TIE_STATUS_MARK_OVF 1).raise { num := 0x3C9, scope := sa, arg := s.tie.marks.length, alarm := true }
  else
    let s := ({ s with tie := { s.tie with marks := tabSet 0 s.tie.marks k m.pn.toNat } }).markSync
    if s.tie.marks.length = 3072 ∧ !s.tie.told then
      ({ s with tie := { s.tie with told := true } }).raise { num := 0x3C9, scope := sa, arg := 3072 }
    else s

def State.takeMarksOf (s : State) (l : List Mark) : State := if s.follows then l.foldl State.takeMark s else s

/-- The mark refresh (R388): every association that has drawn or verified a PN in the last 10 ms. -/
def State.startRefresh (s : State) : State :=
  if s.tie.refresh then s
  else
    let due := (s.tie.used.filter fun e => !s.passed e.2 (10 * cycMs)).map (·.1)
    { s with tie := { s.tie with refresh := true, outMarks := s.tie.outMarks ++ due.filter fun k => !s.tie.outMarks.contains k } }

/-! ## Messages (R387, R388) -/

/-- Messages of the partner are taken. -/
def State.hears (s : State) : Bool := s.tieOn && s.flag F.TIE_STATUS_LINK_UP && !s.tie.faulted

/-- SEQ of a message: a gap in the active's sets MARK_OVF on the standby. -/
def State.heardSeq (s : State) (seq : BitVec 32) : State :=
  let gap := match s.tie.rxSeq with | some r => s.follows && decide ((r + 1) % 2 ^ 32 ≠ seq.toNat) | none => false
  let s := { s with tie := { s.tie with rxSeq := some seq.toNat } }
  if gap then s.setFld F.TIE_STATUS_MARK_OVF 1 else s

/-- TIE_MESSAGE_ERROR (R388): a message discarded for its CRC, its length, or a code violation on a lane. -/
def execTieMessageError (lane : Option (Fin 4)) (s : State) : Out :=
  if !s.tieOn then .next s
  else
    let s := match lane with
      | some l => s.setFld (F.TIE_LANE_CODE_ERR l.val) (min 65535 (s.fld (F.TIE_LANE_CODE_ERR l.val) + 1))
      | none => s
    .next (s.dropDev 0x3CB (match lane with | some l => l.val + 1 | none => 0) none C.TIE_MSG_ERR)

/-- TIE_LINK_CHANGE (R386): the lanes' alignment, and the skew of each in 6 bits; the link is up with all four aligned. -/
def execTieLinkChange (sync aligned : BitVec 4) (skews : BitVec 24) (s : State) : Out :=
  let s := (List.range 4).foldl (fun s l =>
    ((s.setFlag (F.TIE_LANE_SYNC l) (sync.getLsbD l)).setFlag (F.TIE_LANE_ALIGNED l) (aligned.getLsbD l)).setFld (F.TIE_LANE_SKEW l)
      (min 32 (bitsOf (skews.zeroExtend 32) (6 * l) 6))) s
  let up := sync == 15 && aligned == 15
  if up = s.flag F.TIE_STATUS_LINK_UP then .next s
  else
    let s := (s.setFlag F.TIE_STATUS_LINK_UP up).raise { num := 0x3C4, arg := b2n up }
    .next (if up && s.tieOn && !s.tie.faulted && (s.role == Role.forming || s.leads) then s.sendHello else s)

/-- HEARTBEAT_SEND (R387, R396): every 500 ns; the active adds up to 8 marks, and says when a refresh is complete. -/
def execHeartbeatSend (s : State) : Out :=
  if !s.hears || s.role == Role.alone || !s.passed s.tie.beat 750 then .next s
  else
    let s := { s with tie := { s.tie with beat := s.cyc } }
    let (s, m) := if s.leads then s.takeMarks 8 else (s, [])
    let done := s.leads && s.tie.refresh && s.tie.outMarks.isEmpty
    let s := if done then { s with tie := { s.tie with refresh := false } } else s
    .next (s.tieSend { typ := 2, args := [s.role, b2n s.synced, b2n (s.flag F.TIE_STATUS_MARK_OVF), b2n done], data := m })

/-- Every sequence to be realigned at least 100 µs ahead, named to the standby (R393). -/
def State.realignAll (s : State) : State :=
  let t := s.ahead100
  ({ s with tie := { s.tie with all := some t } }).tieSend { typ := 9, args := [64, 0, t.toNat] }

/-- The partner has formed as standby: event 0x3C1 (R389, R390). -/
def State.pairFormed (s : State) : State :=
  let t := { s.tie with standby := true }
  (({ s with tie := t }).setRole Role.active |>.raise { num := 0x3C1 }).realignAll

/-- HEARTBEAT (R387, R389, R397). -/
def execTieHeartbeat (seq : BitVec 32) (role : Fin 8) (sync ovf done : Bool) (marks : List Mark) (s : State) : Out :=
  if !s.hears then .next s
  else
    let s := s.heardSeq seq
    let s := { s with tie := { s.tie with heard := s.cyc, pSync := sync } }
    let s := s.takeMarksOf marks
    let s := if s.follows && done then
        if s.tie.refresh then { s with tie := { s.tie with refresh := false } } else s.setFld F.TIE_STATUS_MARK_OVF 0
      else s
    let s := if s.leads && ovf then s.startRefresh else s
    let is := role.val == Role.standby || role.val == Role.swapping
    if (s.role = Role.active ∨ s.role = Role.activeIso) ∧ s.tie.checked ∧ is ∧ !s.tie.standby then .next s.pairFormed
    else if s.role = Role.active ∧ role.val = Role.forming then .next { s with tie := { s.tie with standby := false } }.unaligned
    else .next s

/-- HEARTBEAT_LOSS (R389, R398, R405): no HEARTBEAT for 2 µs. -/
def execHeartbeatLoss (s : State) : Out :=
  if !s.tieOn || s.tie.faulted || !s.passed s.tie.heard (2 * cycUs) then .next s
  else
    let lost (s : State) : State := ({ s with tie := { s.tie with lost := some s.cyc } }).raise { num := 0x3C3 }
    if s.role = Role.active then .next (lost s).isolate
    else if s.role = Role.standby then .next (if s.holdIn then (lost s).setRole Role.standbyIso else (lost s).recognise 1)
    else if s.role = Role.swapping ∧ s.beforeSwap then
      if s.tie.swapActive then .next (lost s).dropSwap
      else .next (if s.holdIn then ((lost s).dropSwap).setRole Role.standbyIso else (lost s).recognise 1)
    else if s.role = Role.swapping ∧ s.tie.swapActive ∧ !s.holdIn ∧ !s.holdOut then .next (s.recognise 4)
    else .next s

/-- FAULT (R389, R398, R405). -/
def execTieFault (seq : BitVec 32) (cause : Byte) (s : State) : Out :=
  if !s.hears then .next s
  else
    let s := (s.heardSeq seq).raise { num := 0x3CE, arg := cause.toNat }
    if s.role = Role.standby then .next (s.recognise 2)
    else if s.role = Role.active then .next s.isolate
    else if s.role = Role.swapping then
      if s.beforeSwap then .next (if s.tie.swapActive then s.dropSwap else s.recognise 2)
      else .next (if s.tie.swapActive && !s.holdOut then s.recognise 4 else s)
    else .next s

/-! ## Formation (R389, R390) -/

/-- The first check of formation that fails, by its reason. -/
def State.helloRefusal (s : State) (serial : BitVec 64) (strap : Bool) (fw cfg kcv : List Byte) : Nat :=
  let a := s.fld F.TIE_PAIR_A_LO_SERIAL + 2 ^ 32 * s.fld F.TIE_PAIR_A_HI_SERIAL
  let b := s.fld F.TIE_PAIR_B_LO_SERIAL + 2 ^ 32 * s.fld F.TIE_PAIR_B_HI_SERIAL
  let own := if s.strap = 0 then a else b
  let other := if s.strap = 0 then b else a
  if serial.toNat ≠ other ∨ Config.serial.toNat ≠ own then 1
  else if b2n strap = s.strap then 2
  else if fw ≠ wordBytes (s.words (F.GLB_FW_MEASURE 0).addr 12) then 3
  else if cfg ≠ wordBytes (s.words (F.GLB_CFG_MEASURE 0).addr 12) then 4
  else if kcv ≠ (tabGet {} s.hrt.slots (s.fld F.TIE_KEY_SLOT)).kcv then 5 else 0

/-- The associations, Plat entries and slots of the snapshot that the active sends; keys travel as blobs under TIE_KEY. -/
def State.sendSnapshot (s : State) : State :=
  let sas := s.sec.ctxs.filter fun e => e.2.st != .empty
  let x := sas.foldl (fun (x : State × List Byte) e =>
    let y := match e.2.key with | some m => x.1.tieSak m | none => (x.1, [])
    (y.1, x.2 ++ leBytes 4 e.1 ++ (wordBytes (s.ctxWords e.1)).take 64 ++ y.2)) (s, [])
  let plat := ((s.plat.ways ++ s.plat.stash).filter fun e => pltValid e.2 && !pltStatic e.2).flatMap fun e => leBytes 16 e.2.toNat
  let x := (s.hrt.slots.filter fun e => e.2.st == 1 && e.1 != s.fld F.TIE_KEY_SLOT).foldl (fun (x : State × List Byte) e =>
    let y := x.1.tieSlot e.2
    (y.1, x.2 ++ leBytes 2 e.1 ++ leBytes 1 e.2.parcel ++ y.2)) (x.1, x.2 ++ plat)
  x.1.tieSend { typ := 5, args := [sas.length], data := x.2 }

/-- HELLO (R389, R390): the checks of formation in their order. -/
def execTieHello (seq : BitVec 32) (serial : BitVec 64) (strap : Bool) (fw cfg kcv : List Byte) (s : State) : Out :=
  if !s.hears || !(s.role == Role.forming || s.leads) then .next s
  else
    let s := { s with tie := { s.tie with rxSeq := some seq.toNat, cfg := cfg } }
    let s := if s.leads then s.sendHello else s
    let r := s.helloRefusal serial strap fw cfg kcv
    if r ≠ 0 then
      let s := ({ s with tie := { s.tie with checked := false, refused := true } }).raise { num := 0x3C2, arg := r }
      .next (if s.role = Role.forming ∧ s.holdIn then s.setRole Role.standbyIso else s)
    else
      let s := { s with tie := { s.tie with checked := true, refused := false } }
      if s.leads then .next s.sendSnapshot
      else if !s.holdIn ∧ s.strap = 0 ∧ !s.holdOut then .next s.acquireHold
      else .next s

/-- FORMATION_TIMEOUT (R389): 1 s, or 2 s on chip B, after STAGE reached CONFIG_APPLIED. -/
def execFormationTimeout (s : State) : Out :=
  match s.tie.since with
  | none => .next s
  | some t =>
    if s.role ≠ Role.forming ∨ s.tie.faulted ∨ !s.passed t (if s.strap = 0 then cycS else 2 * cycS) then .next s
    else if s.holdIn then .next (s.setRole Role.standbyIso)
    else .next (if s.holdOut then s.isolate else s.isolate.acquireHold)

/-! ## Comparison (R393 to R395) -/

/-- BLOCK (R393). -/
def execTieBlock (seq : BitVec 32) (n : Fin 64) (c : Fin 8) (num : BitVec 32) (digest : BitVec 64) (marks : List Mark) (s : State) : Out :=
  if !s.hears then .next s
  else
    let s := (s.heardSeq seq).takeMarksOf marks
    let k := 8 * n.val + c.val
    let q := s.tieSeq k
    .next ((s.setTieSeq k { q with theirs := q.theirs ++ [(num.toNat, digest)] }).compareBlk k num.toNat)

/-- DIGEST_TIMEOUT (R393): the partner's digest of the oldest own block of a sequence has not come within 1 ms. -/
def execDigestTimeout (n : Fin 64) (c : Fin 8) (s : State) : Out :=
  let k := 8 * n.val + c.val
  let q := s.tieSeq k
  match q.own with
  | [] => .next s
  | b :: rest => if s.passed b.closed cycMs then .next ((s.setTieSeq k { q with own := rest }).mismatch k b 2) else .next s

/-- REALIGN (R393): the Datum time at which one sequence, or every one, is cut anew. -/
def execTieRealign (seq : BitVec 32) (which : Option (Fin 64 × Fin 8)) (t : BitVec 64) (s : State) : Out :=
  if !s.hears then .next s
  else
    let s := s.heardSeq seq
    match which with
    | some (n, c) => let k := 8 * n.val + c.val; .next (s.setTieSeq k { s.tieSeq k with realign := some t })
    | none => .next { s with tie := { s.tie with all := some t } }

/-- REALIGN_TIME (R390, R393): the time named has come. -/
def execRealignTime (s : State) : Out :=
  let due (t : BitVec 64) : Bool := decide (s.until_ t ≤ 0)
  match s.tie.all with
  | some t =>
    if due t then
      let s := { s with tie := { s.tie with all := none, base := t, seqs := [] } }
      .next ((s.setFld F.TIE_STATUS_COMPARE_OK 1).setFld F.TIE_CTL_REALIGN 0)
    else .next s
  | none =>
    .next (s.tie.seqs.foldl (fun s e => match e.2.realign with
      | some t => if due t then s.restartSeq e.1 t else s
      | none => s) s)

/-- TIE_CTL.REALIGN (R393): the active realigns every sequence. -/
def State.ctlRealign (s : State) : State := if s.role = Role.active then (s.setFld F.TIE_CTL_REALIGN 1).realignAll else s

def execTieCtlRealign (_w : World) (s : State) : Out := .next s.ctlRealign

/-- CAUSE bits of an own self-check: known-answer tests, what has been recorded since the mismatched block's first frame, and the
configuration measurement. -/
def State.checkCauses (s : State) (weak : BitVec 40) : Nat :=
  let since (k : Nat) : Nat := match tabGet none s.tie.faultAt k with
    | some t => b2n (decide (0 ≤ (t - s.tie.checkFrom).toInt))
    | none => 0
  let kat := b2n ((List.range 40).any fun a => weak.getLsbD a && s.anvSvc a)
  let cfg := b2n (wordBytes (s.words (F.GLB_CFG_MEASURE 0).addr 12) != s.tie.cfg)
  kat + 2 * since 1 + 4 * since 2 + 8 * since 3 + 16 * since 4 + 32 * since 5 + 64 * cfg

/-- Both results are known: TIE_SELFCHK, event 0x3C6, and the outcome of R395. -/
def State.concludeCheck (s : State) : State :=
  match s.tie.check, s.tie.own, s.tie.partner with
  | some _, some own, some partner =>
    let s := ((s.setFld F.TIE_SELFCHK_VALID 1).setFlag F.TIE_SELFCHK_OWN_PASS own).setFlag F.TIE_SELFCHK_PARTNER_PASS partner
    let s := s.raise { num := 0x3C6, arg := b2n own + 2 * b2n partner }
    let s := { s with tie := { s.tie with check := none, own := none, partner := none } }
    if !own && !partner then s.request 1 0x3C6 (s.fld F.TIE_SELFCHK_CAUSE)
    else if !own then s.tieFault 3
    else if !partner && s.role == Role.active then s.isolate else s
  | _, _, _ => s

/-- SELF_CHECK_DONE (R395): the own check ends; `weak` are the anvils whose known-answer test fails. -/
def execSelfCheckDone (weak : BitVec 40) (s : State) : Out :=
  if s.tie.check.isNone || s.tie.own.isSome then .next s
  else
    let c := s.checkCauses weak
    let s := s.setFld F.TIE_SELFCHK_CAUSE c
    let s := (List.range 40).foldl (fun s a => if weak.getLsbD a then s.anvilFault a 3 else s) s
    let s := ({ s with tie := { s.tie with own := some (c == 0) } }).tieSend { typ := 7, args := [1, b2n (c == 0)] }
    .next s.concludeCheck

/-- SELFCHECK (R395): a result, or a request for a check of what has been since `ago` cycles. -/
def execTieSelfcheck (seq : BitVec 32) (pass : Option Bool) (ago : BitVec 32) (s : State) : Out :=
  if !s.hears then .next s
  else
    let s := s.heardSeq seq
    match pass with
    | some p => .next (if s.tie.check.isSome then ({ s with tie := { s.tie with partner := some p } }).concludeCheck else s)
    | none => .next (if s.tie.check.isSome then s else s.startCheck (s.cyc - ago.zeroExtend 64))

/-! ## Planned swaps (R402, R403) -/

/-- A swap may be accepted. -/
def State.maySwap (s : State) : Bool :=
  s.role == Role.active && s.tie.standby && s.flag F.TIE_STATUS_COMPARE_OK && s.synced && s.tie.pSync

/-- SWAPPING entered for T. -/
def State.enterSwap (s : State) (t : BitVec 64) (lead : Bool) : State :=
  let s := { s with tie := { s.tie with swap := some t, swapActive := lead } }
  ((s.setFld F.TIE_SWAP_AT_LO_AT t.toNat).setFld F.TIE_SWAP_AT_HI_AT (t.toNat / 2 ^ 32)).setRole Role.swapping

/-- A swap started on the active: T is the first whole µs of Datum at least 100 µs ahead. -/
def State.startSwap (s : State) : State :=
  let t : Int := s.ahead100.toInt
  let at_ := BitVec.ofInt 64 ((t + 999) / 1000 * 1000)
  ((s.setFld F.TIE_CTL_SWAP 1).tieSend { typ := 8, args := [at_.toNat] }).enterSwap at_ true

/-- TIE_CTL.SWAP written. -/
def State.ctlSwap (s : State) : State :=
  if s.role = Role.swapping then s else if s.maySwap then s.startSwap else s.raise { num := 0x3CD }

def execTieCtlSwap (_w : World) (s : State) : Out := .next s.ctlSwap

/-- A word written to TIE_CTL. -/
def State.tieCtlWrite (s : State) (v : Word) : State :=
  let s := if bitsOf v 30 1 = 1 then s.ctlRealign else s
  if bitsOf v 31 1 = 1 then s.ctlSwap else s

/-- AUTO_SWAP (R402): SWAP_DAYS days of operating time since the last swap. -/
def execAutoSwap (s : State) : Out :=
  let d := s.fld F.TIE_CFG_SWAP_DAYS
  .next (if d ≠ 0 ∧ 1440 * d ≤ s.opMin - s.tie.swapMin ∧ s.maySwap then s.startSwap else s)

/-- SWAP (R403): the active names T. -/
def execTieSwap (seq : BitVec 32) (t : BitVec 64) (s : State) : Out :=
  if !s.hears then .next s
  else
    let s := s.heardSeq seq
    .next (if s.role = Role.standby then s.enterSwap t false else s)

/-- SWAP_INSTANT (R403): at T the active squelches and releases the interlock. -/
def execSwapInstant (s : State) : Out :=
  match s.tie.swap with
  | some t =>
    if s.role ≠ Role.swapping ∨ 0 < s.until_ t then .next s
    else if s.tie.swapActive then .next (if s.holdOut then s.tieRelease else s)
    else .next (if s.holdOut || s.holdIn then s else s.acquireHold)
  | none => .next s

/-- SWAP_COMPLETE (R403): from T + 1 µs the new active drives and the old one is the standby. -/
def execSwapComplete (s : State) : Out :=
  match s.tie.swap with
  | some t =>
    if s.role ≠ Role.swapping ∨ -1000 < s.until_ t ∨ (if s.tie.swapActive then s.holdOut || !s.holdIn else !s.holds) then .next s
    else
      let lead := s.tie.swapActive
      let t := { s.tie with swap := none, swapActive := false, standby := !lead, swapMin := s.opMin }
      let s := ((({ s with tie := t }).setFld F.TIE_CTL_SWAP 0).bump C.TIE_SWAPS).raise { num := 0x3C8 }
      .next (s.setRole (if lead then Role.standby else Role.active))
  | none => .next s

/-! ## Fail-over restart (R404) -/

/-- FAIL_OVER_RESTART: a chip that has reported its own fault restarts, at most once in 10 minutes. -/
def execFailOverRestart (b : BootIn) (s : State) : Out :=
  if !s.tie.faulted || s.holdOut || !s.flag F.TIE_CFG_RESTART_EN then .next s
  else
    let again := match s.tie.restarted with | some t => decide (s.elapsed t < 600 * cycS) | none => false
    if again then
      if s.role = Role.forming then .next s
      else .next ((({ s with tie := { s.tie with since := none } }).setRole Role.forming).raise { num := 0x3CE, arg := 4 })
    else .next (({ s with tie := { s.tie with restarted := some s.cyc } }).chipReset F.GLB_RST_CAUSE_FAILOVER b)

/-- PTP (R391): the active's REPORT, applied as the standby's own. -/
def execTiePtp (seq : BitVec 32) (e : BitVec 64) (s : State) : Out :=
  if !s.hears then .next s
  else
    let s := s.heardSeq seq
    .next (if s.follows && s.datSrc == 2 then s.measured e.toInt false else s)

end Sys2Proof.Machine
end

