-- ==== Sys2Proof/Machine/Access.lean ====
section
/-! DEFINITION. Machine/Access.lean: accesses to registers: of the whole map by a master of a world (R12 to R16, R295, R476), the
common rules of command registers (R505), and REG_READ and REG_WRITE (R334). -/

namespace Sys2Proof.Machine

/-- The functions answer: always for the GLB block, otherwise not from the start of a reset until STAGE reads RUNNING (R476), or
NO_CONFIG (R269). -/
def State.answers (s : State) (w : World) (a : Nat) : Bool := w != .nonSecure || s.hostUp || a / 0x100000 == 0

/-- Registers of BAR2 of function `f`: base and size are left as they are while their ring is enabled (R347). -/
def State.ringPut (s : State) (f a : Nat) (v : Word) : State :=
  let i := Fin.ofNat 64 f
  let cmd := s.flag (F.R2_RING_CTL_CMD_EN f)
  let msg := s.flag (F.R2_RING_CTL_MSG_EN f)
  match a % 4096 with
  | 0x00 => nextOf s (execRingEnable i v s)
  | 0x04 => nextOf s (execCmdErrClear i v s)
  | 0x08 | 0x0C | 0x10 => if cmd then s else s.writeReg .nonSecure a v
  | 0x14 => nextOf s (execCmdTailWrite i (v.extractLsb' 0 13) s)
  | 0x20 | 0x24 | 0x28 => if msg then s else s.writeReg .nonSecure a v
  | 0x2C => nextOf s (execMsgHeadWrite i (v.extractLsb' 0 13) s)
  | _ => s.writeReg .nonSecure a v

/-- Registers of GLB. -/
def State.putGlb (s : State) (w : World) (a : Nat) (v : Word) (b : BootIn) (good : Bool) : State :=
  if a = F.GLB_RST_CHIP.addr then
    if bitsOf v F.GLB_RST_CHIP.lo 1 = 1 then nextOf s (execChipReset w b s) else s
  else if a = F.GLB_RECOVERY_CTL_ERASE.addr then s.recCtlWrite v good
  else s.plainWrite w a v

/-- A word written at key `a` by a master of world `w`; `b` and `good` say how a reset or a recovery command that it starts comes
out. -/
def State.access (s : State) (w : World) (a : Nat) (v : Word) (b : BootIn) (good : Bool) : State :=
  if a % 4 ≠ 0 ∨ !s.answers w a then s
  else if 0x10100000 ≤ a then s.writeReg w a v
  else if 0x10000000 ≤ a then s.ringPut ((a - 0x10000000) / 4096) a v
  else if a / 0x100000 = 0 then s.putGlb w a v b good
  else if a = F.TIE_CTL_SWAP.addr then s.tieCtlWrite v
  else s.regPut w a v

/-- REGISTER_WRITE (R14 to R16, R476). -/
def execRegisterWrite (w : World) (a : BitVec 32) (v : Word) (b : BootIn) (good : Bool) (s : State) : Out :=
  .next (s.access w a.toNat v b good)

/-- UNALIGNED_ACCESS (R13): unsupported request; nothing but the count changes. -/
def execUnalignedAccess (_f : Fin 64) (_bar2 : Bool) (s : State) : Out := .next (s.bump C.GLB_BADACC_CNT)

/-- SECURE_ACCESS_REFUSED (R15): a read of a register with secure fields from outside the secure world, in which they read zero, or
a write, which they ignore. -/
def execSecureAccessRefused (w : World) (a : BitVec 32) (write : Option Word) (s : State) : Out :=
  let a := a.toNat
  if w.isSecure || !secureReg a || !s.answers w a || a / 0x100000 == 0x100 then .next s
  else match write with
    | some v => .next (s.plainWrite w a v)
    | none => .next (s.secureRefused a w)

/-! ## Command registers (R505) -/

/-- The OP field of each command register and the largest OP its chapter lists. -/
def cmdRegs : List (Fld × Nat) :=
  [(F.TRV_RULE_CMD_OP, 4), (F.PLT_CMD_OP, 7), (F.SEC_CMD_OP, 14), (F.BLW_QCMD_OP, 3), (F.GAT_GCL_CMD_OP, 5), (F.DAT_CMD_OP, 5),
   (F.HRT_CMD_OP, 0x12)]

def cmdRegOf (a : Nat) : Option (Fld × Nat) := cmdRegs.find? fun e => e.1.addr == a

/-- OP_ZERO_WRITE: the other writable fields, and nothing else. -/
def execOpZeroWrite (w : World) (a : BitVec 32) (v : Word) (s : State) : Out :=
  match cmdRegOf a.toNat with
  | some e => .next (if opOf e.1 v = 0 ∧ s.answers w a.toNat then s.regPut w a.toNat v else s)
  | none => .next s

/-- RESERVED_OP_WRITE: an OP that the chapter does not list, refused as the chapter says. -/
def execReservedOpWrite (w : World) (a : BitVec 32) (v : Word) (s : State) : Out :=
  match cmdRegOf a.toNat with
  | some e => .next (if e.2 < opOf e.1 v ∧ s.answers w a.toNat then s.regPut w a.toNat v else s)
  | none => .next s

/-! ## REG_READ and REG_WRITE (R334) -/

/-- The payload's offset and number of words lie in their ranges (R331). -/
def regPayOk (b : List Byte) : Bool :=
  decide (8 ≤ b.length) && decide (1 ≤ leAt b 4 4) && decide (leAt b 4 4 ≤ 256) && leAt b 0 4 % 4 == 0

/-- REG_READ: one event and record name the first secure offset; an offset outside the view is refused. -/
def execRegRead (d : Desc) (s : State) : Out :=
  let f := d.fn.val
  .next (ringCmd d
    { opcode := 0x0200, cls := .observe, payMax := 8, payOk := fun b => b.length == 8 && regPayOk b, rspSize := fun b => 4 * leAt b 4 4 }
    (fun s b =>
      let o := leAt b 0 4
      let n := leAt b 4 4
      if !viewOk f o n then { st := s, status := St.classDenied }
      else
        let s := match (if f = 0 then firstSecure n o else none) with
          | some a => s.secureRefused a .nonSecure
          | none => s
        let x := s.readView f n o
        { st := x.1, rsp := wordBytes x.2 }) s)

/-- Consecutive words written from offset `o` of the view of function `f`. -/
def State.writeView (f : Nat) : List Word → Nat → State → State
  | [], _, s => s
  | v :: t, o, s =>
    let s := if f = 0 then
        (if o / 0x100000 = 0 then s.plainWrite .nonSecure o v else if o = F.TIE_CTL_SWAP.addr then s.tieCtlWrite v else s.regPut .nonSecure o v)
      else nextOf s (execParcelWindowWrite (Fin.ofNat 64 f) (BitVec.ofNat 16 o) v s)
    State.writeView f t (o + 4) s

/-- REG_WRITE: refused whole where it reaches a secure field or leaves the view. -/
def execRegWrite (d : Desc) (s : State) : Out :=
  let f := d.fn.val
  .next (ringCmd d
    { opcode := 0x0201, cls := .operate, payMax := 8 + 4 * 256
      payOk := fun b => regPayOk b && b.length == 8 + 4 * leAt b 4 4 }
    (fun s b =>
      let o := leAt b 0 4
      let n := leAt b 4 4
      if !viewOk f o n ∨ (f = 0 ∧ (firstSecure n o).isSome) then { st := s, status := St.classDenied }
      else { st := State.writeView f (leWords n (b.drop 8)) o s }) s)

end Sys2Proof.Machine
end

