-- ==== Sys2Proof/Machine/Image.lean ====
section
/-! DEFINITION. Machine/Image.lean: the configuration image, its form (spec/11_signed_control.md, R270 to R272) and the checks of
its verification (R273), with those that the other chapters place there. -/

namespace Sys2Proof.Machine

/-! ## Form (R270 to R272) -/

/-- An entry of the section table. -/
structure ISec where
  typ : Nat
  off : Nat
  len : Nat
  recs : Nat
  deriving DecidableEq, Repr

/-- A record: its section, where it stands, and R271's fields. -/
structure IRec where
  typ : Nat
  off : Nat
  target : Nat
  mode : Nat
  op : Nat
  index : Nat
  data : List Byte
  deriving DecidableEq, Repr

/-- An image as parsed. -/
structure Img where
  bytes : List Byte
  secs : List ISec
  recs : List IRec

def Img.seq (i : Img) : Nat := leAt i.bytes 12 4
def Img.covered (i : Img) : List Byte := i.bytes.take (i.bytes.length - sigBlockLen)
def Img.meas (i : Img) : List Byte := Config.sha384 i.covered
def Img.disruptOk (i : Img) : Bool := leAt i.bytes 29 1 % 2 == 1

/-- The payload of the section of a type, if there is one. -/
def Img.sec (i : Img) (typ : Nat) : Option (List Byte) := (i.secs.find? (·.typ == typ)).map fun x => slice i.bytes x.off x.len

def IRec.words (r : IRec) : List Word := leWords (r.data.length / 4) r.data

/-- A section without records of R271. -/
def plainSec (typ : Nat) : Bool := typ == 1 || typ == 2 || typ == 0x36

def secKnown (typ : Nat) : Bool :=
  [1, 2, 4, 0x10, 0x20, 0x21, 0x22, 0x23, 0x24, 0x30, 0x31, 0x32, 0x33, 0x34, 0x35, 0x36, 0x40, 0x50, 0xF0].contains typ

/-- Section table entries `k` on, `n` of them, above a type. -/
def parseSecs (b : List Byte) (limit : Nat) : Nat → Nat → Nat → Option (List ISec)
  | 0, _, _ => some []
  | n + 1, k, low =>
    let o := 64 + 16 * k
    let s : ISec := { typ := leAt b o 2, off := leAt b (o + 4) 4, len := leAt b (o + 8) 4, recs := leAt b (o + 12) 4 }
    if s.typ ≤ low ∨ !secKnown s.typ ∨ leAt b (o + 2) 1 ≠ 1 ∨ leAt b (o + 3) 1 ≠ 0 ∨ s.off % 8 ≠ 0 ∨ limit < s.off + s.len then none
    else (parseSecs b limit n (k + 1) s.typ).map (s :: ·)

/-- No payload overlaps another or the table. -/
def secsApart (n : Nat) (l : List ISec) : Bool :=
  l.all (fun s => s.len == 0 || decide (64 + 16 * n ≤ s.off)) &&
  l.all fun s => l.all fun t => s.typ == t.typ || s.len == 0 || t.len == 0 || decide (s.off + s.len ≤ t.off) || decide (t.off + t.len ≤ s.off)

/-- The sections of fixed entries are well formed. -/
def secForm (b : List Byte) (s : ISec) : Bool :=
  match s.typ with
  | 1 => s.len == 64 * s.recs && decide (s.recs ≤ 32) &&
    (List.range s.recs).all fun i => decide (leAt b (s.off + 64 * i + 56) 1 ≤ 1) && leAt b (s.off + 64 * i + 57) 7 == 0
  | 2 => s.len == 4
  | 0x36 => s.len == 16 * s.recs && decide (s.recs ≤ 32) && (List.range s.recs).all fun i => leAt b (s.off + 16 * i + 12) 4 == 0
  | _ => true

/-- Step 1 of R273: header and section table. -/
def parseHead (l : List Byte) : Option (List Byte × List ISec) :=
  let n := leNat (flashGet l 8 4)
  let b := flashGet l 0 n
  let k := leAt b 30 2
  if n < 64 + sigBlockLen ∨ 8388608 < n ∨ slice b 0 4 ≠ [0x5A, 0x47, 0x43, 0x46] ∨ leAt b 4 2 ≠ 1 ∨ leAt b 12 4 = 0 ∨
      2 ≤ leAt b 29 1 ∨ k = 0 ∨ 64 < k ∨ leAt b 48 16 ≠ 0 ∨ n - sigBlockLen < 64 + 16 * k then none
  else match parseSecs b (n - sigBlockLen) k 0 0 with
    | none => none
    | some s => if secsApart k s && s.all (secForm b) then some (b, s) else none

/-- The records of a section from offset `o` to `e`; or the offset of the first that is not one. -/
def parseRecs (b : List Byte) (typ e : Nat) : Nat → Nat → List IRec ⊕ Nat
  | 0, o => if o = e then .inl [] else .inr o
  | n + 1, o =>
    let w := leAt b (o + 4) 2
    if e < o + 16 + 4 * w ∨ w = 0 ∨ 512 < w ∨ 2 < leAt b (o + 6) 1 ∨ leAt b (o + 12) 4 ≠ 0 then .inr o
    else match parseRecs b typ e n (o + 16 + 4 * w) with
      | .inl l => .inl ({ typ := typ, off := o, target := leAt b o 4, mode := leAt b (o + 6) 1, op := leAt b (o + 7) 1
                          index := leAt b (o + 8) 4, data := slice b (o + 16) (4 * w) } :: l)
      | .inr x => .inr x

/-- The records of every section, in the order of application. -/
def parseAll (b : List Byte) : List ISec → List IRec ⊕ Nat
  | [] => .inl []
  | s :: t =>
    match (if plainSec s.typ then .inl [] else parseRecs b s.typ (s.off + s.len) s.recs s.off), parseAll b t with
    | .inl x, .inl y => .inl (x ++ y)
    | .inr o, _ => .inr o
    | _, .inr o => .inr o

/-! ## Targets (R271, R272) -/

/-- GLB's parcel registers, and the parcel settings of three blocks. -/
def parcelTarget (a : Nat) : Bool :=
  (decide (0x1000 ≤ a) && decide (a < 0x1C04)) || (regIx (F.TRV_RANGE_BASE 0).addr 4 64 a).isSome ||
  (regIx (F.PLT_PARCEL_CFG_QUOTA 0).addr 4 64 a).isSome || (regIx (F.BLW_PARCEL_CFG_BUF_QUOTA 0).addr 4 64 a).isSome

/-- The registers a section's MODE 0 records may write. -/
def secTarget (typ a : Nat) : Bool :=
  let blk := a / 0x100000
  match typ with
  | 0x10 => parcelTarget a
  | 0x20 => blk == 1 || blk == 2
  | 0x21 => blk == 9
  | 0x22 => blk == 0xB || blk == 0xC
  | 0x23 => blk == 0xE
  | 0x24 => blk == 0xD
  | 0x30 | 0x31 => blk == 5
  | 0x32 => blk == 6
  | 0x33 => blk == 7
  | 0x34 => blk == 8
  | 0x35 => blk == 4
  | 0x40 => blk == 3
  | 0x50 => blk == 0xF
  | 0xF0 => decide (1 ≤ blk) && decide (blk ≤ 0xF) && blk != 0xA
  | _ => false

/-- The bits of a register that a MODE 0 word may set: its writable fields, in the REGISTER section its RW and RWS ones. -/
def writableBits (typ a : Nat) : Nat :=
  match regDesc a with
  | some d => d.fields.foldl (fun m f =>
      if f.acc = Acc.ro ∨ (typ = 0xF0 ∧ f.acc ≠ Acc.rw) then m else Nat.lor m ((2 ^ f.width - 1) * 2 ^ f.lo)) 0
  | none => 0

/-- Consecutive words within their writable bits. -/
def wordsFit (typ : Nat) : Nat → List Word → Bool
  | _, [] => true
  | a, w :: t =>
    secTarget typ a && (regDesc a).isSome && Nat.land w.toNat (2 ^ 32 - 1 - writableBits typ a) == 0 && wordsFit typ (a + 4) t

/-- The command window and the OPs of a section's MODE 1 records. -/
def secCommand (typ : Nat) : Option (Nat × Nat × List Nat) :=
  match typ with
  | 0x30 => some (secWin, 32, [2])
  | 0x31 => some (secWin, 32, [4, 6, 8, 9])
  | 0x33 => some (blwWin, 12, [2])
  | 0x34 => some (gatWin, 2, [3, 4])
  | 0x35 => some (pltWin, 4, [2])
  | 0x40 => some (trvWin, 20, [2])
  | _ => none

/-- Step 6 of R273 for one record. -/
def IRec.fits (r : IRec) : Bool :=
  match r.mode with
  | 0 => r.typ != 4 && r.target % 4 == 0 && wordsFit r.typ r.target r.words
  | 1 => match secCommand r.typ with
    | some (win, n, ops) => r.target == win && decide (r.data.length ≤ 4 * n) && ops.contains r.op
    | none => false
  | _ => (r.typ == 4 || r.typ == 0x31) && r.target / 0x100000 == 0xA && decide (r.index < 4096 ∨ (r.index = 0xFFFFFFFF ∧ r.typ = 0x31)) &&
      decide (r.data.length ≤ 2048)

/-! ## What an image describes -/

/-- The settings an image gives, over the settings `v`: registers as written, channels and rules as they would be entered. -/
def viewRec (v : State) (r : IRec) : State :=
  match r.mode, r.typ with
  | 0, _ => v.setWords r.target r.words
  | 1, 0x30 => v.setChan r.index (Chan.ofWords r.words)
  | 1, 0x40 => { v with rules := tabSet {} v.rules (r.index % 16384) { Rule.ofWords r.words with gen := 3 } }
  | _, _ => v

def viewOf (recs : List IRec) (v : State) : State := recs.foldl viewRec v

/-- The last record that writes the register at key `a`. -/
def recAt (recs : List IRec) (a : Nat) : Nat :=
  ((recs.filter fun r => r.mode == 0 && decide (r.target ≤ a) && decide (a < r.target + r.data.length)).getLast?.map (·.off)).getD 0

/-- The record that enters rule or channel `k`. -/
def recOf (recs : List IRec) (typ k : Nat) : Nat :=
  ((recs.filter fun r => r.mode == 1 && r.typ == typ && r.index == k).getLast?.map (·.off)).getD 0

/-! ## Rules (R48, R49, R52, R54, R57) -/

def Rule.bits (r : BitVec 256) (lo w : Nat) : Nat := (r.extractLsb' lo w).toNat

/-- The rule can match line-side, clear-side arrivals. -/
def Rule.lineSide (r : Rule) : Bool := !r.mask.getLsbD 255 || r.key.getLsbD 255
def Rule.clearSide (r : Rule) : Bool := !r.mask.getLsbD 255 || !r.key.getLsbD 255

/-- PORT key and mask allow port `n`. -/
def Rule.allows (r : Rule) (n : Nat) : Bool :=
  Nat.land n (Rule.bits r.mask 249 6) == Nat.land (Rule.bits r.key 249 6) (Rule.bits r.mask 249 6)

/-- The classes of TRV_PCP_MAP at a port. -/
def State.pcpClasses (v : State) (n : Nat) : List Nat :=
  (List.range 8).map fun p => v.fld (F.TRV_PCP_MAP_CLASS_PCP n) / 2 ^ (3 * p) % 8

/-- The classes a rule can yield. -/
def State.yields (v : State) (r : Rule) : List Nat :=
  let x := RuleRes.ofBits r.result
  if x.clsSrc then 0 :: ((List.range 32).filter r.allows).flatMap v.pcpClasses else [x.cls]

def State.yieldsAny (v : State) (r : Rule) : Bool := (v.yields r).any v.expressAny
def State.yieldsLine (v : State) (r : Rule) : Bool := (v.yields r).any v.expressLine

/-- A line-side rule names one receive channel, or frames without one. -/
def Rule.rxNamed (r : Rule) : Option Nat :=
  if r.mask.getLsbD 83 && Rule.bits r.mask 67 16 == 65535 && r.key.getLsbD 83 then some (Rule.bits r.key 67 16) else none
def Rule.rxNone (r : Rule) : Bool := r.mask.getLsbD 83 && !r.key.getLsbD 83

/-- A transmit channel of the image stands on a line port other than the one paired with a clear port. -/
def State.misled (v : State) (sc c : Nat) : Bool :=
  (v.chan sc).valid && (match v.pairOf c with | some line => (v.chan sc).linePort != line | none => false)

/-- Whether rule `r` fails a check of R48, R49, R52, R54 or R57; two rules of one bypass slot apart. -/
def State.ruleBad (v : State) (r : Rule) : Bool :=
  let x := RuleRes.ofBits r.result
  let fast := x.cmd || v.yieldsAny r
  (x.action == 2 && (r.lineSide || x.cmd || v.yieldsLine r)) ||
  x.scSel == 3 ||
  (r.clearSide && x.action == 0 && x.scSel == 0 && !v.flag (F.TRV_PARCEL_CFG_DEF_SC_VALID r.owner)) ||
  (r.clearSide && x.scSel == 1 && (List.range 32).any fun c => r.allows c && v.misled x.sc c) ||
  (x.action == 0 && fast && ((r.clearSide && !(x.scSel == 1 && (v.chan x.sc).pinned)) ||
    (r.lineSide && !r.rxNone && !(match r.rxNamed with | some k => (v.chan k).pinned | none => false)))) ||
  (x.scSel == 2 && (!v.flag (F.TRV_PARCEL_CFG_FLOOD_SC_VALID r.owner) || x.cmd || v.yieldsLine r))

/-- Clear ports that can assign frames to a parcel (R43). -/
def State.feeds (v : State) (p c : Nat) : Bool :=
  v.fld (F.TRV_PORT_CFG_PARCEL c) == p ||
  (v.flag (F.TRV_PORT_CFG_PARCEL_MODE c) && (List.range 4096).any fun d => v.flag (F.TRV_VMAP_VALID d) && v.fld (F.TRV_VMAP_PARCEL d) == p)

/-- The default of parcel `p` fails R49 or R52. -/
def State.defaultBad (v : State) (p : Nat) : Bool :=
  if !v.flag (F.TRV_PARCEL_CFG_DEF_SC_VALID p) then false
  else
    let sc := v.fld (F.TRV_PARCEL_SC_DEFAULT_SC p)
    let from_ := (List.range 32).filter (v.feeds p)
    let clear := (0 :: from_.flatMap v.pcpClasses).any v.expressAny
    let line := (0 :: ((List.range 32).map (· + 32)).flatMap v.pcpClasses).any v.expressAny
    from_.any (v.misled sc) || (v.flag (F.TRV_PARCEL_CFG_DEFAULT_ACTION p) && ((clear && !(v.chan sc).pinned) || line))

/-- Two bypass rules name one slot. -/
def slotTwice (l : List (Nat × Rule)) (i : Nat) (r : Rule) : Bool :=
  let x := RuleRes.ofBits r.result
  x.action == 2 && l.any fun e => decide (e.1 < i) && (RuleRes.ofBits e.2.result).action == 2 && (RuleRes.ofBits e.2.result).slot == x.slot

/-! ## Ports and lanes (R448, R450, R452, R460, R184) -/

/-- The lane rate code of a mode, none where the table has no such mode. -/
def modeRate (speed width fec : Nat) : Option Nat :=
  match speed, width, fec with
  | 0, 0, 0 | 0, 0, 1 => some 0
  | 1, 0, 0 | 1, 0, 1 | 1, 0, 2 => some 1
  | 2, 0, 3 => some 2
  | 3, 2, 0 | 3, 2, 2 => some 1
  | 3, 1, 3 => some 2
  | 3, 0, 3 => some 3
  | 4, 2, 3 => some 2
  | 4, 1, 3 => some 3
  | 5, 3, 3 => some 2
  | 5, 2, 3 => some 3
  | 6, 3, 3 => some 3
  | _, _, _ => none

/-- A map of an octet repeats an entry. -/
def mapRepeats (m : Nat) : Bool := (List.range 8).any fun j => (List.range j).any fun k => m / 2 ^ (3 * j) % 8 == m / 2 ^ (3 * k) % 8

def someNotAll (l : List Nat) (p : Nat → Bool) : Bool := l.any p && !l.all p

/-- An active port fails R448 or R460. -/
def State.portBad (v : State) (n : Nat) : Bool :=
  if !v.portActive n then false
  else
    let lanes := v.txLanes n ++ v.rxLanes n
    match modeRate (v.fld (F.PRT_PORT_W0_SPEED n)) (v.fld (F.PRT_PORT_W0_WIDTH n)) (v.fld (F.PRT_PORT_W0_FEC n)) with
    | none => true
    | some k =>
      n % v.portWidth n != 0 ||
      (List.range 64).any (fun m => m != n && v.portActive m && decide (n ≤ m) && decide (m < n + v.portWidth n)) ||
      lanes.any (fun i => v.fld (F.SRD_LANE_W0_RATE i) != k) ||
      someNotAll (v.txLanes n) (fun i => v.flag (F.SRD_LANE_W1_TX_SLEEP i)) ||
      someNotAll (v.rxLanes n) (fun i => v.flag (F.SRD_LANE_W1_RX_SLEEP i))

def State.pairBad (v : State) (c : Nat) : Bool :=
  match v.pairOf c with
  | some line => !v.portActive c || decide (line < 32) || !v.portActive line
  | none => false

/-- At least 100 Gb/s with RS(544,514). -/
def State.fastPort (v : State) (n : Nat) : Bool := decide (3 ≤ v.fld (F.PRT_PORT_W0_SPEED n)) && v.fld (F.PRT_PORT_W0_FEC n) == 3

/-- Ingress ports that an egress port can receive from. -/
def State.feeders (v : State) (n : Nat) : List Nat :=
  if 32 ≤ n then (List.range 32).filter fun c => v.pairOf c == some n
  else (match v.pairOf n with | some l => [l] | none => []) ++
    (v.sec.chans.filter fun e => e.2.valid && e.2.dir && e.2.boundClr == n).map fun e => e.2.linePort

def State.classBad (v : State) (n c : Nat) : Bool :=
  v.expressAt n c &&
  (v.flag (F.GAT_CLASS_CFG_W0_PREEMPTABLE (8 * n + c)) || decide (v.fld (F.GAT_CLASS_CFG_W1_DEADLINE (8 * n + c)) < 450) ||
    !v.fastPort n || (v.feeders n).any fun m => !v.fastPort m)

/-! ## Parcels (R45, R303, R309) and memory (R350, R351) -/

/-- A range runs past the table, overlaps another, or is parcel 0's and does not begin at 0. -/
def State.rangeBad (v : State) (p : Nat) : Bool :=
  let b (q : Nat) : Nat := v.fld (F.TRV_RANGE_BASE q)
  let n (q : Nat) : Nat := v.fld (F.TRV_RANGE_COUNT q)
  (p == 0 && b 0 != 0) || decide (16384 < b p + n p) ||
  (n p != 0 && (List.range 64).any fun q => q != p && n q != 0 && decide (b p < b q + n q) && decide (b q < b p + n p))

/-- What the image would make of the tenant of parcel `p` is refused; `t` is the tenant it has now. -/
def State.tenantBad (v : State) (recs : List IRec) (p t : Nat) : Bool :=
  let a := (F.GLB_PARCEL_W1_TENANT p).addr
  let new := if recAt recs a = 0 then t else v.fld (F.GLB_PARCEL_W1_TENANT p)
  p != 0 &&
  ((t != 0 && new != t) ||
   (new == 0 && (v.fld (F.TRV_RANGE_COUNT p) != 0 || (List.range 64).any (fun n => v.fld (F.TRV_PORT_CFG_PARCEL n) == p) ||
     (List.range 4096).any fun d => v.flag (F.TRV_VMAP_VALID d) && v.fld (F.TRV_VMAP_PARCEL d) == p)))

/-- F of R350 in bytes, for D in MiB. -/
def protBytes (d : Nat) : Nat :=
  let b := d * 1048576
  (b + b / 64 + (b / 4096 + 131072)) * 9 / 8

/-- The layout fails R350 or R351 on a device with `fitted` MiB. -/
def State.memoryBad (v : State) (fitted : Nat) : Bool :=
  let d := v.layoutRegs.1
  let regs := v.layoutRegs.2
  let used := if d = 0 then 0 else protBytes d
  let size (r : Nat) (x : Region) : Bool := match r with
    | 0 => x.size == 64
    | 1 => decide (1 ≤ x.size) && decide (x.size ≤ 4096)
    | 2 => decide (1 ≤ x.size) && decide (x.size ≤ 1024)
    | 3 => x.size % 64 == 0 && decide (x.size ≤ 1024)
    | _ => true
  decide (fitted * 1048576 < used) || (d != 0 && (tabGet none regs 0).isNone) ||
  regs.any fun e => match e.2 with
    | none => false
    | some x =>
      !size e.1 x ||
      (if x.prot then decide (d < x.base + x.size)
       else decide (x.base * 1048576 < used) || decide (fitted < x.base + x.size)) ||
      regs.any fun o => match o.2 with
        | some y => o.1 != e.1 && x.size != 0 && y.size != 0 && decide (x.base < y.base + y.size) && decide (y.base < x.base + x.size)
        | none => false

/-! ## Contexts (R52, R94) -/

/-- A context that the image installs, or one installed now, is express or command class on an unpinned channel. -/
def State.ctxBad (v : State) (w : Word) (sc : Nat) : Bool := !(v.chan sc).pinned && v.needsPin w

def State.liveBad (s v : State) : Bool :=
  s.sec.ctxs.any fun e => e.2.st != .empty && e.2.classValid && !(s.saChan e.1).pinned && v.expressAny e.2.cls

/-! ## Verification (R273) -/

/-- The first of some numbers at which a check fails, with the offset of its record. -/
def firstBad (l : List Nat) (bad : Nat → Bool) (off : Nat → Nat) : Option Nat := (l.find? bad).map off

/-- Step 7: the offset of the failing record; `v` is what the image describes. -/
def State.ruleStep (s v : State) (recs : List IRec) : Option Nat :=
  let chans := v.sec.chans.map (·.1)
  let at_ (f : Nat → Fld) (n : Nat) : Nat := recAt recs (f n).addr
  (firstBad (List.range 64) v.rangeBad (at_ F.TRV_RANGE_BASE)).orElse fun _ =>
  (firstBad (List.range 64) (fun p => v.tenantBad recs p (s.fld (F.GLB_PARCEL_W1_TENANT p))) (at_ F.GLB_PARCEL_W1_TENANT)).orElse fun _ =>
  (firstBad (List.range 8) (fun g => mapRepeats (v.fld (F.SRD_SWAP_W0_TX_MAP g)) || mapRepeats (v.fld (F.SRD_SWAP_W1_RX_MAP g)))
    (at_ F.SRD_SWAP_W0_TX_MAP)).orElse fun _ =>
  (firstBad (List.range 64) v.portBad (at_ F.PRT_PORT_W0_ACTIVE)).orElse fun _ =>
  (firstBad (List.range 32) v.pairBad (at_ F.PRT_MAP_VALID)).orElse fun _ =>
  (firstBad [0] (fun _ => s.flag F.TMP_STATUS_PRESENT && v.memoryBad (s.fld F.TMP_LAYOUT_FITTED_MIB))
    (fun _ => recAt recs F.TMP_LAYOUT_PROT_UNITS.addr)).orElse fun _ =>
  (firstBad chans (fun k => let c := v.chan k; c.valid && c.dir && v.pairOf c.boundClr != some c.linePort) (recOf recs 0x30)).orElse fun _ =>
  (firstBad (List.range 512) (fun k => v.classBad (k / 8) (k % 8)) (at_ F.GAT_CLASS_CFG_W0_EXPRESS)).orElse fun _ =>
  ((recs.find? fun r => r.mode == 1 && r.typ == 0x31 && r.op == 4 && v.ctxBad (r.words.getD 0 0) (r.index / 4)).map (·.off)).orElse fun _ =>
  (if s.liveBad v then some 0 else none).orElse fun _ =>
  (firstBad (v.rules.map (·.1)) (fun i => v.ruleBad (v.rule i) || slotTwice v.rules i (v.rule i)) (recOf recs 0x40)).orElse fun _ =>
  firstBad (List.range 64) v.defaultBad (at_ F.TRV_PARCEL_CFG_DEF_SC_VALID)

/-- Step 8 (R80, R93, R110, R116): whether tables and pins take what the image enters. -/
def State.roomStep (s v : State) (recs : List IRec) : Option Nat :=
  let inserts := recs.filter fun r => r.mode == 1 && r.typ == 0x35 && (BitVec.ofNat 128 (leNat r.data)).getLsbD 126
  let sas := recs.filter fun r => r.mode == 1 && r.typ == 0x31 && r.op == 4
  let held (p : Nat) : Nat := (inserts.filter fun r => pltParcel (BitVec.ofNat 128 (leNat r.data)) == p).length
  let ddr := s.flag F.TMP_STATUS_PRESENT && v.layoutRegs.1 != 0
  (firstBad (List.range 64) (fun p => decide (v.fld (F.PLT_PARCEL_CFG_QUOTA p) < held p)) (fun p =>
    recAt recs (F.PLT_PARCEL_CFG_QUOTA p).addr)).orElse fun _ =>
  if 4096 < tabCount (fun _ c => c.valid && c.pinned) v.sec.chans then some 0
  else if 256 < (sas.filter fun r => (v.chan (r.index / 4)).static_).length then some 0
  else if !ddr ∧ 32768 < (sas.filter fun r => !(v.chan (r.index / 4)).pinned).length then some 0 else none

/-- What verification answers: the image; a code with the offset of the failing record; or a doubled verdict that disagrees. -/
inductive ImgVerdict where
  | ok (i : Img)
  | refuse (code off : Nat)
  | doubled

/-- An image read from a configuration slot and verified; `boot` says that it is the one in force (R273, R275). -/
def State.verifyImg (s : State) (l : List Byte) (boot agree : Bool) : ImgVerdict :=
  match parseHead l with
  | none => .refuse St.imageFormat 0
  | some (b, secs) =>
    let i : Img := { bytes := b, secs := secs, recs := [] }
    let floor := tabGet 0 s.hrt.seqs 64
    let same := i.meas == wordBytes (s.words (F.GLB_CFG_MEASURE 0).addr 12)
    if leAt b 6 1 ≠ s.otp.lcs ∨ (leAt b 16 8 ≠ 0 ∧ leAt b 16 8 ≠ Config.serial.toNat) ∨ leAt b 24 4 ≠ s.otp.epoch then .refuse St.wrongDevice 0
    else if (if boot then decide (i.seq < floor) else decide (i.seq ≤ floor) && !same) then .refuse St.imageRollback 0
    else match s.otp.verify s.otp.ownerAuthority (label "ZGD cfg") i.covered (b.drop (b.length - sigBlockLen)) with
      | .revoked => .refuse St.keyRevoked 0
      | .bad => .refuse St.sigBad 0
      | .ok =>
        if !agree then .doubled
        else if s.fld F.GLB_BOOT_FW_SVN < leAt b 28 1 then .refuse St.svnLow 0
        else match parseAll b secs with
          | .inr o => .refuse St.imageFormat o
          | .inl recs =>
            match recs.find? fun r => !r.fits with
            | some r => .refuse St.imageFormat r.off
            | none =>
              let v := viewOf recs {}
              match s.ruleStep v recs with
              | some o => .refuse St.imageRule o
              | none => match s.roomStep v recs with
                | some o => .refuse St.noRoom o
                | none => .ok { i with recs := recs }

/-- An image known to have verified, parsed again. -/
def imgOf (l : List Byte) : Option Img :=
  match parseHead l with
  | none => none
  | some (b, secs) => match parseAll b secs with
    | .inl recs => some { bytes := b, secs := secs, recs := recs }
    | .inr _ => none

/-- Whether a commit of the image would change a lane rate, a port mode or FEC, the port map, or the parcel of a port (R278). -/
def State.disruptive (s : State) (i : Img) : Bool :=
  let v := viewOf (i.recs.filter (·.mode == 0)) s
  let diff (f : Nat → Fld) (n : Nat) : Bool := (List.range n).any fun k => v.fld (f k) != s.fld (f k)
  diff F.SRD_LANE_W0_RATE 64 || diff F.PRT_PORT_W0_SPEED 64 || diff F.PRT_PORT_W0_WIDTH 64 || diff F.PRT_PORT_W0_FEC 64 ||
  (List.range 32).any (fun c => v.pairOf c != s.pairOf c) || diff F.TRV_PORT_CFG_PARCEL 64

end Sys2Proof.Machine
end

