-- ==== Sys2Proof/Machine/Commit.lean ====
section
/-! DEFINITION. Machine/Commit.lean: the firmware's boot (spec/11_signed_control.md, R269; R477), the application of image records
(R271, R272), and commits: staging, verification, prestage, switch and poststage (R275 to R279, R226). -/

namespace Sys2Proof.Machine

/-! ## One record applied (R271) -/

/-- A block's own code as a refusal of the image. -/
def blockCode (c : Nat) (room : List Nat) : Nat := if c = 0 then St.ok else if room.contains c then St.noRoom else St.imageRule

/-- A MODE 1 record: the window filled, the command run; `gen` is the GEN that a rule takes. -/
def State.commandRec (s : State) (r : IRec) (hand gen : Nat) : State × Nat :=
  match r.typ with
  | 0x30 | 0x31 =>
    let s := (s.setWords secWin r.words).setFld F.SEC_HANDOFF hand
    let x := s.secOp r.op r.index hand
    (State.secDone x r.op r.index, blockCode x.2 [Sc.noRoom])
  | 0x33 =>
    let x := (s.setWords blwWin r.words).queueOp 2 r.index true
    (State.queueDone x 2 r.index, blockCode x.2 [])
  | 0x34 =>
    let n := r.index / 65536 % 64
    let x := (s.setWords gatWin r.words).gclOp r.op n (r.index % 65536)
    (State.gclDone x r.op n (r.index % 65536), blockCode x.2 [])
  | 0x35 =>
    let x := (s.setWords pltWin r.words).pltInsert none
    (State.pltDone x 2 0 none, blockCode x.2 [Pc.full, Pc.quota])
  | 0x40 =>
    let i := r.index % 16384
    let x := (s.setWords trvWin r.words).ruleOp 2 i
    if x.2 = 0 then (x.1.setRule i { x.1.rule i with gen := gen }, St.ok) else (x.1, St.imageRule)
  | _ => (s, St.imageRule)

/-- A MODE 2 record: state, code, and the handoff of an unwrapped SAK.  The image in force at a boot is accepted again, and its
blobs for slots that the store has brought back are left alone. -/
def State.blobRec (s : State) (r : IRec) (boot : Bool) : State × Nat × Nat :=
  if !s.hrtServes then (s, St.imageRule, 0)
  else
    let s := s.hrtPut (r.data ++ zeros (2048 - r.data.length))
    let b : Blob := ⟨s.hrtBytes⟩
    if r.index = 0xFFFFFFFF then
      let q : HReq := { slot := 0, arg := 0, tag := none, again := boot }
      let x := s.sakUnwrap q
      (State.hrtDone x 9 0 q, blockCode x.2.1 [Hc.noRoom], x.2.2)
    else if boot ∧ (s.slot r.index).st ≠ 0 ∧ b.seq ≤ s.importSeq b then (s, St.ok, 0)
    else
      let q : HReq := { slot := r.index, arg := 1, tag := none, again := boot }
      let x := s.slotImport q
      (State.hrtDone x 2 0 q, blockCode x.2.1 [Hc.noRoom], 0)

/-- The bypass slot whose cap stands at key `a`. -/
def capSlot (a : Nat) : Option Nat := (regIx (F.TRV_BYP_CAP_W0_RATE_MBPS 0).addr 4 512 a).map (· / 2)

/-- The words of a MODE 0 record with their keys. -/
def IRec.cells (r : IRec) : List (Nat × Word) := (List.range r.words.length).zip r.words |>.map fun e => (r.target + 4 * e.1, e.2)

/-- The bypass slots that words would open. -/
def capsOpened (l : List (Nat × Word)) : List Nat := (l.filterMap fun e => if e.2 = 0 then none else capSlot e.1).eraseDups

/-- One word of an image written: a bypass slot whose doubled enabling disagrees keeps a cap of 0; a TENANT given to an UNASSIGNED
parcel assigns it (R304). -/
def State.putImage (s : State) (capsBad : BitVec 256) (e : Nat × Word) : State :=
  match capSlot e.1, regIx (F.GLB_PARCEL_W1_TENANT 0).addr 16 64 e.1 with
  | some k, _ => s.regPut .secure e.1 (if capsBad.getLsbD k then 0 else e.2)
  | none, some p =>
    if p ≠ 0 ∧ e.2 ≠ 0 ∧ s.parState p = Ps.unassigned then (s.assign p e.2.toNat).1 else s.plainWrite .secure e.1 e.2
  | none, none => s.regPut .secure e.1 e.2

/-- The words of MODE 0 records written in their order, and the disagreements over bypass slots they open (R414). -/
def State.putCells (s : State) (capsBad : BitVec 256) (l : List (Nat × Word)) : State :=
  ((capsOpened l).filter capsBad.getLsbD).foldl (fun s _ => s.ddMismatch 2) (l.foldl (fun s e => s.putImage capsBad e) s)

/-- The acknowledgement of store losses that an image carries (R251, R272). -/
def State.takeAck (s : State) (i : Img) : State :=
  match i.sec 2 with
  | some b => { s with hrt := { s.hrt with ack := leAt b 0 4 } }
  | none => s

/-- The generation that is not active, as a rule's GEN. -/
def State.idleGen (s : State) : Nat := if s.fld F.TRV_GEN_ACTIVE = 0 then 2 else 1
def State.activeGen (s : State) : Nat := if s.fld F.TRV_GEN_ACTIVE = 0 then 1 else 2

/-- An application under way: the state, the last SAK handoff, what was done, and the code it stopped with. -/
structure App where
  st : State
  hand : Nat := 0
  undo : List Undo := []
  code : Nat := 0

/-- One record at boot. -/
def App.bootRec (capsBad : BitVec 256) (x : App) (r : IRec) : App :=
  if x.code ≠ 0 then x
  else match r.mode with
    | 0 => { x with st := x.st.putCells capsBad r.cells }
    | 1 => let y := x.st.commandRec r x.hand x.st.idleGen
           { x with st := y.1, code := y.2 }
    | _ => let y := x.st.blobRec r true
           { x with st := y.1, code := y.2.1, hand := y.2.2 }

/-! ## Boot (R269, R477) -/

/-- DDR5 as trained, the anvils as their self-test leaves them, the station table's seeds, references found absent. -/
def State.bootDevices (s : State) (x : FwIn) : State :=
  let fitted := if x.ddr.val = 0 then 0 else 1024 * 2 ^ x.ddr.val
  let s := if x.ddr.val ≠ 0 ∧ x.trained then
      (((s.setFld F.TMP_LAYOUT_FITTED_MIB fitted).setFld F.TMP_STATUS_PRESENT 1).setFld F.TMP_STATUS_INIT_DONE 1).setFld F.TMP_STATUS_KEYS_VALID 1
    else s.raise { num := 0x38B }
  let s := (List.range 40).foldl (fun s a => (s.setFlag (F.ANV_CTL_IN_SVC a) (!x.weak.getLsbD a)).setFlag (F.ANV_CTL_AWAKE a) (!x.weak.getLsbD a)) s
  let s := { s with
    anvIdle := (List.range 40).foldl (fun t a => tabSet 0 t a s.cyc) s.anvIdle
    anvKat := (List.range 40).foldl (fun t a => tabSet 0 t a s.cyc) s.anvKat }
  let s := s.svcSync.minSvc
  let s := ({ s with plat := { s.plat with seed0 := BitVec.ofNat 32 s.randomVal } }).drew
  let s := ({ s with plat := { s.plat with seed1 := BitVec.ofNat 32 s.randomVal } }).drew
  (List.range 4).foldl (fun s r =>
    if s.prt.refGone.getLsbD r && !s.prt.refTold.getLsbD r then
      ({ s with prt := { s.prt with refTold := s.prt.refTold ||| (1#4 <<< r) } }).raise { num := 0x04A, arg := r }
    else s) s

/-- No configuration is applied: event 0x003 with the code and the offset; every port stays closed. -/
def State.noConfig (s : State) (code off : Nat) : State :=
  ((s.setFld F.GLB_COMMIT_LAST_CODE code).setFld F.GLB_BOOT_STAGE 9).raise { num := 0x003, arg := code, data := leBytes 4 off ++ zeros 12 }

/-- The image that is in force now. -/
def State.inForce (s : State) (i : Img) (slot : Nat) : State :=
  ((s.setWords (F.GLB_CFG_MEASURE 0).addr (leWords 12 i.meas)).setFld F.GLB_IMAGE_SEQ i.seq).setFld F.GLB_BOOT_CFG_SLOT slot

/-- The floor of IMAGE_SEQ raised, durably (R274). -/
def State.raiseFloor (s : State) (n : Nat) : State :=
  let s := { s with hrt := { s.hrt with seqs := tabSet 0 s.hrt.seqs 64 (max n (tabGet 0 s.hrt.seqs 64)) } }
  s.commitLater 0 0 s.ownerPay

/-- The slots that image `i` fills. -/
def Img.slots (i : Img) : List Nat := (i.recs.filter fun r => r.mode == 2 && r.index != 0xFFFFFFFF).map (·.index)

/-- A commit that a reset cut short after the boot record was rewritten is completed (R298): what the image before it left goes. -/
def State.finishAtBoot (s : State) (i : Img) (slot : Nat) : State :=
  match imgOf (s.cfgFlash (1 - slot)) with
  | some old =>
    if old.seq = tabGet 0 s.hrt.seqs 64 ∧ old.seq < i.seq then
      let s := (old.slots.filter fun n => !i.slots.contains n).foldl (fun s n => (s.slotDelete { slot := n, arg := 0, tag := none }).1) s
      (s.raiseFloor i.seq).raise { num := 0x005, arg := i.seq }
    else s
  | none => s

/-- Regions of DDR5 take up their uses. -/
def State.regionsUse (s : State) : State :=
  let has (r : Nat) : Bool := (tabGet none s.tmp.regions r).isSome && s.flag F.TMP_STATUS_PRESENT
  ((s.layoutTake.layoutSync).setFlag F.SEC_STATUS_DDR_CTX (has 0)).setFlag F.FBK_STATUS_ARCHIVE (has 2)

/-- The verified image applied at boot. -/
def State.applyBoot (s : State) (i : Img) (slot : Nat) (capsBad : BitVec 256) : State :=
  let x := (i.recs.filter fun r => decide (r.typ < 0x30)).foldl (App.bootRec capsBad) { st := s.takeAck i }
  let x := (i.recs.filter fun r => decide (0x30 ≤ r.typ)).foldl (App.bootRec capsBad) { x with st := x.st.regionsUse }
  if x.code ≠ 0 then s.noConfig x.code 0
  else
    let s := x.st.genSwap.layoutSync
    let s := (s.inForce i slot).setFld F.GLB_BOOT_STAGE 3
    let s := if s.tieOn then { s with tie := { s.tie with since := some s.cyc } } else s
    let s := s.finishAtBoot i slot
    let s := { s with fbk := { s.fbk with winAt := s.cyc } }
    (s.setFld F.GLB_BOOT_STAGE 4).raise
      { num := 0x001, scope := s.fld F.GLB_BOOT_FW_SLOT, arg := slot, data := leBytes 4 i.seq ++ zeros 12 }

/-- FIRMWARE_BOOT (R269, R477): from FW_VERIFIED to RUNNING, or to NO_CONFIG. -/
def execFirmwareBoot (x : FwIn) (s : State) : Out :=
  if s.env.held || s.fld F.GLB_BOOT_STAGE != 1 then .next s
  else
    let s := if s.flag F.GLB_BOOT_FALLBACK then s.raise { num := 0x002, scope := s.fld F.GLB_BOOT_FW_SLOT } else s
    let s := s.bootDevices x
    let s := if x.certsOk then s else s.raise { num := 0x00F, arg := 1 }
    let s := s.mount
    let s := if s.ctl.lcsNew then
        ({ s with ctl := { s.ctl with lcsNew := false } }).raise { num := 0x00D, arg := s.otp.lcs } else s
    if !s.flag F.HRT_STATUS_HUK_OK then .next (s.setFld F.GLB_BOOT_STAGE 9)
    else
      let slot := s.bootRec.cfg
      match s.verifyImg (s.cfgFlash slot) true x.agree with
      | .ok i => .next (s.applyBoot i slot x.capsBad)
      | .refuse c o => .next (s.noConfig c o)
      | .doubled => .next ((s.ddMismatch 0).noConfig St.sigBad 0)

/-! ## The state of a commit (R275) -/

/-- The configuration slot that is staged: the one the boot record does not name. -/
def State.stageSlot (s : State) : Nat := 1 - s.bootRec.cfg

/-- The slot of the image that a commit brings in, and of the one it replaces. -/
def State.newSlot (s : State) (r : Run) : Nat := if r.recorded then s.bootRec.cfg else 1 - s.bootRec.cfg

def State.newImg (s : State) (r : Run) : Option Img := imgOf (s.cfgFlash (s.newSlot r))

/-- The image that a commit replaces, where one is in force. -/
def State.oldImg (s : State) (r : Run) : Option Img :=
  if r.replaces then imgOf (s.cfgFlash (1 - s.newSlot r)) else none

def State.setRun (s : State) (r : Option Run) : State := { s with ctl := { s.ctl with run := r } }

def commitIdle : Nat := 0
def commitStaged : Nat := 1
def commitVerified : Nat := 2
def commitScheduled : Nat := 3
def commitPrestage : Nat := 4
def commitPoststage : Nat := 5

def State.commitState (s : State) (n : Nat) : State := s.setFld F.GLB_COMMIT_STATE n

/-- An image is in force. -/
def State.someImage (s : State) : Bool := s.flag F.GLB_IMAGE_SEQ

/-- A commit is scheduled or running. -/
def State.committing (s : State) : Bool := s.ctl.run.isSome

/-- A refusal of a commit command, shown in LAST_CODE. -/
def State.commitRefuse (s : State) (c : Nat) (off : Nat := 0) : Res := { st := s.setFld F.GLB_COMMIT_LAST_CODE c, status := c, result := off }

/-- PRESTAGE_MS within its bounds, in ms. -/
def State.prestageMs (s : State) : Nat := clampN 10 1000 (s.fld F.GLB_COMMIT_PRESTAGE_MS)

/-- A command of the commit family. -/
def commitCmd (d : Desc) (op max_ : Nat) (ok : List Byte → Bool) (run : State → List Byte → Res) (s : State) : State :=
  ringCmd d { opcode := 0x300 + op, cls := .operate, payMax := max_, payOk := ok }
    (fun s b =>
      let r := run s b
      if r.status = St.ok then { r with st := r.st.tieMirror (0x300 + op) 0 0 b } else r) s

/-- IMAGE_STAGE: an offset of 8 bytes and up to 64 KiB. -/
def stageRun (s : State) (b : List Byte) : Res :=
  if s.committing then s.commitRefuse St.busyCommit
  else
    let n := s.stageSlot
    let s := s.setCfgFlash n (flashPut (s.cfgFlash n) (leAt b 0 8) (b.drop 8))
    { st := ({ s with ctl := { s.ctl with verified := none } }).commitState commitStaged }

def execImageStage (d : Desc) (s : State) : Out :=
  .next (commitCmd d 0 65544 (fun b => decide (8 < b.length) && decide (leAt b 0 8 + (b.length - 8) ≤ 8388608)) stageRun s)

/-- What IMAGE_VERIFY returns: measurement, IMAGE_SEQ, and whether the commit would be disruptive. -/
def Verified.bytes (v : Verified) : List Byte := v.meas ++ leBytes 4 v.seq ++ leBytes 4 (b2n v.disrupt)

/-- IMAGE_VERIFY (R273, R275). -/
def verifyRun (agree : Bool) (s : State) (_ : List Byte) : Res :=
  if s.committing then s.commitRefuse St.busyCommit
  else
    let bad (s : State) (c o : Nat) : Res := (({ s with ctl := { s.ctl with verified := none } }).commitState commitStaged).commitRefuse c o
    match s.verifyImg (s.cfgFlash s.stageSlot) false agree with
    | .refuse c o => bad s c o
    | .doubled => bad (s.ddMismatch 0) St.sigBad 0
    | .ok i =>
      let v : Verified := { meas := i.meas, seq := i.seq, disrupt := s.someImage && s.disruptive i }
      { st := (({ s with ctl := { s.ctl with verified := some v } }).commitState commitVerified).raise { num := 0x004, arg := i.seq }
        rsp := v.bytes }

def execImageVerify (d : Desc) (s : State) : Out :=
  .next (commitCmd d 1 0 (fun _ => true) (verifyRun d.agree) s)

/-- The checks that COMMIT and COMMIT_AT share: trial, another commit, the named measurement, disruption. -/
def State.commitBad (s : State) (b : List Byte) : Option Nat :=
  if s.committing ∨ s.ctl.trial.isSome then some St.busyCommit
  else match s.ctl.verified with
    | none => some St.imageFormat
    | some v =>
      if v.meas ≠ b.take 48 then some St.imageFormat
      else match imgOf (s.cfgFlash s.stageSlot) with
        | none => some St.imageFormat
        | some i => if v.disrupt && !i.disruptOk then some St.disruptive else none

/-- The drain time in ms that a command names after its other fields: 500 where it names none (R276). -/
def drainMs (b : List Byte) (o : Nat) : Nat := if b.length = o then 500 else leAt b o 4

/-- COMMIT: the measurement, and a drain time in ms; it is in progress until POSTSTAGE ends. -/
def commitRun (s : State) (b : List Byte) : Res :=
  match s.commitBad b with
  | some c => s.commitRefuse c
  | none => { st := (s.setRun (some { meas := b.take 48, at_ := none, drain := drainMs b 48, replaces := s.someImage })).commitState commitPrestage, wait := true }

def execCommit (d : Desc) (s : State) : Out :=
  .next (commitCmd d 2 52 (fun b => decide (b.length = 48 ∨ b.length = 52) && decide (drainMs b 48 ≤ 60000)) commitRun s)

/-- COMMIT_AT (R279): the measurement, T, and a drain time in ms. -/
def commitAtRun (s : State) (b : List Byte) : Res :=
  let t := BitVec.ofNat 64 (leAt b 48 8)
  match s.commitBad b with
  | some c => s.commitRefuse c
  | none =>
    if !s.synced ∧ !s.flag F.DAT_CFG_COMMIT_UNSYNC then s.commitRefuse St.unsync
    else if s.until_ t < ((s.prestageMs + 10) * 1000000 : Nat) then s.commitRefuse St.tooLate
    else
      let s := (s.setRun (some { meas := b.take 48, at_ := some t, drain := drainMs b 56, replaces := s.someImage })).commitState commitScheduled
      { st := (s.setFld F.GLB_COMMIT_AT_LO t.toNat).setFld F.GLB_COMMIT_AT_HI (t.toNat / 2 ^ 32) }

def execCommitAt (d : Desc) (s : State) : Out :=
  .next (commitCmd d 3 60 (fun b => decide (b.length = 56 ∨ b.length = 60) && decide (drainMs b 56 ≤ 60000)) commitAtRun s)

/-- The schedule goes. -/
def State.unschedule (s : State) : State := ((s.setRun none).setFld F.GLB_COMMIT_AT_LO 0).setFld F.GLB_COMMIT_AT_HI 0

/-- COMMIT_CANCEL: a scheduled commit whose prestage has not begun. -/
def commitCancelRun (s : State) (_ : List Byte) : Res :=
  match s.ctl.run with
  | none => { st := s }
  | some r =>
    if r.at_.isSome ∧ s.fld F.GLB_COMMIT_STATE = commitScheduled then { st := s.unschedule.commitState commitVerified }
    else s.commitRefuse St.busyCommit

def execCommitCancel (d : Desc) (s : State) : Out :=
  .next (commitCmd d 4 0 (fun _ => true) commitCancelRun s)

/-! ## PRESTAGE (R276) -/

/-- The words a commit applies at SWITCH: the MODE 0 words that the image in force does not give alike, but for the pending gate
lists' parameters, which PRESTAGE writes. -/
def gatPend (a : Nat) : Bool := decide (0x800400 ≤ a) && decide (a < 0x800800)

def Img.cells (i : Img) : List (Nat × Word) := (i.recs.filter (·.mode == 0)).flatMap IRec.cells

/-- Words of `new` that differ from what `old` gives. -/
def Img.changed (new : Img) (old : Option Img) : List (Nat × Word) :=
  match old with
  | none => new.cells
  | some o => let c := o.cells; new.cells.filter fun e => !c.contains e

/-- What a record says, wherever it stands. -/
def IRec.same (a b : IRec) : Bool := a.typ == b.typ && a.target == b.target && a.mode == b.mode && a.op == b.op && a.index == b.index && a.data == b.data

def Img.has (i : Option Img) (r : IRec) : Bool := match i with | some i => i.recs.any r.same | none => false

/-- A command that puts an association in use, which stays out of reach until SWITCH. -/
def IRec.inUse (r : IRec) : Bool := r.mode == 1 && r.typ == 0x31 && r.op != 4

/-- The bits of `v` under a mask placed over `w`. -/
def maskPut (m : Nat) (w v : Word) : Word := BitVec.ofNat 32 (Nat.lor (Nat.land w.toNat (2 ^ 32 - 1 - m)) (Nat.land v.toNat m))

/-- Writable settings placed where the checks of commands find them, without what writing them does. -/
def State.overlay (s : State) (l : List (Nat × Word)) : State :=
  l.foldl (fun s e => s.setWord e.1 (maskPut (writableBits 0xF0 e.1) (s.word e.1) e.2)) s

/-- What stood where a record of the prestage changes something. -/
def State.undoOf (s : State) (r : IRec) : Option Undo :=
  match r.mode, r.typ with
  | 1, 0x30 => some (.chan r.index (s.chan r.index))
  | 1, 0x31 => some (.sa r.index)
  | 1, 0x33 => some (.queue r.index (s.queue r.index))
  | 1, 0x35 => some (.plat (BitVec.ofNat 128 (leNat r.data)))
  | 1, 0x40 => some (.rule (r.index % 16384) (s.rule (r.index % 16384)))
  | 2, _ => if r.index = 0xFFFFFFFF then none else some (.slot r.index (s.slot r.index))
  | _, _ => none

/-- A valid rule of the table says what another does, in whatever generation. -/
def Rule.reads (a b : Rule) : Bool := a.gen != 0 && a.key == b.key && a.mask == b.mask && a.result == b.result && a.owner == b.owner && a.scope == b.scope

/-- One record at PRESTAGE: only what the image in force does not name alike. -/
def App.preRec (old : Option Img) (x : App) (r : IRec) : App :=
  if x.code ≠ 0 ∨ r.inUse then x
  else if r.mode = 1 ∧ r.typ = 0x40 ∧ Img.has old r ∧ (x.st.rule (r.index % 16384)).reads (Rule.ofWords r.words) then
    let i := r.index % 16384
    { x with st := x.st.setRule i { x.st.rule i with gen := 3 }, undo := .rule i (x.st.rule i) :: x.undo }
  else if Img.has old r ∧ r.typ ≠ 0x40 then x
  else match r.mode with
    | 0 => { x with st := (r.cells.filter fun e => gatPend e.1).foldl (fun s e => s.regPut .secure e.1 e.2) x.st }
    | 1 =>
      let y := x.st.commandRec r x.hand x.st.idleGen
      if y.2 = 0 then { x with st := y.1, undo := (x.st.undoOf r).toList ++ x.undo } else { x with st := y.1, code := y.2 }
    | _ =>
      let y := x.st.blobRec r false
      if y.2.1 = 0 then { x with st := y.1, hand := y.2.2, undo := (x.st.undoOf r).toList ++ x.undo } else { x with st := y.1, code := y.2.1 }

/-- The gate lists as they stand at the ports whose lists an image changes. -/
def State.gateUndo (s : State) (new : Img) (old : Option Img) : List Undo :=
  let ports := (new.recs.filter fun r => r.typ == 0x34 && !Img.has old r).flatMap fun r =>
    if r.mode = 1 then [r.index / 65536 % 64] else (r.cells.filter fun e => gatPend e.1).map fun e => (e.1 - 0x800400) / 16 % 64
  ports.eraseDups.map fun n =>
    .gate n (s.gate n).pend (s.words (0x800400 + 16 * n) 4) (s.flag (F.GAT_PORT_STATUS_ARMED n))

/-- Rules of the image in force that the new one does not keep are confined to the active generation. -/
def State.confineRules (s : State) (new : Img) (old : Option Img) : State × List Undo :=
  match old with
  | none => (s, [])
  | some o =>
    let gone := (o.recs.filter fun r => r.mode == 1 && r.typ == 0x40 && !new.recs.any fun q => q.mode == 1 && q.typ == 0x40 && q.index == r.index).map
      fun r => r.index % 16384
    (gone.foldl (fun s i => if (s.rule i).gen = 3 then s.setRule i { s.rule i with gen := s.activeGen } else s) s,
     gone.map fun i => .rule i (s.rule i))

/-- A channel entry put back, with the counts that follow it. -/
def State.chanBack (s : State) (sc : Nat) (c : Chan) : State :=
  let now := s.chan sc
  let n := s.fld F.SEC_PIN_PINNED_SCS - b2n (now.valid && now.pinned) + b2n (c.valid && c.pinned)
  (((s.setChan sc c).setFld F.SEC_PIN_PINNED_SCS n).scUse now.parcel).scUse c.parcel

/-- One prestaged item removed. -/
def State.undone (s : State) : Undo → State
  | .rule i old => s.setRule i old
  | .chan sc old => s.chanBack sc old
  | .sa sa => s.saClear sa
  | .slot n old =>
    let now := s.slot n
    let s := s.setSlot n old
    let s := if old.persist then s.commitLater 1 n (.key old) else if now.persist then s.commitLater 1 n .tombstone else s
    (s.slotUse now.parcel).slotUse old.parcel
  | .plat e => match s.pltLookup (pltKey e) with
    | (s, some l) => s.pltRemove l
    | (s, none) => s
  | .queue q old =>
    let x := s.queue q
    s.setQueue q { x with shape := old.shape, slope := old.slope, quantum := old.quantum, limit := old.limit, hi := old.hi, lo := old.lo }
  | .gate n pend words armed =>
    if s.flag (F.GAT_PORT_STATUS_ARMED n) && !armed && (s.gate n).swapAt.isSome then s
    else
      let s := if armed then s else s.setFld (F.GAT_PORT_STATUS_ARMED n) 0
      (s.setGate n { s.gate n with pend := pend }).setWords (0x800400 + 16 * n) words
  | .ack old => { s with hrt := { s.hrt with ack := old } }

/-- A commit ended without effect: what was prestaged removed, and the command that asked for it answered. -/
def State.abortCommit (s : State) (r : Run) (undo : List Undo) (code : Nat) : State :=
  let s := undo.foldl State.undone s
  let s := (({ s.unschedule with ctl := { s.unschedule.ctl with verified := none } }).commitState commitStaged).setFld F.GLB_COMMIT_LAST_CODE code
  match r.at_, s.waits.find? (fun w => w.opcode == 0x302) with
  | none, some w => s.finishWait w (fun s => { st := s, status := code }) 0
  | _, _ => s

/-- An abort with event 0x006. -/
def State.commitFails (s : State) (r : Run) (undo : List Undo) (code : Nat) : State :=
  (s.abortCommit r undo code).raise { num := 0x006, arg := code }

/-- The registers that a command of a block is in progress at. -/
def State.blocksBusy (s : State) : Bool := s.flag F.HRT_CMD_BUSY || s.flag F.SEC_CMD_BUSY || s.flag F.PLT_CMD_BUSY

/-- PRESTAGE as a whole, for the run `r`. -/
def State.prestage (s : State) (r : Run) : State :=
  match s.newImg r with
  | none => s.commitFails r [] St.imageFormat
  | some new =>
    let old := s.oldImg r
    let cells := new.cells.filter fun e => !gatPend e.1
    let before := cells.map fun e => (e.1, s.word e.1)
    let base : List Undo := .ack s.hrt.ack :: s.gateUndo new old
    let conf := ((s.takeAck new).overlay cells).confineRules new old
    let x := new.recs.foldl (App.preRec old) { st := conf.1, undo := conf.2 ++ base }
    let s := x.st.overlay before
    if x.code ≠ 0 then s.commitFails r x.undo x.code
    else (s.setRun (some { r with undo := x.undo, prestaged := true })).commitState commitPrestage

/-- PRESTAGE (R276, R279): at once, or PRESTAGE_MS before T. -/
def execPrestage (s : State) : Out :=
  match s.ctl.run with
  | none => .next s
  | some r =>
    let due := match r.at_ with
      | none => true
      | some t => decide (s.until_ t - ((s.prestageMs * 1000000 : Nat) : Int) ≤ 0)
    if r.prestaged || r.switched.isSome || !due || s.blocksBusy then .next s
    else if s.held then .next (s.commitFails r [] St.late)
    else .next (s.unmirrored (s.prestage r))

/-! ## SWITCH (R276, R278) -/

/-- Ports whose mode, FEC, lane rates, mapping or parcel differ between two states. -/
def portsHit (a b : State) : List Nat :=
  (List.range 64).filter fun n =>
    a.fld (F.PRT_PORT_W0_SPEED n) != b.fld (F.PRT_PORT_W0_SPEED n) || a.fld (F.PRT_PORT_W0_WIDTH n) != b.fld (F.PRT_PORT_W0_WIDTH n) ||
    a.fld (F.PRT_PORT_W0_FEC n) != b.fld (F.PRT_PORT_W0_FEC n) || a.fld (F.TRV_PORT_CFG_PARCEL n) != b.fld (F.TRV_PORT_CFG_PARCEL n) ||
    (b.rxLanes n ++ b.txLanes n).any (fun i => a.fld (F.SRD_LANE_W0_RATE i) != b.fld (F.SRD_LANE_W0_RATE i)) ||
    (if n < 32 then decide (a.pairOf n ≠ b.pairOf n)
     else (List.range 32).any fun c => decide (a.pairOf c ≠ b.pairOf c) && (a.pairOf c == some n || b.pairOf c == some n))

/-- Key hash, parcels and class of the managers an image lists (R272). -/
def Img.managers (i : Img) : List (List Byte × Nat × Nat) :=
  match i.secs.find? (·.typ == 1) with
  | some x => (List.range x.recs).map fun k => let o := x.off + 64 * k; (slice i.bytes o 48, leAt i.bytes (o + 48) 8, leAt i.bytes (o + 56) 1)
  | none => []

/-- Sessions whose manager an image no longer lists, closed. -/
def State.dropManagers (s : State) (i : Img) : State :=
  (List.range 64).foldl (fun s f => match (s.fn f).session with
    | some q => match q.manager with
      | some h => if i.managers.any (fun m => m.1 == h) then s else s.closeSession f 8
      | none => s
    | none => s) s

/-- SWITCH: the generation, the measurement, the register words that differ, associations put in use. -/
def State.switch (s : State) (r : Run) (new : Img) (capsBad : BitVec 256) : State :=
  let old := s.oldImg r
  let before := s
  let slot := s.newSlot r
  let s := (s.genSwap).inForce new slot
  let s := s.putCells capsBad ((new.changed old).filter fun e => !gatPend e.1)
  let s := (new.recs.filter fun q => q.inUse && !Img.has old q).foldl (fun s q => (s.commandRec q 0 0).1) s
  let s := (portsHit before s).foldl (fun s n => if s.portActive n then (s.toDown n 5).acquire n else s) s
  let s := s.dropManagers new
  let s := (s.commitLater 0 0 s.ownerPay).layoutSync
  let s := { s with ctl := { s.ctl with verified := none } }
  (s.setRun (some { r with undo := [], switched := some s.cyc })).commitState commitPoststage

/-- The commit is not performed at T for want of SYNC (R226). -/
def State.commitUnsync (s : State) (r : Run) : State := (s.abortCommit r r.undo St.unsync).raise { num := 0x305 }

/-- T has come. -/
def State.commitDue (s : State) (r : Run) : Bool := match r.at_ with | some t => decide (s.until_ t ≤ 0) | none => false

def State.unsyncNow (s : State) : Bool := !s.synced && !s.flag F.DAT_CFG_COMMIT_UNSYNC

/-- COMMIT_SWITCH (R276, R279). -/
def execCommitSwitch (capsBad : BitVec 256) (s : State) : Out :=
  match s.ctl.run with
  | none => .next s
  | some r =>
    if r.switched.isSome then .next s
    else if r.at_.isSome ∧ !s.commitDue r then .next s
    else if r.at_.isSome ∧ s.unsyncNow then .next (s.commitUnsync r)
    else if s.held ∨ (r.at_.isSome ∧ !r.prestaged) then .next (s.commitFails r r.undo St.late)
    else if !r.prestaged then .next s
    else match s.newImg r with
      | none => .next s
      | some new => .next (s.unmirrored (s.switch r new capsBad)).tieExcuse

/-- SCHEDULED_COMMIT_UNSYNC (R226). -/
def execScheduledCommitUnsync (s : State) : Out :=
  match s.ctl.run with
  | none => .next s
  | some r => .next (if r.switched.isNone && s.commitDue r && s.unsyncNow then s.commitUnsync r else s)

/-! ## POSTSTAGE (R276) -/

/-- Indices of the records of a kind that an image holds. -/
def Img.indices (i : Img) (typ op : Nat) : List Nat := ((i.recs.filter fun r => r.mode == 1 && r.typ == typ && r.op == op).map (·.index)).eraseDups

/-- Indices that `old` names and `new` does not. -/
def goneFrom (old new : Img) (typ op : Nat) : List Nat := (old.indices typ op).filter fun k => !(new.indices typ op).contains k

/-- Static entries by key. -/
def Img.statics (i : Img) : List PKey :=
  ((i.recs.filter fun r => r.mode == 1 && r.typ == 0x35).map fun r => pltKey (BitVec.ofNat 128 (leNat r.data)))

/-- An item that cannot be removed: left in place and recorded in the operational log. -/
def State.leftOver (s : State) (typ k : Nat) : State := s.opStore { num := 0x005, scope := typ, arg := k }

/-- An association the new image no longer names: retired, then deleted once it is out of use. -/
def State.retireOld (s : State) (drain sa : Nat) : State :=
  match (s.ctx sa).st with
  | .active => if (s.saChan sa).dir then (s.saRetire sa (min 60000000 (1000 * drain))).1 else s
  | _ => s

/-- The associations, channels, entries and slots that the new image no longer names, deleted. -/
def State.clearOld (s : State) (old new : Img) : State :=
  let s := (goneFrom old new 0x31 4).foldl (fun s sa =>
    if (s.ctx sa).st = .empty then s
    else if !s.retireRoom sa then s.leftOver 0x31 sa
    else if (s.ctx sa).st = .active ∧ !(s.saChan sa).dir ∧ (goneFrom old new 0x30 2).contains (sa / 4) then s.saClear sa
    else match s.saDelete sa with
      | (t, c) => if c = Sc.ok then t else s.leftOver 0x31 sa) s
  let s := (goneFrom old new 0x30 2).foldl (fun s sc =>
    if !(s.chan sc).valid then s
    else match s.scPut sc {} with
      | (t, c) => if c = Sc.ok then t else s.leftOver 0x30 sc) s
  let keep := new.statics
  let s := (old.statics.filter fun k => !keep.contains k).foldl (fun s k => match s.pltLookup k with
    | (s, some l) => s.pltRemove l
    | (s, none) => s) s
  (old.slots.filter fun n => !new.slots.contains n).foldl (fun s n =>
    if (s.slot n).st = 0 then s
    else match s.slotDelete { slot := n, arg := 0, tag := none } with
      | (t, c, _) => if c = Hc.ok ∨ c = Hc.busy then t else s.leftOver 4 n) s

/-- The commit is complete: floor raised, event 0x005, COMMIT answered. -/
def State.commitDone (s : State) (r : Run) (new : Img) : State :=
  let s := ((s.raiseFloor new.seq).unschedule.commitState commitIdle).raise { num := 0x005, arg := new.seq }
  match r.at_, s.waits.find? (fun w => w.opcode == 0x302) with
  | none, some w => s.finishWait w (fun s => { st := s }) 0
  | _, _ => s

/-- The first part of POSTSTAGE: the boot record, rules invalidated, drains begun. -/
def State.postBegin (s : State) (r : Run) (new : Img) (old : Option Img) : State :=
  let s := s.writeBootRec s.bootRec.fw (s.newSlot r)
  let r := { r with recorded := true }
  match old with
  | none => s.setRun (some r)
  | some o =>
    let s := (goneFrom o new 0x40 2).foldl (fun s i => s.setRule (i % 16384) {}) s
    let gone := goneFrom o new 0x31 4
    let s := gone.foldl (fun s sa => s.retireOld r.drain sa) s
    s.setRun (some { r with draining := gone })

/-- POSTSTAGE (R276): from 1 ms after SWITCH its first part; once the associations it retires have drained, the rest. -/
def execPoststage (s : State) : Out :=
  match s.ctl.run with
  | none => .next s
  | some r => match r.switched, s.newImg r with
    | some t, some new =>
      let old := s.oldImg r
      if !s.passed t cycMs then .next s
      else if !r.recorded then .next (s.postBegin r new old)
      else if r.draining.any (fun sa => (s.ctx sa).st == .draining) || s.blocksBusy then .next s
      else .next (s.unmirrored ((match old with | some o => s.clearOld o new | none => s).commitDone r new))
    | _, _ => .next s

end Sys2Proof.Machine
end

