-- ==== Sys2Proof/Machine/Migrate.lean ====
section
/-! DEFINITION. Machine/Migrate.lean: PARCEL_SAVE and PARCEL_RESTORE (spec/12_parcels.md, R317 to R320). -/

namespace Sys2Proof.Machine

/-! ## The image (R318) -/

/-- OWNER_KEYS of R293: zero in MANUFACTURE. -/
def Otp.ownerKeys (o : Otp) : List Byte :=
  if o.lcs = 0 then zeros 48
  else match o.owners.getLast? with
    | some r => Config.sha384 r.hashes.flatten
    | none => zeros 48

/-- A section: header and entries. -/
def section_ (typ : Nat) (l : List (List Byte)) : List Byte :=
  leBytes 2 typ ++ leBytes 2 l.length ++ leBytes 4 l.flatten.length ++ l.flatten

/-- Bytes padded with zeros, or cut, to a length. -/
def padTo (n : Nat) (l : List Byte) : List Byte := l.take n ++ zeros (n - l.length)

/-- Registers of the CONFIG entry, in the order R318 lists them. -/
def confRegs (p : Nat) : List Nat :=
  [(F.GLB_PARCEL_LIM_W0_SC_MAX p).addr, (F.GLB_PARCEL_LIM_W1_SLOT_MAX p).addr, (F.TRV_PARCEL_CFG_DEF_SC_VALID p).addr,
   (F.TRV_PARCEL_SC_FLOOD_SC p).addr, (F.PLT_PARCEL_CFG_LEARN_EN p).addr, (F.BLW_PARCEL_CFG_DE_PCT p).addr,
   (F.BLW_POLICE_W0_EN (2 * p)).addr, (F.BLW_POLICE_W1_BURST (2 * p)).addr, (F.BLW_POLICE_W0_EN (2 * p + 1)).addr,
   (F.BLW_POLICE_W1_BURST (2 * p + 1)).addr]

def State.saveConf (s : State) (p : Nat) : List Byte := padTo 64 (wordBytes ((confRegs p).map s.word))

def State.saveSlots (s : State) (p : Nat) : List (List Byte) :=
  (s.hrt.slots.filter fun e => e.2.st == 1 && e.2.parcel == p).map fun e => wordBytes (s.slotWords e.1) ++ padTo 64 e.2.key

def State.saveChans (s : State) (p : Nat) : List (List Byte) :=
  (s.sec.chans.filter fun e => e.2.valid && e.2.parcel == p).map fun e => leBytes 4 e.1 ++ zeros 4 ++ wordBytes e.2.toWords

/-- 2^GUARD_LOG2 (R317). -/
def State.guard (s : State) : Nat := 2 ^ (max 16 (min 40 (s.fld F.GLB_PARCEL_CTL_GUARD_LOG2)))

/-- The first PN the target may draw on a transmit association (R317, R320). -/
def State.saveStart (s : State) (sa : Nat) : Nat :=
  (if (s.saChan sa).static_ then (s.ctx sa).resv else (s.ctx sa).next) + s.guard

/-- An association's entry: its context as carried, salt and SAK filled in, and its statistics. -/
def State.saveSa (s : State) (sa : Nat) : List Byte :=
  let x := s.ctx sa
  let tx := !(s.saChan sa).dir
  let st := if tx ∧ x.limit < s.saveStart sa then SaSt.exhausted else x.st
  let w := s.ctxWords sa
  let w := (w.set 0 (putBits (w.getD 0 0) 28 4 st.code))
  let b := wordBytes w
  let b := if tx then b.take 8 ++ leBytes 8 (s.saveStart sa) ++ b.drop 16 else b
  let salt := match x.key with | some m => padTo 12 (m.salt.getD []) | none => zeros 12
  let sak := match x.key with | some m => padTo 32 m.sak | none => zeros 32
  let stats := (List.range 7).flatMap fun k => leBytes 8 (tabGet 0 s.saStat (8 * sa + k)).toNat
  leBytes 4 sa ++ zeros 4 ++ b.take 64 ++ salt ++ zeros 4 ++ sak ++ zeros 16 ++ stats ++ leBytes 8 (tabGet 0 s.sec.statPoison sa)

/-- Associations carried (R317): not REVOKED, not UNUSABLE. -/
def State.saveSas (s : State) (p : Nat) : List Nat :=
  (s.sec.ctxs.filter fun e => s.saParcel e.1 == p && e.2.st != .empty && e.2.st != .revoked && e.2.st != .unusable).map (·.1)

def State.saveRules (s : State) (p : Nat) : List (List Byte) :=
  (s.rules.filter fun e => s.inRange p e.1).map fun e =>
    leBytes 4 (e.1 - s.fld (F.TRV_RANGE_BASE p)) ++ zeros 4 ++ wordBytes e.2.words

def State.savePlat (s : State) (p : Nat) : List (List Byte) :=
  ((s.plat.ways ++ s.plat.stash).filter fun e => pltValid e.2 && pltStatic e.2 && pltParcel e.2 == p).map fun e => leBytes 16 e.2.toNat

def State.saveQueues (s : State) (p : Nat) : List (List Byte) :=
  (s.blw.queues.filter fun e => decide (e.1 < ctlQueue) && e.1 % 64 == p).map fun e =>
    leBytes 1 (e.1 / 512) ++ leBytes 1 (e.1 / 64 % 8) ++ zeros 2 ++ wordBytes ((s.queueWords e.1).take 3)

/-- The plaintext payload. -/
def State.savePay (s : State) (p : Nat) : List Byte :=
  section_ 1 [s.saveConf p] ++ section_ 2 (s.saveSlots p) ++ section_ 3 (s.saveChans p) ++
    section_ 4 ((s.saveSas p).map s.saveSa) ++ section_ 5 (s.saveRules p) ++ section_ 6 (s.savePlat p) ++ section_ 7 (s.saveQueues p)

/-- Bytes 0 to 159 of an image. -/
def State.imageHead (s : State) (p dstSerial dst seq len : Nat) (pubs : List Byte) : List Byte :=
  let stat := (s.saveSas p).any fun sa => (s.saChan sa).static_
  [0x5A, 0x47, 0x50, 0x49] ++ leBytes 2 1 ++ leBytes 1 p ++ leBytes 1 (b2n stat) ++ leBytes 8 Config.serial.toNat ++
    leBytes 8 dstSerial ++ leBytes 1 dst ++ zeros 3 ++ leBytes 4 (s.fld (F.GLB_PARCEL_W1_TENANT p)) ++ leBytes 4 seq ++ leBytes 4 len ++
    leBytes 8 s.guard ++ s.otp.ownerKeys ++ Config.sha384 pubs ++ leBytes 4 s.opMin ++ zeros 12

/-- The migration key. -/
def migKey (z hash head : List Byte) : List Byte := Config.kmac256 z (hash ++ head) 256 (label "ZGD migrate")

/-- The image of parcel `p`, under two random values of the state. -/
def State.image (s : State) (p dstSerial dst seq : Nat) (pubs : List Byte) : List Byte :=
  let pay := s.savePay p
  let head := s.imageHead p dstSerial dst seq pay.length pubs
  let (pub, z) := Config.kemEncap s.randomVal pubs
  let key := migKey z (Config.sha384 pubs) head
  let nonce := leBytes 12 (Config.random (s.free + 1))
  let aad := head ++ padTo 1665 pub ++ zeros 7 ++ nonce ++ zeros 4
  let ct := Config.gcmCrypt key nonce pay
  aad ++ ct ++ Config.gcmTag key nonce aad ct

/-! ## PARCEL_SAVE (R317, R320) -/

/-- DDR5 with a region for images of `n` bytes. -/
def State.imageRoom (s : State) (n : Nat) : Bool :=
  s.flag F.TMP_STATUS_PRESENT && (match s.region 3 with | some x => decide (n ≤ 2 ^ 20 * x.size) | none => false) && decide (n ≤ 2 ^ 26)

/-- What a save leaves of a source association. -/
def State.saved (s : State) (sa : Nat) : State :=
  let c := s.saChan sa
  let x := s.ctx sa
  if c.dir then s
  else if c.static_ then ((s.commitNow 2 sa .migrated).1).toExhausted sa
  else if x.limit < s.saveStart sa then s
  else s.setCtx sa { x with limit := s.saveStart sa - 1 }

/-- PARCEL_SAVE: parcel (4), target SERIAL (8), target parcel (4), its import public keys (1,665), SEQ (4), host address (8). -/
def saveRun (writeOk : Bool) (s : State) (p : Nat) (b : List Byte) : Res :=
  if s.parState p ≠ Ps.frozen ∨ p = 0 then s.parRefuse p St.parcelState
  else
    let seq := leAt b 1681 4
    let img := s.image p (leAt b 4 8) (leAt b 12 4 % 256) seq (slice b 16 1665)
    if !s.imageRoom img.length then { st := s, status := St.noRoom }
    else if !writeOk then { st := s, status := St.dmaError }
    else
      let s := (s.saveSas p).foldl State.saved s.drew.drew
      let s := s.setFn 0 { s.fn 0 with rspAddr := leAt b 1685 8, rspBuf := img }
      { st := (s.setFld (F.GLB_PARCEL_W0_SAVED p) 1).raise
          { num := 0x024, scope := p, arg := img.length, parcel := some p, data := leBytes 4 seq ++ zeros 12 } }

def execParcelSave (d : Desc) (s : State) : Out :=
  .next (parCmd d 0x0505 .secure 1693 true (saveRun d.writeOk) s)

/-! ## PARCEL_RESTORE (R319, R320) -/

/-- The sections of a payload: type and entries, in ascending order of type; none where a header does not fit. -/
def sections : Nat → Nat → List Byte → Option (List (Nat × List (List Byte)))
  | _, _, [] => some []
  | 0, _, _ => none
  | k + 1, last, b =>
    let typ := leAt b 0 2
    let n := leAt b 2 2
    let len := leAt b 4 4
    let size := match typ with | 1 => 64 | 2 => 128 | 3 => 40 | 4 => 200 | 5 => 88 | 6 => 16 | 7 => 16 | _ => 0
    if size = 0 ∨ typ ≤ last ∨ len ≠ n * size ∨ b.length < 8 + len then none
    else (sections k typ (b.drop (8 + len))).map fun l =>
      (typ, (List.range n).map fun i => slice b (8 + i * size) size) :: l

def entriesOf (l : List (Nat × List (List Byte))) (typ : Nat) : List (List Byte) := ((l.find? (·.1 == typ)).map (·.2)).getD []

/-- What RESTORE works on: target parcel, port translation, sections. -/
structure Restore where
  p : Nat
  ports : List Byte
  secs : List (Nat × List (List Byte))

def Restore.port (r : Restore) (n : Nat) : Nat := (r.ports.getD n 0).toNat

/-- A channel as it comes to the target. -/
def Restore.chan (r : Restore) (e : List Byte) : Nat × Chan :=
  let c := Chan.ofWords (leWords 8 (e.drop 8))
  (leAt e 0 4, { c with linePort := r.port c.linePort, boundClr := if c.dir then r.port c.boundClr else c.boundClr, parcel := r.p })

def Restore.chans (r : Restore) : List (Nat × Chan) := (entriesOf r.secs 3).map r.chan

/-- Ports valid and paired, indices free, limits and capacities sufficient. -/
def State.restoreFits (s : State) (r : Restore) : Bool :=
  let cs := r.chans
  let pins := (cs.filter fun e => e.2.pinned).length
  let sas := (entriesOf r.secs 4).map fun e => leAt e 0 4
  let chanOf (sa : Nat) : Chan := ((cs.find? fun e => e.1 == sa / 4).map (·.2)).getD {}
  let conf := (entriesOf r.secs 1).headD []
  let stat := (sas.filter fun sa => (chanOf sa).static_).length
  let loose := (sas.filter fun sa => !(chanOf sa).pinned).length
  let slots := (entriesOf r.secs 2).length
  let kept := (entriesOf r.secs 2).filter fun e => bitsOf (BitVec.ofNat 32 (leAt e 0 4)) 24 1 == 1
  cs.all (fun e => decide (e.1 < 65536) && !(s.chan e.1).valid && decide (32 ≤ e.2.linePort ∧ e.2.linePort < 64) &&
    (!e.2.dir || (decide (e.2.boundClr < 32) && s.pairOf e.2.boundClr == some e.2.linePort))) &&
  decide (cs.length ≤ min (s.fld (F.GLB_PARCEL_LIM_W0_SC_MAX r.p)) (leAt conf 0 4)) &&
  decide (pins ≤ s.fld (F.GLB_PARCEL_LIM_W1_PIN_MAX r.p)) && decide (s.fld F.SEC_PIN_PINNED_SCS + pins ≤ 4096) &&
  decide (slots ≤ s.fld (F.GLB_PARCEL_LIM_W1_SLOT_MAX r.p)) && decide (s.fld F.HRT_STATUS_SLOTS_LOADED + slots ≤ 4096) &&
  decide (s.fld F.HRT_USE_PERSIST + kept.length ≤ 1024) && decide (s.staticCount + stat ≤ 256) &&
  sas.all (fun sa => cs.any fun e => e.1 == sa / 4) && (s.ddrCtx || decide (s.unpinnedCount + loose ≤ 32768)) &&
  (entriesOf r.secs 5).all (fun e => decide (leAt e 0 4 < s.fld (F.TRV_RANGE_COUNT r.p)))

/-- The lowest EMPTY slot. -/
def State.freeSlot (s : State) : Option Nat := (List.range 4096).find? fun n => (s.slot n).st == 0

/-- A slot loaded: ORIGIN imported, a new GEN; its number is the target's choice (log entry 62). -/
def State.restoreSlot (s : State) (p : Nat) (e : List Byte) : State :=
  let w := leWords 16 e
  let g (i lo n : Nat) : Nat := bitsOf (w.getD i 0) lo n
  match s.freeSlot with
  | none => s
  | some n =>
    let x : Slot :=
      { st := 1, typ := g 0 26 3, exportable := g 0 25 1 == 1, persist := g 0 24 1 == 1, usage := g 0 20 4, origin := 0, parcel := p
        ckn := slice e 32 (min 32 (g 0 0 6)), rootParent := g 1 31 1 == 1, parent := g 1 16 12, gen := 1, importSeq := g 2 0 32
        key := slice e 64 (slotKeyLen (g 0 26 3)) }
    ((s.setSlot n x).slotCommit n).1.slotUse p

def SaSt.ofCode : Nat → SaSt
  | 1 => .installed | 2 => .active | 3 => .draining | 4 => .quarantined | 5 => .exhausted | 6 => .revoked | 7 => .unusable | _ => .empty

/-- An association installed with the PN state carried: a static-key one that transmits is made durable one block on (R320). -/
def State.restoreSa (s : State) (e : List Byte) : State :=
  let sa := leAt e 0 4
  let c := s.saChan sa
  let b := e.drop 8
  let w := leWords 32 b
  let w0 := w.getD 0 0
  let stx := c.static_ && !c.dir
  let start := leAt b 8 8
  let x : Ctx :=
    { st := SaSt.ofCode (bitsOf w0 28 4), classValid := bitsOf w0 24 1 == 1, cls := bitsOf w0 21 3, cmd := bitsOf w0 20 1 == 1
      keyGen := ((s.ctx sa).keyGen + 1) % 65536, next := if c.dir then 0 else start
      floor := if c.dir then start else 0, high := if c.dir then leAt b 16 8 else 0
      soft := leAt b 24 8, limit := leAt b 32 8, resv := if stx then start + 2 ^ 40 else leAt b 40 8
      quarUntil := BitVec.ofNat 64 (leAt b 48 8), drainUntil := BitVec.ofNat 64 (leAt b 56 8)
      key := some { sak := slice b 80 c.sakLen, salt := if c.xpn then some (slice b 64 12) else none, slot := none, slotGen := 0 }
      onesTo := if c.dir then leAt b 16 8 + 2047 else 0 }
  let s := (s.setCtx sa x).cacheIn sa
  let s := if stx then (s.commitNow 2 sa (.pn (start + 2 ^ 40))).1
    else if c.static_ then (s.commitNow 2 sa (.pn (leAt b 40 8))).1 else s
  let s := (List.range 7).foldl (fun (s : State) k =>
    { s with saStat := tabSet 0 s.saStat (8 * sa + k) (BitVec.ofNat 64 (leAt b (128 + 8 * k) 8)) }) s
  ({ s with sec := { s.sec with statPoison := tabSet 0 s.sec.statPoison sa (leAt b 184 8) } }).staticSync

def State.restoreRule (s : State) (p : Nat) (e : List Byte) : State :=
  s.setRule (s.fld (F.TRV_RANGE_BASE p) + leAt e 0 4) { Rule.ofWords (leWords 20 (e.drop 8)) with owner := p }

def State.restorePlat (s : State) (r : Restore) (e : List Byte) : State :=
  let x := BitVec.ofNat 128 (leNat e)
  (s.pltPlace (pltPut (pltPut x 123 118 r.p) 41 36 (r.port (pltPort x))) true).1

def State.restoreQueue (s : State) (r : Restore) (e : List Byte) : State :=
  let q := queueIdx (r.port (leAt e 0 1)) (leAt e 1 1 % 8) r.p
  let w := leWords 3 (e.drop 4)
  if q < ctlQueue then s.setQueue q ((s.queue q).configured (w.getD 0 0) (w.getD 1 0) (w.getD 2 0)) else s

def State.restoreConf (s : State) (p : Nat) (e : List Byte) : State :=
  let s := (List.zip (confRegs p) (leWords 10 e)).foldl (fun s x => s.writeReg .secure x.1 x.2) s
  [2 * p, 2 * p + 1].foldl (fun s i =>
    { s with blw := { s.blw with police := tabSet {} s.blw.police i { credit := 65536 * s.fld (F.BLW_POLICE_W1_BURST i) } } }) s

/-- Everything loaded, in the order of R319. -/
def State.restoreAll (s : State) (r : Restore) : State :=
  let s := (entriesOf r.secs 2).foldl (fun s e => s.restoreSlot r.p e) s
  let cs := r.chans
  let s := cs.foldl (fun s e => s.setChan e.1 e.2) s
  let s := (s.setFld F.SEC_PIN_PINNED_SCS (s.fld F.SEC_PIN_PINNED_SCS + (cs.filter fun e => e.2.pinned).length)).scUse r.p
  let s := (entriesOf r.secs 4).foldl State.restoreSa s
  let s := (entriesOf r.secs 5).foldl (fun s e => s.restoreRule r.p e) s
  let s := (entriesOf r.secs 6).foldl (fun s e => s.restorePlat r e) s
  let s := (entriesOf r.secs 7).foldl (fun s e => s.restoreQueue r e) s
  (entriesOf r.secs 1).foldl (fun s e => s.restoreConf r.p e) s

/-- MAGIC, VERSION, lengths and reserved fields (R318). -/
def imageForm (b : List Byte) : Bool :=
  slice b 0 4 == [0x5A, 0x47, 0x50, 0x49] && leAt b 4 2 == 1 && decide (leAt b 7 1 < 2) && leAt b 25 3 == 0 &&
  slice b 148 12 == zeros 12 && slice b 1825 7 == zeros 7 && leAt b 1844 4 == 0 && b.length == 1848 + leAt b 36 4 + 16 &&
  decide (1 ≤ leAt b 6 1) && decide (leAt b 6 1 ≤ 63)

/-- The checks of R319 after the parcel's state, in order: a refusal, or the payload. -/
def State.restoreCheck (s : State) (p : Nat) (hash ports img : List Byte) : Nat ⊕ Restore :=
  if Config.sha384 img ≠ hash ∨ !imageForm img then .inl St.parcelImage
  else if leAt img 16 8 ≠ Config.serial.toNat ∨ slice img 48 48 ≠ s.otp.ownerKeys ∨ leAt img 24 1 ≠ p ∨
      leAt img 28 4 ≠ s.fld (F.GLB_PARCEL_W1_TENANT p) then .inl St.wrongDevice
  else match s.importSeed p with
    | none => .inl St.wrongDevice
    | some seed =>
      if slice img 96 48 ≠ Config.sha384 (Config.importPub seed) then .inl St.wrongDevice
      else if leAt img 32 4 ≤ tabGet 0 s.hrt.seqs p then .inl St.imageRollback
      else
        let n := leAt img 36 4
        let key := migKey (Config.importSecret seed (slice img 160 1665)) (slice img 96 48) (img.take 160)
        let nonce := slice img 1832 12
        let ct := slice img 1848 n
        if Config.gcmTag key nonce (img.take 1848) ct ≠ img.drop (1848 + n) then .inl St.parcelImage
        else match sections 8 0 (Config.gcmCrypt key nonce ct) with
          | none => .inl St.parcelImage
          | some l =>
            let r : Restore := { p := p, ports := ports, secs := l }
            if s.restoreFits r then .inr r else .inl St.noRoom

/-- PARCEL_RESTORE: parcel (4), SHA-384 of the image (48), host address (8), length (4), port translation (64); `img` is what the host
buffer holds, `readOk` whether it was read without error. -/
def restoreRun (img : List Byte) (readOk : Bool) (s : State) (p : Nat) (b : List Byte) : Res :=
  let busy := s.sec.chans.any (fun e => e.2.valid && e.2.parcel == p) || s.hrt.slots.any fun e => e.2.st != 0 && e.2.parcel == p
  if s.parState p ≠ Ps.frozen ∨ busy then s.parRefuse p St.parcelState
  else if !s.imageRoom img.length then { st := s, status := St.noRoom }
  else if !readOk then { st := s, status := St.dmaError }
  else match s.restoreCheck p (slice b 4 48) (slice b 64 64) img with
    | .inl e => if e = St.parcelImage then s.parRefuse p e else { st := s, status := e }
    | .inr r =>
      let seq := leAt img 32 4
      match (s.setXseq p seq).commitNow 0 0 (s.setXseq p seq).ownerPay with
      | (_, false) => { st := s.areaReadOnly 0, status := St.noRoom }
      | (s1, true) =>
        { st := ((s1.restoreAll r).setFld (F.GLB_PARCEL_W0_RESTORED p) 1).raise
            { num := 0x025, scope := p, arg := seq, parcel := some p } }

def execParcelRestore (d : Desc) (img : List Byte) (readOk : Bool) (s : State) : Out :=
  .next (parCmd d 0x0506 .secure 128 true (restoreRun img readOk) s img)

end Sys2Proof.Machine
end

