-- ==== Sys2Proof/Machine/Session.lean ====
section
/-! DEFINITION. Machine/Session.lean: management sessions (spec/11_signed_control.md, R280 to R284), attestation and certificates
(R293, R294). -/

namespace Sys2Proof.Machine

/-! ## The device's own signatures (R263, R231) -/

/-- A signature block by the device identity; without its key, one under a key that the spec does not state. -/
def State.identityBlock (s : State) (lab covered : List Byte) : List Byte :=
  let seed := match s.identity with | some k => k | none => leBytes 32 s.openVal
  let d := sigDigest lab covered
  [0x5A, 0x47, 0x53, 0x47, 4, 0, 0, 0] ++ padTo 2689 (Config.hybridPub seed) ++ padTo 96 (Config.ecdsaSign seed d) ++
    padTo 4627 (Config.mldsaSign seed d) ++ zeros 4

/-- The free value that a signature without the identity key uses up. -/
def State.identityDrew (s : State) : State := if s.identity.isNone then s.drew else s

/-- The DRBG does not serve (R257). -/
def State.noEntropy (s : State) : Bool := !s.flag F.HRT_STATUS_TRNG_OK

def entropyRes (s : State) : Res := { st := s, status := St.blockStatus, code := Hc.entropy }

/-! ## Opening (R280) -/

/-- SESSION_OPEN: the device's ephemeral keys and nonce, under its signature; SESSION_ID is one the spec does not state. -/
def State.sessionOpen (s : State) (f : Nat) (b : List Byte) : Res :=
  if s.noEntropy then entropyRes s
  else
    let eph := s.randomVal
    let s := s.drew
    let nonce := leBytes 32 s.randomVal
    let s := s.drew
    let id := s.openVal % 2 ^ 32
    let s := s.drew
    let keys := Config.ephemeralPub eph
    let acc := leBytes 4 id ++ padTo 97 keys.1 ++ padTo 1568 keys.2 ++ nonce
    let full := acc ++ s.identityBlock (label "ZGD ses") (Config.sha384 (b ++ acc))
    let o : Opening := { id := id, openBytes := b, acceptBytes := full, managerKeys := slice b 129 2689, ephemeral := eph }
    let s := s.identityDrew
    { st := s.setFn f { s.fn f with opening := some o }, rsp := full }

def execSessionOpen (d : Desc) (s : State) : Out :=
  .next (ringCmd d { opcode := 1, cls := .none_, payMax := 2818, payOk := fun b => b.length == 2818, rspSize := fun _ => 9125 }
    (fun s b => s.sessionOpen d.fn.val b) s)

/-- The owner key that a hash names, and whether it is revoked. -/
def Otp.ownerKey (o : Otp) (h : List Byte) : Option Bool :=
  match o.owners.getLast? with
  | some r => (r.hashes.findIdx? (· == h)).map r.revoked.getLsbD
  | none => none

/-- MANAGERS of the image in force: key hash, parcels, class. -/
def State.managers (s : State) : List (List Byte × Nat × Nat) :=
  if s.someImage then
    match imgOf (s.cfgFlash (s.fld F.GLB_BOOT_CFG_SLOT)) with
    | some i => i.managers
    | none => []
  else []

/-- The rights of a manager's keys: class, parcels, and whether it is a listed manager; none where no rule admits it. -/
def State.managerRights (s : State) (h : List Byte) : Option (Nat × BitVec 64 × Bool) :=
  match s.otp.ownerKey h with
  | some false => some (1, BitVec.allOnes 64, false)
  | _ => match s.managers.find? (·.1 == h) with
    | some m => some (m.2.2, BitVec.ofNat 64 m.2.1, true)
    | none => if s.otp.lcs = 0 ∧ !s.someImage then some (1, 1, true) else none

/-- A session opened: the function's old one closes, event 0x00A. -/
def State.openSession (s : State) (f : Nat) (q : Session) (h : List Byte) : State :=
  let s := s.closeSession f 2
  let s := s.setFn f { s.fn f with session := some q, opening := none }
  (s.setFld F.GLB_SESSION_OPEN (s.fld F.GLB_SESSION_OPEN + 1)).raise
    { num := 0x00A, scope := f, parcel := if f = 0 then none else some f, data := h.take 16 }

/-- SESSION_CONFIRM: SESSION_ID, ciphertext, and the manager's signature over the transcript. -/
def State.sessionConfirm (s : State) (f : Nat) (b : List Byte) : Res :=
  match (s.fn f).opening with
  | none => { st := s, status := St.noSession }
  | some o =>
    if o.id ≠ leAt b 0 4 then { st := s, status := St.noSession }
    else
      let ct := slice b 4 1568
      let blk := b.drop 1572
      let th := Config.sha384 (o.openBytes ++ o.acceptBytes ++ ct)
      let h := Config.sha384 (sigPubs blk)
      let good := sigFormOk blk && sigAuthority blk == 3 && sigPubs blk == o.managerKeys
      if good && s.otp.ownerKey h == some true && (s.managers.all fun m => m.1 != h) then { st := s, status := St.keyRevoked }
      else if !good || !sigCryptoOk blk (label "ZGD mgr") th then { st := s, status := St.sigBad }
      else match s.managerRights h with
        | none => { st := s, status := St.sigBad }
        | some (cls, mask, listed) =>
          if f ≠ 0 ∧ !mask.getLsbD f then { st := s, status := St.classDenied }
          else
            let k := Config.kmac256 (Config.kemSecret o.ephemeral (o.openBytes.take 97) ct) th 512 (label "ZGD session")
            let q : Session :=
              { id := o.id, kCmd := k.take 32, kRsp := k.drop 32, cls := cls
                parcels := if f = 0 then mask else 1#64 <<< f, manager := if listed then some h else none, lastCmd := s.cyc }
            { st := s.openSession f q h }

def execSessionConfirm (d : Desc) (s : State) : Out :=
  .next (ringCmd d { opcode := 2, cls := .none_, payMax := 8996, payOk := fun b => b.length == 8996 }
    (fun s b => s.sessionConfirm d.fn.val b) s)

/-! ## Closing and idling (R282) -/

/-- SESSION_CLOSE: its own response still carries the session's MAC. -/
def execSessionClose (d : Desc) (s : State) : Out :=
  .next (ringCmd d { opcode := 3, cls := .observe, payMax := 0 } (fun s _ => { st := s.closeSession d.fn.val 0 }) s)

/-- SESSION_IDLE_TIMEOUT: IDLE_S seconds without a command, and none in progress (R282, R298). -/
def execSessionIdleTimeout (f : Fin 64) (s : State) : Out :=
  match (s.fn f.val).session with
  | some q =>
    if s.passed q.lastCmd (cycS * max 1 (s.fld F.GLB_SESSION_IDLE_S)) && !s.waits.any (fun w => w.d.fn == f && !w.mute) then
      .next (s.closeSession f.val 1)
    else .next s
  | none => .next s

/-- NOP. -/
def execCmdNop (d : Desc) (s : State) : Out := .next (ringCmd d { opcode := 4, cls := .observe, payMax := 0 } (fun s _ => { st := s }) s)

/-- CHALLENGE (R284): a nonce of the DRBG, the 17th outstanding one discarding the oldest. -/
def State.challenge (s : State) (f : Nat) : Res :=
  if s.noEntropy then entropyRes s
  else
    let n : Nonce := { bytes := leBytes 32 s.randomVal, at_ := s.cyc }
    let x := s.fn f
    let l := x.nonces ++ [n]
    { st := s.drew.setFn f { x with nonces := l.drop (l.length - 16) }, rsp := n.bytes }

def execChallenge (d : Desc) (s : State) : Out :=
  .next (ringCmd d { opcode := 5, cls := .observe, payMax := 0 } (fun s _ => s.challenge d.fn.val) s)

/-! ## Attestation (R293, R294) -/

/-- Bytes 0 to 239 of the statement. -/
def State.statement (s : State) (nonce : List Byte) : List Byte :=
  let role := s.fld F.TIE_STATUS_ROLE
  let bits := [s.flag F.HRT_STATUS_HUK_OK, s.flag F.HRT_STATUS_KEK_OK, s.flag F.GLB_BOOT_DEBUG, s.synced, role == 2 || role == 4, s.held,
    (List.range 5).any fun a => s.flag (F.HRT_STORE_AREA_W0_READ_ONLY a), s.flag F.GLB_BOOT_TRIAL]
  let flags := bits.foldr (fun b n => b2n b + 2 * n) 0
  [0x5A, 0x47, 0x41, 0x54] ++ leBytes 2 1 ++ leBytes 2 240 ++ leBytes 8 Config.serial.toNat ++ leBytes 1 0x10 ++ leBytes 1 s.otp.lcs ++
  leBytes 1 (s.fld F.GLB_BOOT_FW_SLOT) ++ leBytes 1 (s.fld F.GLB_BOOT_FW_SVN) ++ leBytes 4 s.ctl.fwVersion ++
  wordBytes (s.words (F.GLB_FW_MEASURE 0).addr 12) ++ wordBytes (s.words (F.GLB_CFG_MEASURE 0).addr 12) ++
  leBytes 4 (s.fld F.GLB_IMAGE_SEQ) ++ leBytes 4 s.otp.epoch ++ padTo 48 s.otp.ownerKeys ++ leBytes 2 (min 2048 s.otp.evidence) ++
  leBytes 1 s.otp.storeLoss ++ leBytes 1 flags ++ leBytes 1 s.otp.svnFloor ++ zeros 3 ++ leBytes 4 s.opMin ++ leBytes 4 s.powerCycles ++
  leBytes 8 s.datumNs.toNat ++ padTo 32 nonce ++ zeros 8

def State.attest (s : State) (b : List Byte) : Res :=
  let t := s.statement b
  { st := s.identityDrew, rsp := t ++ s.identityBlock (label "ZGD att") t }

def execAttest (d : Desc) (s : State) : Out :=
  .next (ringCmd d { opcode := 0x100, cls := .observe, payMax := 32, payOk := fun b => b.length == 32, rspSize := fun _ => 7664 }
    State.attest s)

/-- CERT_GET: the certificates and CA chain of the flash. -/
def execCertGet (d : Desc) (s : State) : Out :=
  .next (ringCmd d { opcode := 0x101, cls := .observe, payMax := 0, rspSize := fun _ => 65536 }
    (fun s _ => { st := s, rsp := flashGet Config.certificates 0 65536 }) s)

end Sys2Proof.Machine
end

