-- ==== Sys2Proof/Machine/Life.lean ====
section
/-! DEFINITION. Machine/Life.lean: firmware update (spec/11_signed_control.md, R287, R288), the life cycle (R289, R290), debug
(R291, R292), the call gate and the service watchdog (R296, R297). -/

namespace Sys2Proof.Machine

/-! ## Firmware update (R287, R288) -/

/-- The firmware slot that is not running. -/
def State.idleFw (s : State) : Nat := 1 - s.fld F.GLB_BOOT_FW_SLOT

/-- FW_STAGE: an offset of 8 bytes and up to 64 KiB. -/
def execFwStage (d : Desc) (s : State) : Out :=
  .next (ringCmd d
    { opcode := 0x310, cls := .operate, payMax := 65544
      payOk := fun b => decide (8 < b.length) && decide (leAt b 0 8 + (b.length - 8) ≤ 16777216) }
    (fun s b => let n := s.idleFw
                { st := s.setFwFlash n (flashPut (s.fwFlash n) (leAt b 0 8) (b.drop 8)) }) s)

/-- Every session closed with one cause. -/
def State.closeAll (s : State) (cause : Nat) : State := (List.range 64).foldl (fun s f => s.closeSession f cause) s

/-- Firmware of slot `k` takes over; the data path is not touched (R6, R287). -/
def State.handTo (s : State) (k : Nat) (m : List Byte) (svn version : Nat) : State :=
  let s := (s.setFld F.GLB_BOOT_FW_SLOT k).setFld F.GLB_BOOT_FW_SVN svn
  { s.setWords (F.GLB_FW_MEASURE 0).addr (leWords 12 m) with ctl := { s.ctl with fwVersion := version } }

/-- The handover into TRIAL: sessions close, event 0x007. -/
def State.startTrial (s : State) (i : FwInfo) : State :=
  let k := s.idleFw
  let before : List Byte × Nat × Nat := (wordBytes (s.words (F.GLB_FW_MEASURE 0).addr 12), s.fld F.GLB_BOOT_FW_SVN, s.ctl.fwVersion)
  let s := { s with ctl := { s.ctl with trial := some s.cyc, before := before } }
  (((s.closeAll 5).handTo k i.measure i.svn i.version).setFld F.GLB_BOOT_TRIAL 1).raise { num := 0x007, scope := k, arg := i.svn }

/-- FW_UPDATE: the measurement of the staged image; `agree` is its doubled verdict. -/
def execFwUpdate (d : Desc) (agree : Bool) (s : State) : Out :=
  .next (ringCmd d { opcode := 0x311, cls := .secure, payMax := 48, payOk := fun b => b.length == 48 } (fun s b =>
    if s.committing ∨ s.ctl.trial.isSome then { st := s, status := St.busyCommit }
    else match fwCheck s.otp (s.fwFlash s.idleFw) with
      | .inr c => { st := s, status := c }
      | .inl i =>
        if !agree then { st := s.ddMismatch 0, status := St.sigBad }
        else if i.measure ≠ b then { st := s, status := St.imageFormat }
        else { st := s.startTrial i }) s)

/-- The trial over. -/
def State.endTrial (s : State) : State := ({ s with ctl := { s.ctl with trial := none } }).setFld F.GLB_BOOT_TRIAL 0

/-- FW_CONFIRM in TRIAL: boot record, SVN floor, revocations, event 0x008. -/
def State.confirm (s : State) : State :=
  let k := s.fld F.GLB_BOOT_FW_SLOT
  let flags := leNat (flashGet (s.fwFlash k) 7 1)
  let s := s.writeBootRec k s.bootRec.cfg
  let floor := if flags % 2 = 1 then max s.otp.svnFloor (min 128 (s.fld F.GLB_BOOT_FW_SVN)) else s.otp.svnFloor
  let otp := { s.otp with svnFloor := floor, fwRevoked := s.otp.fwRevoked ||| BitVec.ofNat 4 (flags / 2) }
  ((({ s with otp := otp }).setFld F.GLB_BOOT_SVN_FLOOR floor).endTrial).raise { num := 0x008, scope := k }

/-- FW_CONFIRM (R288); outside TRIAL it has nothing to confirm. -/
def execFwConfirm (d : Desc) (s : State) : Out :=
  .next (ringCmd d { opcode := 0x312, cls := .operate, payMax := 0 }
    (fun s _ => { st := if s.ctl.trial.isSome then s.confirm else s }) s)

/-- The firmware hands back to the previous image: sessions close, event 0x009. -/
def State.revertFw (s : State) : State :=
  let p := s.ctl.before
  (((s.closeAll 5).handTo s.idleFw p.1 p.2.1 p.2.2).endTrial).raise { num := 0x009, scope := s.idleFw }

/-- TRIAL_EXPIRY (R288): CONFIRM_S seconds in TRIAL. -/
def execTrialExpiry (s : State) : Out :=
  match s.ctl.trial with
  | some t => .next (if s.passed t (cycS * max 1 (s.fld F.GLB_FW_CONFIRM_S)) then s.revertFw else s)
  | none => .next s

/-! ## The life cycle (R289, R290, R256) -/

/-- PURGE but for the HUK and the identity key; a new BBRAM_KEK, areas 0 to 2 empty. -/
def State.lcsPurge (s : State) : State :=
  let huk := s.fld F.HRT_STATUS_HUK_OK
  let s := (s.quenchStart 5 0 false).setFld F.HRT_STATUS_HUK_OK huk
  let s := (s.quenched 5).hrtEvent { num := 0x34B, scope := 5 } 0
  ({ s with hrt := { s.hrt with purged := false, quench := [], kek := some s.randomVal } }).drew

/-- A transition refused, or performed: PURGE, then OTP (R290, R414). -/
def State.transition (s : State) (o : Otp) (agree : Bool) : Res :=
  if s.committing ∨ s.ctl.trial.isSome then { st := s, status := St.busyCommit }
  else if !agree then { st := s.ddMismatch 1, status := St.sigBad }
  else
    let s := s.lcsPurge.closeAll 7
    { st := { s with
        otp := { s.otp with owned := o.owned, isSealed := o.isSealed, retired := o.retired, owners := o.owners }
        ctl := { s.ctl with lcsNew := true } } }

/-- A life-cycle command, and the CHIP reset that a transition forces. -/
def lcsCmd (d : Desc) (c : Cmd) (b : BootIn) (run : State → List Byte → Res) (s : State) : State :=
  let t := ringCmd d { c with cls := .secure, label := label "ZGD lcs" } run s
  if t.ctl.lcsNew && !s.ctl.lcsNew then t.resetChip F.GLB_RST_CAUSE_LCS b else t

/-- The key hashes of a proposed owner record, `n` of them. -/
def proposed (n : Nat) (b : List Byte) : List (List Byte) := (List.range n).map fun i => slice b (48 * i) 48

/-- A block of a proposed key `i`, over a header (R264, R289). -/
def newKeyOk (hs : List (List Byte)) (head : List Byte) (i : Nat) (blk : List Byte) : Bool :=
  sigFormOk blk && sigAuthority blk == 2 && sigKeyIndex blk == i && hs[i]? == some (Config.sha384 (sigPubs blk)) &&
  sigCryptoOk blk (label "ZGD lcs") head

def newKeysOk (hs : List (List Byte)) (head : List Byte) (blks : List (List Byte)) : Bool :=
  blks.length == hs.length && ((List.range hs.length).zip blks).all fun e => newKeyOk hs head e.1 e.2

/-- Signature blocks one after the other. -/
def blocksOf (n : Nat) (b : List Byte) : List (List Byte) := (List.range n).map fun i => slice b (sigBlockLen * i) sigBlockLen

/-- The header of R284 with a payload's digest over its key hashes. -/
def lcsHeader (d : Desc) (o : Otp) (opcode : Nat) (hs : List (List Byte)) : List Byte :=
  leBytes 8 Config.serial.toNat ++ leBytes 4 o.epoch ++ leBytes 2 opcode ++ leBytes 1 (descParcel d) ++ zeros 1 ++ descNonce d ++
    Config.sha384 hs.flatten

/-- The nonce of a command that checks its own signatures: check 2 of R284. -/
def State.takeNonce (s : State) (f : Nat) (bytes : List Byte) : Option State :=
  let x := s.fn f
  if x.nonces.any (fun n => n.bytes == bytes && decide (s.elapsed n.at_ < 300 * cycS)) then
    some (s.setFn f { x with nonces := x.nonces.filter (fun n => n.bytes != bytes) })
  else none

/-- TAKE_OWNERSHIP (R289): key hashes, then the blocks of all keys but the last, whose block ends the payload. -/
def State.takeOwnership (s : State) (d : Desc) (agree : Bool) (b : List Byte) : Res :=
  let n := (b.length + sigBlockLen) / (48 + sigBlockLen)
  let hs := proposed n b
  if d.flags ≠ 1 then { st := s, status := St.sigRequired }
  else match s.takeNonce d.fn.val (descNonce d) with
    | none => { st := s, status := St.nonceBad }
    | some s =>
      let head := lcsHeader d s.otp 0x400 hs
      if !newKeysOk hs head (blocksOf (n - 1) (b.drop (48 * n)) ++ [descSigBlock d]) then { st := s, status := St.sigBad }
      else if !d.agree then { st := s.ddMismatch 0, status := St.sigBad }
      else
        let s := s.secLogRec { num := 0, scope := d.fn.val, arg := 0x400 } head
        if s.otp.lcs ≠ 0 then { st := s, status := St.lcsDenied }
        else s.transition { s.otp with owned := true, owners := [{ hashes := hs }] } agree

def execTakeOwnership (d : Desc) (agree : Bool) (b : BootIn) (s : State) : Out :=
  .next (lcsCmd d
    { opcode := 0x400, cls := .secure, payMax := 4 * 48 + 3 * sigBlockLen, ownSig := true
      payOk := fun p => [48, 7520, 14992, 22464].contains p.length }
    b (fun s p => s.takeOwnership d agree p) s)

/-- TRANSFER (R289): the new keys' hashes and blocks; the current owner's block ends the payload. -/
def State.transfer (s : State) (d : Desc) (agree : Bool) (b : List Byte) : Res :=
  let n := b.length / (48 + sigBlockLen)
  let hs := proposed n b
  if d.flags ≠ 1 then { st := s, status := St.sigRequired }
  else match s.takeNonce d.fn.val (descNonce d) with
    | none => { st := s, status := St.nonceBad }
    | some s =>
      let head := lcsHeader d s.otp 0x401 hs
      match s.otp.verify s.otp.ownerAuthority (label "ZGD lcs") head (descSigBlock d) with
      | .revoked => { st := s, status := St.keyRevoked }
      | .bad => { st := s, status := St.sigBad }
      | .ok =>
        if !newKeysOk hs head (blocksOf n (b.drop (48 * n))) then { st := s, status := St.sigBad }
        else if !d.agree then { st := s.ddMismatch 0, status := St.sigBad }
        else
          let s := s.secLogRec { num := 0, scope := d.fn.val, arg := 0x401 } head
          if s.otp.lcs ≠ 1 ∨ 4 ≤ s.otp.epoch then { st := s, status := St.lcsDenied }
          else s.transition { s.otp with owners := s.otp.owners ++ [{ hashes := hs }] } agree

def execTransferOwner (d : Desc) (agree : Bool) (b : BootIn) (s : State) : Out :=
  .next (lcsCmd d
    { opcode := 0x401, cls := .secure, payMax := 4 * (48 + sigBlockLen), ownSig := true
      payOk := fun p => [7472, 14944, 22416, 29888].contains p.length }
    b (fun s p => s.transfer d agree p) s)

/-- SEAL: OWNED to SEALED. -/
def execSealDevice (d : Desc) (agree : Bool) (b : BootIn) (s : State) : Out :=
  .next (lcsCmd d { opcode := 0x402, cls := .secure, payMax := 0 } b (fun s _ =>
    if s.otp.lcs ≠ 1 then { st := s, status := St.lcsDenied } else s.transition { s.otp with isSealed := true } agree) s)

/-- RETIRE: from any state but RETIRED, which takes no SECURE command. -/
def execRetireDevice (d : Desc) (agree : Bool) (b : BootIn) (s : State) : Out :=
  .next (lcsCmd d { opcode := 0x403, cls := .secure, payMax := 0 } b (fun s _ => s.transition { s.otp with retired := true } agree) s)

/-- The current owner record with a key revoked. -/
def Otp.revokeOwner (o : Otp) (i : Nat) : Otp :=
  match o.owners.getLast? with
  | some r => { o with owners := o.owners.dropLast ++ [{ r with revoked := r.revoked ||| (1#4 <<< i) }] }
  | none => o

/-- Key `i` of the owner record is the only one not revoked. -/
def Otp.lastKey (o : Otp) (i : Nat) : Bool :=
  match o.owners.getLast? with
  | some r => (List.range r.hashes.length).all fun k => k == i || r.revoked.getLsbD k
  | none => true

/-- REVOKE_AUTH_KEY: the place of an owner key, 4 bytes. -/
def execRevokeAuthKey (d : Desc) (s : State) : Out :=
  .next (ringCmd d
    { opcode := 0x404, cls := .secure, payMax := 4, payOk := fun b => b.length == 4 && decide (leAt b 0 4 ≤ 3) }
    (fun s b =>
      let i := leAt b 0 4
      if s.otp.lcs = 0 ∨ s.otp.lastKey i then { st := s, status := St.lcsDenied }
      else { st := { s with otp := s.otp.revokeOwner i } }) s)

/-! ## Debug (R291, R292) -/

/-- Bytes 0 to 7 of a token. -/
def tokenForm (b : List Byte) : Bool :=
  b.length == 7480 && slice b 0 4 == [0x5A, 0x47, 0x44, 0x42] && (leAt b 4 1 == 1 || leAt b 4 1 == 2) && leAt b 5 3 == 0

/-- HOLD on every port as source 12, in the log under an event's number. -/
def State.holdFor (s : State) (event level : Nat) : State :=
  let s := s.envLast 12 level event
  let s := s.secLogRec { num := event, scope := 12, arg := level, alarm := true } (s.envDetail 12 0)
  if 2 ≤ s.fld F.ENV_STATUS_LEVEL then s else ((s.setLevel 2).holdNow).applied 12 2

/-- Debug opened: FULL after ERASE and HOLD. -/
def State.unlock (s : State) (scope : Nat) : State :=
  let s := if scope = 2 then
      let d : Dec := { scope := 4, source := 12, start := s.cyc, delay := 0 }
      (s.holdFor 0x00E 3).zeroize d
    else s
  (s.setFld F.GLB_BOOT_DEBUG (max scope (s.fld F.GLB_BOOT_DEBUG))).raise { num := 0x00E, arg := scope }

/-- DEBUG_UNLOCK's checks: life cycle, nonce, signature, and what the token gives as this device's. -/
def State.debugUnlock (s : State) (d : Desc) (b : List Byte) : Res :=
  if s.otp.lcs ≠ 1 then { st := s, status := St.lcsDenied }
  else match s.takeNonce d.fn.val (slice b 24 32) with
    | none => { st := s, status := St.nonceBad }
    | some s => match s.otp.verify 2 (label "ZGD dbg") (b.take 56) (b.drop 56) with
      | .revoked => { st := s, status := St.keyRevoked }
      | .bad => { st := s, status := St.sigBad }
      | .ok =>
        if !d.agree then { st := s.ddMismatch 4, status := St.sigBad }
        else if leAt b 8 8 ≠ Config.serial.toNat ∨ leAt b 16 4 ≠ s.otp.epoch ∨ leAt b 20 4 ≠ s.powerCycles then
          { st := s, status := St.wrongDevice }
        else { st := s.unlock (leAt b 4 1) }

def execDebugUnlock (d : Desc) (s : State) : Out :=
  .next (ringCmd d { opcode := 0x405, cls := .operate, payMax := 7480, payOk := tokenForm } (fun s b => s.debugUnlock d b) s)

/-- JTAG_INSTRUCTION (R292): BYPASS, IDCODE and SAMPLE/PRELOAD reach no register; the others hold every port. -/
def execJtagInstruction (i : Jtag) (s : State) : Out :=
  match i with
  | .bypass | .idcode | .samplePreload => .next s
  | .extest | .intest | .clamp => .next (if s.env.held then s else s.holdFor 0 2)

/-! ## The call gate (R296) -/

/-- Line ports that the MKA section of the image in force names. -/
def State.mkaPorts (s : State) : List Nat :=
  if s.someImage then
    match imgOf (s.cfgFlash (s.fld F.GLB_BOOT_CFG_SLOT)) with
    | some i => match i.secs.find? (·.typ == 0x36) with
      | some x => (List.range x.recs).map fun k => leAt i.bytes (x.off + 16 * k) 1
      | none => []
    | none => []
  else []

/-- A channel on a line port that the MKA section names. -/
def State.mkaChan (s : State) (sc : Nat) : Bool := (s.chan sc).valid && s.mkaPorts.contains (s.chan sc).linePort

/-- What the call gate performs: the writes of DAT SLEW, STEP and REPORT, of Hearth's MKA commands and SAK_FROM_SLOT, of SA_INSTALL,
SC_SWITCH and SC_SCHEDULE on MKA channels, of Plat's seeds and rebuild. -/
def State.gateOpens (s : State) (a : Nat) (v : Word) : Bool :=
  a == F.DAT_OPND_LO.addr || a == F.DAT_OPND_HI.addr || (a == F.DAT_CMD_OP.addr && [2, 3, 4].contains (opOf F.DAT_CMD_OP v)) ||
  a == F.HRT_CMD_ARG.addr || (regIx hrtWin 4 512 a).isSome ||
  (a == F.HRT_CMD_OP.addr && [0xA, 0xB, 0xC, 0xD, 0xE].contains (opOf F.HRT_CMD_OP v)) ||
  a == F.SEC_HANDOFF.addr || (regIx secWin 4 32 a).isSome ||
  (a == F.SEC_CMD_OP.addr &&
    (let i := bitsOf v F.SEC_CMD_INDEX.lo F.SEC_CMD_INDEX.width
     match opOf F.SEC_CMD_OP v with
     | 4 => s.mkaChan (i / 4)
     | 8 | 9 => s.mkaChan i
     | _ => false)) ||
  a == F.PLT_SEED_NEXT0.addr || a == F.PLT_SEED_NEXT1.addr || a == F.PLT_REBUILD_START.addr

/-- CALL_GATE_REQUEST (R296): service firmware asks for a word to be written at key `a`. -/
def execCallGateRequest (a : BitVec 24) (v : Word) (s : State) : Out :=
  let a := a.toNat
  .next (if s.gateOpens a v then s.regPut .secure a v else s.secureRefused a .service)

/-! ## The service watchdog (R297) -/

/-- A ring command in progress is not performed: what its block had begun and can leave is left, and it answers ABORTED. -/
def State.abortWait (s : State) (w : Wait) : State :=
  let s := if w.opcode = 0x1505 ∧ s.sec.delRing ∧ s.sec.delWait = some (blkIndex (descBody w.d)) then
      ({ s with sec := { s.sec with delWait := none, delRing := false } }).setFld F.SEC_CMD_BUSY 0 else s
  match w.opcode, s.ctl.run with
  | 0x302, some r => if r.switched.isNone ∧ r.at_.isNone then s.commitFails r r.undo St.aborted
                     else s.finishWait w (fun s => { st := s, status := St.aborted }) 0
  | _, _ => s.finishWait w (fun s => { st := s, status := St.aborted }) 0

/-- SERVICE_WATCHDOG_EXPIRY (R297, R298): the service firmware restarts, sessions closed, event 0x00F; in TRIAL the firmware
reverts. -/
def execServiceWatchdogExpiry (s : State) : Out :=
  if !s.hostUp then .next s
  else if s.ctl.trial.isSome then .next s.revertFw
  else .next (((s.waits.foldl State.abortWait s).closeAll 9).raise { num := 0x00F, arg := 0 })

end Sys2Proof.Machine
end

