-- ==== Sys2Proof/Machine/Mirror.lean ====
section
/-! DEFINITION. Machine/Mirror.lean: what the standby of a Tie pair takes over from the active: the snapshot (R390) and mirrored
changes (R391). -/

namespace Sys2Proof.Machine

/-! ## Keys under TIE_KEY (R237, R238, R390) -/

/-- A MODE 0 blob of a kind under the TIE_KEY slot, opened: its plaintext, and the state that has accepted its sequence number. -/
def State.tieOpen (s : State) (kind : Nat) (bytes : List Byte) : Option (State × List Byte) :=
  let b : Blob := ⟨bytes⟩
  let n := s.fld F.TIE_KEY_SLOT
  let bits := if kind = 1 then 6 else 2
  if !b.formOk kind || b.mode != 0 || b.wrapSlot != n || s.slotCheck { slot := n, arg := 0, tag := none } n bits != 0 then none
  else match Config.keyUnwrap b.alg (s.slot n).key b.wrapped with
    | none => none
    | some p =>
      if !b.plainOk p || decide (b.seq ≤ s.importSeq b) then none
      else match s.acceptSeq b with
        | (s, true) => some (s, p)
        | (_, false) => none

/-- The SAK that a blob carries. -/
def State.tieKey (s : State) (bytes : List Byte) : Option (State × KeyMat) :=
  (s.tieOpen 1 bytes).map fun x =>
    let n := slotKeyLen (leAt x.2 0 1)
    let k := x.1.fld F.TIE_KEY_SLOT
    (x.1, { sak := slice x.2 16 n, salt := if leAt x.2 3 1 = 1 then some (slice x.2 (16 + n) 12) else none
            slot := some k, slotGen := (x.1.slot k).gen })

/-- The slot that a blob carries, as an import under TIE_KEY makes it. -/
def State.tieSlotIn (s : State) (n p : Nat) (bytes : List Byte) : Option State :=
  (s.tieOpen 0 bytes).map fun x =>
    let typ := leAt x.2 0 1
    let fl := leAt x.2 1 1
    let old := x.1.slot n
    let y : Slot :=
      { st := 1, typ := typ, usage := fl % 16, exportable := fl / 16 % 2 == 1, persist := fl / 32 % 2 == 1, origin := 0, parcel := p
        parent := x.1.fld F.TIE_KEY_SLOT, gen := old.gen + 1, importSeq := old.importSeq, exports := old.exports
        key := slice x.2 16 (slotKeyLen typ), ckn := x.2.drop (16 + slotKeyLen typ) }
    ((x.1.setSlot n y).slotCommit n).1.slotUse p

/-! ## The snapshot (R390) -/

/-- An association as the active has it: its context words, its key from the blob.  Below HIGH_PN every PN counts as received. -/
def State.joinSa (s : State) (sa : Nat) (b blob : List Byte) : State :=
  match s.tieKey blob with
  | none => s
  | some (s, m) =>
    let c := s.saChan sa
    let w0 := (leWords 1 b).getD 0 0
    let x : Ctx :=
      { s.ctx sa with
        st := SaSt.ofCode (bitsOf w0 28 4), classValid := bitsOf w0 24 1 == 1, cls := bitsOf w0 21 3, cmd := bitsOf w0 20 1 == 1
        keyGen := ((s.ctx sa).keyGen + 1) % 65536, next := if c.dir then 0 else leAt b 8 8
        floor := if c.dir then leAt b 8 8 else 0, high := if c.dir then leAt b 16 8 else 0
        soft := leAt b 24 8, limit := leAt b 32 8
        quarUntil := BitVec.ofNat 64 (leAt b 48 8), drainUntil := BitVec.ofNat 64 (leAt b 56 8)
        key := some m, onesTo := if c.dir then leAt b 16 8 else 0 }
    ((((s.retireKey sa).setCtx sa x).cacheIn sa).tieForget sa).staticSync

def State.joinItem (s : State) : TieItem → State
  | .assoc sa ctx blob => s.joinSa sa.toNat ctx blob
  | .station e => (s.pltPlace e true).1
  | .slot n p blob => match s.tieSlotIn n.toNat p.val blob with | some t => t | none => s

/-- SNAPSHOT (R389, R390): a chunk installed; after the last the joining chip is the standby. -/
def execTieSnapshot (seq : BitVec 32) (items : List TieItem) (last : Bool) (s : State) : Out :=
  if !s.hears || s.role != Role.forming || !s.tie.checked || s.holdOut then .next s
  else
    let s := items.foldl State.joinItem (s.heardSeq seq)
    if last && s.holdIn then
      .next ((({ s with tie := { s.tie with heard := s.cyc, fail := none } }).setRole Role.standby).raise { num := 0x3C1 })
    else .next s

/-! ## Mirrored changes (R391) -/

/-- Code of a result, in progress counting as accepted. -/
def doneOr (busy c : Nat) : Nat := if c = busy then 0 else c

/-- A parcel or commit command's result. -/
def Res.plain (r : Res) : State × Nat := (r.st, r.status)

/-- A slot command. -/
def State.mirrorSlot (s : State) (m : Mirrored) (op : Nat) : State × Nat :=
  let n := m.idx.toNat % 4096
  if op = 3 ∨ op = 4 then
    match s.tieSlotIn n (leAt m.payload 0 1 % 64) m.blob with
    | some t => (t, 0)
    | none => (s, Hc.auth)
  else
    let tag := m.idx.toNat / 4096
    let r : HReq := { slot := n, arg := m.arg.toNat, tag := if tag = 0 then none else some (tag - 1) }
    let x := (s.hrtPut m.payload).hrtOp op (if op = 0x12 then m.arg.toNat / 2 ^ 29 else 0) r
    (x.1, doneOr Hc.busy x.2.1)

/-- A command of SEC; the SAK of SA_INSTALL comes as a blob. -/
def State.mirrorSec (s : State) (m : Mirrored) (op : Nat) : State × Nat :=
  let s := s.setWords secWin (leWords 32 m.payload)
  if op = 4 then
    match s.tieKey m.blob with
    | none => (s, Sc.noKey)
    | some (s1, k) => match s1.placeHand k (s.saParcel m.idx.toNat) with
      | some (s2, h) => s2.secOp 4 m.idx.toNat h
      | none => (s, Sc.noKey)
  else
    let x := s.secOp op m.idx.toNat 0
    (x.1, doneOr Sc.busy x.2)

/-- The parcel and commit commands. -/
def State.mirrorHost (s : State) (m : Mirrored) : State × Nat :=
  let b := m.payload
  let p := parNum b
  match m.opcode.toNat with
  | 0x0500 => (assignRun s p b).plain
  | 0x0501 => (releaseRun s p b).plain
  | 0x0502 => (resetRun s p b).plain
  | 0x0503 => (freezeRun s p b).plain
  | 0x0504 => (thawRun s p b).plain
  | 0x0505 => (saveRun true s p b).plain
  | 0x0506 => (restoreRun (b.drop 128) true s p (b.take 128)).plain
  | 0x0300 => (stageRun s b).plain
  | 0x0301 => (verifyRun m.agree s b).plain
  | 0x0302 => (commitRun s b).plain
  | 0x0303 => (commitAtRun s b).plain
  | 0x0304 => (commitCancelRun s b).plain
  | _ => (s, St.badOpcode)

/-- A mirrored change executed: state and result. -/
def State.mirrorRun (s : State) (m : Mirrored) : State × Nat :=
  let op := m.opcode.toNat % 256
  let i := m.idx.toNat
  match m.opcode.toNat / 256 with
  | 0x02 => (s.regPut .secure i ((leWords 1 m.payload).getD 0 0), 0)
  | 0x13 => let x := (s.setWords trvWin (leWords 20 m.payload)).ruleOp op i; (x.1, x.2 % 4)
  | 0x14 =>
    let s := (s.setWords pltWin (leWords 4 m.payload)).setWord F.PLT_FLUSH_MODE.addr ((leWords 1 (m.payload.drop 16)).getD 0 0)
    let x := s.pltOp op m.arg (if i = 0 then none else some (i - 1)) false
    (x.1, doneOr Pc.busy x.2)
  | 0x15 => s.mirrorSec m op
  | 0x17 => (s.setWords blwWin (leWords 12 m.payload)).queueOp op i true
  | 0x18 => (s.setWords gatWin (leWords 2 m.payload)).gclOp op m.arg.toNat i
  | 0x1A => s.mirrorSlot m op
  | _ => s.mirrorHost m

/-- MIRROR (R391, R394): the standby executes what the active has accepted; a result that differs sends it back to FORMING. -/
def execTieMirror (seq : BitVec 32) (m : Mirrored) (s : State) : Out :=
  if !s.hears || !s.follows || s.role == Role.forming then .next s
  else
    let x := (s.heardSeq seq).mirrorRun m
    if x.2 = 0 then .next x.1.tieExcuse
    else .next ((x.1.raise { num := 0x3CC, scope := m.opcode.toNat, arg := x.2 }).reform)

end Sys2Proof.Machine
end

