-- ==== Sys2Proof/Machine/Smbus.lean ====
section
/-! DEFINITION. Machine/Smbus.lean: the SMBus telemetry interface (R493). -/

namespace Sys2Proof.Machine

/-- Some port is open. -/
def State.anyOpen (s : State) : Bool := (List.range 64).any fun n => s.flag (F.PRT_PORT_W2_OPEN n)

/-- A 16-bit value as a signed number. -/
def half (v : Nat) : Int := (BitVec.ofNat 16 v).toInt

/-- Word and byte commands: value and width in bytes. -/
def State.smbusValue (s : State) (cmd : Nat) : Option (Nat × Nat) :=
  let meas (i : Nat) : Nat := s.fld (F.ENV_MEAS_VALUE i)
  match cmd with
  | 0x00 => some (0x5464, 2)
  | 0x01 => some (s.fld F.GLB_REV_SILICON, 1)
  | 0x02 => some (([4, 5, 6].foldl (fun m i => if half m < half (meas i) then meas i else m) (meas 3)), 2)
  | 0x03 => some (meas 0, 2)
  | 0x04 => some (meas 1, 2)
  | 0x05 => some (meas 7, 2)
  | 0x06 => some (32 * s.fld F.ENV_STATUS_LEVEL + (if s.anyOpen then 16 else 0) + s.fld F.GLB_BOOT_STAGE, 1)
  | _ => none

/-- SMBUS_READ: a Read Byte or a Read Word answers; a write is NACKed. -/
def execSmbusRead (cmd : Byte) (word write : Bool) (s : State) : Out :=
  if write then .next { s with smbus := none }
  else
    let n := if word then 2 else 1
    let b := match (if s.env.held || !s.env.pll then none else s.smbusValue cmd.toNat) with
      | some (v, w) => (leBytes w v ++ [0xFF, 0xFF]).take n
      | none => List.replicate n 0xFF
    .next { s with smbus := some b }

end Sys2Proof.Machine
end

