-- ==== Sys2Proof/Machine/Dispatch.lean ====
section
/-! DEFINITION. Machine/Dispatch.lean: which meaning each command has, one arm per constructor. -/

namespace Sys2Proof.Machine

def exec (i : Instr) (s : State) : Host.Outcome State Fault Refusal :=
  match i with
  | .registerWrite w a v b good => Sys2Proof.Machine.execRegisterWrite w a v b good s
  | .unalignedAccess f bar2 => Sys2Proof.Machine.execUnalignedAccess f bar2 s
  | .secureAccessRefused w a write => Sys2Proof.Machine.execSecureAccessRefused w a write s
  | .opZeroWrite w a v => Sys2Proof.Machine.execOpZeroWrite w a v s
  | .reservedOpWrite w a v => Sys2Proof.Machine.execReservedOpWrite w a v s
  | .clearFrameArrival n lag b bad => Sys2Proof.Machine.execClearFrameArrival n lag b bad s
  | .lineFrameArrival n lag b bad => Sys2Proof.Machine.execLineFrameArrival n lag b bad s
  | .contextFetchDone sa good => Sys2Proof.Machine.execContextFetchDone sa good s
  | .frameRxEnd id got frags => Sys2Proof.Machine.execFrameRxEnd id got frags s
  | .tongsDispatch id => Sys2Proof.Machine.execTongsDispatch id s
  | .reservationDurable sa => Sys2Proof.Machine.execReservationDurable sa s
  | .icvVerdict id => Sys2Proof.Machine.execIcvVerdict id s
  | .verdictDeadline id => Sys2Proof.Machine.execVerdictDeadline id s
  | .speculativeStart id => Sys2Proof.Machine.execSpeculativeStart id s
  | .framePass id => Sys2Proof.Machine.execFramePass id s
  | .heatRelease id => Sys2Proof.Machine.execHeatRelease id s
  | .transmitSelect n q => Sys2Proof.Machine.execTransmitSelect n q s
  | .frameTxEnd n hard => Sys2Proof.Machine.execFrameTxEnd n hard s
  | .controlFrameOriginate n c b => Sys2Proof.Machine.execControlFrameOriginate n c b s
  | .bypassBucketRefill => Sys2Proof.Machine.execBypassBucketRefill s
  | .policerRefill => Sys2Proof.Machine.execPolicerRefill s
  | .queueSample => Sys2Proof.Machine.execQueueSample s
  | .holdOffExpiry num => Sys2Proof.Machine.execHoldOffExpiry num s
  | .ruleRead v => Sys2Proof.Machine.execRuleRead v s
  | .ruleWrite v => Sys2Proof.Machine.execRuleWrite v s
  | .ruleInvalidate v => Sys2Proof.Machine.execRuleInvalidate v s
  | .ruleReadClear v => Sys2Proof.Machine.execRuleReadClear v s
  | .generationSwap w => Sys2Proof.Machine.execGenerationSwap w s
  | .bypassCapWrite w slot second v => Sys2Proof.Machine.execBypassCapWrite w slot second v s
  | .learnRequest => Sys2Proof.Machine.execLearnRequest s
  | .holdDownExpiry n => Sys2Proof.Machine.execHoldDownExpiry n s
  | .agingSweep => Sys2Proof.Machine.execAgingSweep s
  | .sweepPassEnd => Sys2Proof.Machine.execSweepPassEnd s
  | .rebuildStart w => Sys2Proof.Machine.execRebuildStart w s
  | .rebuildMigrate => Sys2Proof.Machine.execRebuildMigrate s
  | .stashThreshold => Sys2Proof.Machine.execStashThreshold s
  | .pltLookup v => Sys2Proof.Machine.execPltLookup v s
  | .pltInsert v => Sys2Proof.Machine.execPltInsert v s
  | .pltReplace v => Sys2Proof.Machine.execPltReplace v s
  | .pltDelete v => Sys2Proof.Machine.execPltDelete v s
  | .pltReadAddr v => Sys2Proof.Machine.execPltReadAddr v s
  | .pltReadStash v => Sys2Proof.Machine.execPltReadStash v s
  | .pltFlush v => Sys2Proof.Machine.execPltFlush v s
  | .pltFlushDone => Sys2Proof.Machine.execPltFlushDone s
  | .scRead v => Sys2Proof.Machine.execScRead v s
  | .scWrite v => Sys2Proof.Machine.execScWrite v s
  | .saRead v => Sys2Proof.Machine.execSaRead v s
  | .saInstall v => Sys2Proof.Machine.execSaInstall v s
  | .saDelete v => Sys2Proof.Machine.execSaDelete v s
  | .saEnable v => Sys2Proof.Machine.execSaEnable v s
  | .saRetire v => Sys2Proof.Machine.execSaRetire v s
  | .scSwitch v => Sys2Proof.Machine.execScSwitch v s
  | .scSchedule v => Sys2Proof.Machine.execScSchedule v s
  | .scCancel v => Sys2Proof.Machine.execScCancel v s
  | .saRaisePn v => Sys2Proof.Machine.execSaRaisePn v s
  | .saRevoke v => Sys2Proof.Machine.execSaRevoke v s
  | .saStats v => Sys2Proof.Machine.execSaStats v s
  | .saPn v => Sys2Proof.Machine.execSaPn v s
  | .scheduledSwitchDue sc => Sys2Proof.Machine.execScheduledSwitchDue sc s
  | .drainExpiry sa => Sys2Proof.Machine.execDrainExpiry sa s
  | .quarantineExpiry sa => Sys2Proof.Machine.execQuarantineExpiry sa s
  | .knownAnswerTest a good => Sys2Proof.Machine.execKnownAnswerTest a good s
  | .anvilFault a cause => Sys2Proof.Machine.execAnvilFault a cause s
  | .shadowRestore a => Sys2Proof.Machine.execShadowRestore a s
  | .anvReturn w a => Sys2Proof.Machine.execAnvReturn w a s
  | .anvReturnSelfTestDone a good => Sys2Proof.Machine.execAnvReturnSelfTestDone a good s
  | .anvRemove w a => Sys2Proof.Machine.execAnvRemove w a s
  | .anvRemoveDrained a => Sys2Proof.Machine.execAnvRemoveDrained a s
  | .powerGate => Sys2Proof.Machine.execPowerGate s
  | .anvilWake => Sys2Proof.Machine.execAnvilWake s
  | .anvilWakeDone a => Sys2Proof.Machine.execAnvilWakeDone a s
  | .hwmClr => Sys2Proof.Machine.execHwmClr s
  | .stompWindowEnd => Sys2Proof.Machine.execStompWindowEnd s
  | .suspensionEnd n => Sys2Proof.Machine.execSuspensionEnd n s
  | .relResume w n => Sys2Proof.Machine.execRelResume w n s
  | .qRead v => Sys2Proof.Machine.execQRead v s
  | .qWrite v => Sys2Proof.Machine.execQWrite v s
  | .qClrMax v => Sys2Proof.Machine.execQClrMax v s
  | .gateBoundary n => Sys2Proof.Machine.execGateBoundary n s
  | .horizonApply n => Sys2Proof.Machine.execHorizonApply n s
  | .listSwap n => Sys2Proof.Machine.execListSwap n s
  | .gatReadAct v => Sys2Proof.Machine.execGatReadAct v s
  | .gatReadPend v => Sys2Proof.Machine.execGatReadPend v s
  | .gatWritePend v => Sys2Proof.Machine.execGatWritePend v s
  | .gatArm v => Sys2Proof.Machine.execGatArm v s
  | .gatDisarm v => Sys2Proof.Machine.execGatDisarm v s
  | .mergeVerifyDone n good => Sys2Proof.Machine.execMergeVerifyDone n good s
  | .datSet v => Sys2Proof.Machine.execDatSet v s
  | .datStep v => Sys2Proof.Machine.execDatStep v s
  | .datSlew v => Sys2Proof.Machine.execDatSlew v s
  | .datReport v => Sys2Proof.Machine.execDatReport v s
  | .datSlewAbort v => Sys2Proof.Machine.execDatSlewAbort v s
  | .datSlewDone => Sys2Proof.Machine.execDatSlewDone s
  | .ppsInEdge rise q => Sys2Proof.Machine.execPpsInEdge rise q s
  | .todMessage b => Sys2Proof.Machine.execTodMessage b s
  | .sourceLost announce => Sys2Proof.Machine.execSourceLost announce s
  | .datumHoldoverExpiry => Sys2Proof.Machine.execDatumHoldoverExpiry s
  | .freqWrite w v => Sys2Proof.Machine.execFreqWrite w v s
  | .sourceChange w v => Sys2Proof.Machine.execSourceChange w v s
  | .nowLatch => Sys2Proof.Machine.execNowLatch s
  | .ppsOutSecond => Sys2Proof.Machine.execPpsOutSecond s
  | .meridInEdge rise q us => Sys2Proof.Machine.execMeridInEdge rise q us s
  | .meridianEdgeMissing => Sys2Proof.Machine.execMeridianEdgeMissing s
  | .meridianHoldExpiry => Sys2Proof.Machine.execMeridianHoldExpiry s
  | .benchCapture ix rise q => Sys2Proof.Machine.execBenchCapture ix rise q s
  | .benchPop ix => Sys2Proof.Machine.execBenchPop ix s
  | .stakeArm w k v => Sys2Proof.Machine.execStakeArm w k v s
  | .stakeDisarm w k v => Sys2Proof.Machine.execStakeDisarm w k v s
  | .stakeFiring k => Sys2Proof.Machine.execStakeFiring k s
  | .slotAttr v => Sys2Proof.Machine.execSlotAttr v s
  | .slotImport v => Sys2Proof.Machine.execSlotImport v s
  | .slotGenerate v => Sys2Proof.Machine.execSlotGenerate v s
  | .slotDerive v => Sys2Proof.Machine.execSlotDerive v s
  | .slotExport v => Sys2Proof.Machine.execSlotExport v s
  | .slotRevoke v => Sys2Proof.Machine.execSlotRevoke v s
  | .revocationSweepDone => Sys2Proof.Machine.execRevocationSweepDone s
  | .slotDelete v => Sys2Proof.Machine.execSlotDelete v s
  | .attrSet v => Sys2Proof.Machine.execAttrSet v s
  | .sakUnwrap v => Sys2Proof.Machine.execSakUnwrap v s
  | .sakFromSlot v => Sys2Proof.Machine.execSakFromSlot v s
  | .mkaKdf v => Sys2Proof.Machine.execMkaKdf v s
  | .mkaIcv v => Sys2Proof.Machine.execMkaIcv v s
  | .mkaSakWrap v => Sys2Proof.Machine.execMkaSakWrap v s
  | .mkaSakUnwrap v => Sys2Proof.Machine.execMkaSakUnwrap v s
  | .macGen v => Sys2Proof.Machine.execMacGen v s
  | .macVerify v => Sys2Proof.Machine.execMacVerify v s
  | .hrtSign v => Sys2Proof.Machine.execHrtSign v s
  | .handoffDrop v => Sys2Proof.Machine.execHandoffDrop v s
  | .importPubkey v => Sys2Proof.Machine.execImportPubkey v s
  | .quenchSlot v => Sys2Proof.Machine.execQuenchSlot v s
  | .quenchParcel v => Sys2Proof.Machine.execQuenchParcel v s
  | .quenchErase v => Sys2Proof.Machine.execQuenchErase v s
  | .quenchPurge v => Sys2Proof.Machine.execQuenchPurge v s
  | .quenchComplete good => Sys2Proof.Machine.execQuenchComplete good s
  | .handoffExpiry e => Sys2Proof.Machine.execHandoffExpiry e s
  | .storeCommitDone good => Sys2Proof.Machine.execStoreCommitDone good s
  | .randomRead w => Sys2Proof.Machine.execRandomRead w s
  | .trngHealthFail => Sys2Proof.Machine.execTrngHealthFail s
  | .trngRecover n => Sys2Proof.Machine.execTrngRecover n s
  | .drbgReseed => Sys2Proof.Machine.execDrbgReseed s
  | .lockstepDivergence => Sys2Proof.Machine.execLockstepDivergence s
  | .recoveryErase good => Sys2Proof.Machine.execRecoveryErase good s
  | .recoveryWrite good => Sys2Proof.Machine.execRecoveryWrite good s
  | .recoveryBoot agree => Sys2Proof.Machine.execRecoveryBoot agree s
  | .firmwareBoot x => Sys2Proof.Machine.execFirmwareBoot x s
  | .imageStage d => Sys2Proof.Machine.execImageStage d s
  | .imageVerify d => Sys2Proof.Machine.execImageVerify d s
  | .commit d => Sys2Proof.Machine.execCommit d s
  | .commitAt d => Sys2Proof.Machine.execCommitAt d s
  | .commitCancel d => Sys2Proof.Machine.execCommitCancel d s
  | .prestage => Sys2Proof.Machine.execPrestage s
  | .commitSwitch capsBad => Sys2Proof.Machine.execCommitSwitch capsBad s
  | .scheduledCommitUnsync => Sys2Proof.Machine.execScheduledCommitUnsync s
  | .poststage => Sys2Proof.Machine.execPoststage s
  | .sessionOpen d => Sys2Proof.Machine.execSessionOpen d s
  | .sessionConfirm d => Sys2Proof.Machine.execSessionConfirm d s
  | .sessionClose d => Sys2Proof.Machine.execSessionClose d s
  | .sessionIdleTimeout f => Sys2Proof.Machine.execSessionIdleTimeout f s
  | .cmdNop d => Sys2Proof.Machine.execCmdNop d s
  | .challenge d => Sys2Proof.Machine.execChallenge d s
  | .attest d => Sys2Proof.Machine.execAttest d s
  | .certGet d => Sys2Proof.Machine.execCertGet d s
  | .fwStage d => Sys2Proof.Machine.execFwStage d s
  | .fwUpdate d agree => Sys2Proof.Machine.execFwUpdate d agree s
  | .fwConfirm d => Sys2Proof.Machine.execFwConfirm d s
  | .trialExpiry => Sys2Proof.Machine.execTrialExpiry s
  | .takeOwnership d agree b => Sys2Proof.Machine.execTakeOwnership d agree b s
  | .transferOwner d agree b => Sys2Proof.Machine.execTransferOwner d agree b s
  | .sealDevice d agree b => Sys2Proof.Machine.execSealDevice d agree b s
  | .retireDevice d agree b => Sys2Proof.Machine.execRetireDevice d agree b s
  | .revokeAuthKey d => Sys2Proof.Machine.execRevokeAuthKey d s
  | .debugUnlock d => Sys2Proof.Machine.execDebugUnlock d s
  | .jtagInstruction ix => Sys2Proof.Machine.execJtagInstruction ix s
  | .callGateRequest a v => Sys2Proof.Machine.execCallGateRequest a v s
  | .serviceWatchdogExpiry => Sys2Proof.Machine.execServiceWatchdogExpiry s
  | .parcelAssign d => Sys2Proof.Machine.execParcelAssign d s
  | .parcelRelease d => Sys2Proof.Machine.execParcelRelease d s
  | .parcelReset d => Sys2Proof.Machine.execParcelReset d s
  | .parcelResetDone p => Sys2Proof.Machine.execParcelResetDone p s
  | .parcelResetTimeout p => Sys2Proof.Machine.execParcelResetTimeout p s
  | .parcelFreeze d => Sys2Proof.Machine.execParcelFreeze d s
  | .parcelFrozen p => Sys2Proof.Machine.execParcelFrozen p s
  | .freezeTimeout p => Sys2Proof.Machine.execFreezeTimeout p s
  | .parcelThaw d => Sys2Proof.Machine.execParcelThaw d s
  | .parcelSave d => Sys2Proof.Machine.execParcelSave d s
  | .parcelRestore d img readOk => Sys2Proof.Machine.execParcelRestore d img readOk s
  | .parcelWindowWrite p off v => Sys2Proof.Machine.execParcelWindowWrite p off v s
  | .regRead d => Sys2Proof.Machine.execRegRead d s
  | .regWrite d => Sys2Proof.Machine.execRegWrite d s
  | .counterRead d => Sys2Proof.Machine.execCounterRead d s
  | .counterClear d => Sys2Proof.Machine.execCounterClear d s
  | .fbRead d => Sys2Proof.Machine.execFbRead d s
  | .fbClear d => Sys2Proof.Machine.execFbClear d s
  | .badOpcode d op => Sys2Proof.Machine.execBadOpcode d op s
  | .cmdTailWrite f v => Sys2Proof.Machine.execCmdTailWrite f v s
  | .cmdErrClear f v => Sys2Proof.Machine.execCmdErrClear f v s
  | .ringEnable f v => Sys2Proof.Machine.execRingEnable f v s
  | .msgHeadWrite f v => Sys2Proof.Machine.execMsgHeadWrite f v s
  | .functionLevelReset f => Sys2Proof.Machine.execFunctionLevelReset f s
  | .linkStateChange speed width l0 aspm => Sys2Proof.Machine.execLinkStateChange speed width l0 aspm s
  | .conventionalReset => Sys2Proof.Machine.execConventionalReset s
  | .msixUnmask f v mask => Sys2Proof.Machine.execMsixUnmask f v mask s
  | .coalescingExpiry f v => Sys2Proof.Machine.execCoalescingExpiry f v s
  | .temperRead m line dram => Sys2Proof.Machine.execTemperRead m line dram s
  | .temperWrite m line off b dram => Sys2Proof.Machine.execTemperWrite m line off b dram s
  | .patrolScrubLine line dram => Sys2Proof.Machine.execPatrolScrubLine line dram s
  | .tmpScrubStart w v => Sys2Proof.Machine.execTmpScrubStart w v s
  | .eccScrubWord mem addr find use => Sys2Proof.Machine.execEccScrubWord mem addr find use s
  | .eccScrubStart w v => Sys2Proof.Machine.execEccScrubStart w v s
  | .eccLogClear w v => Sys2Proof.Machine.execEccLogClear w v s
  | .eccInjectArm w v addr => Sys2Proof.Machine.execEccInjectArm w v addr s
  | .tieHello seq serial strap fw cfg kcv => Sys2Proof.Machine.execTieHello seq serial strap fw cfg kcv s
  | .tieHeartbeat seq role sync ovf done marks => Sys2Proof.Machine.execTieHeartbeat seq role sync ovf done marks s
  | .tieBlock seq n c num digest marks => Sys2Proof.Machine.execTieBlock seq n c num digest marks s
  | .tieMirror seq m => Sys2Proof.Machine.execTieMirror seq m s
  | .tieSnapshot seq items last => Sys2Proof.Machine.execTieSnapshot seq items last s
  | .tieFault seq cause => Sys2Proof.Machine.execTieFault seq cause s
  | .tieSelfcheck seq pass ago => Sys2Proof.Machine.execTieSelfcheck seq pass ago s
  | .tieSwap seq t => Sys2Proof.Machine.execTieSwap seq t s
  | .tieRealign seq which t => Sys2Proof.Machine.execTieRealign seq which t s
  | .tiePtp seq e => Sys2Proof.Machine.execTiePtp seq e s
  | .tieMessageError lane => Sys2Proof.Machine.execTieMessageError lane s
  | .heartbeatSend => Sys2Proof.Machine.execHeartbeatSend s
  | .heartbeatLoss => Sys2Proof.Machine.execHeartbeatLoss s
  | .tieHoldInChange asserted => Sys2Proof.Machine.execTieHoldInChange asserted s
  | .holdWaitDone => Sys2Proof.Machine.execHoldWaitDone s
  | .holdTimerExpiry => Sys2Proof.Machine.execHoldTimerExpiry s
  | .tieLinkChange sync aligned skews => Sys2Proof.Machine.execTieLinkChange sync aligned skews s
  | .formationTimeout => Sys2Proof.Machine.execFormationTimeout s
  | .digestTimeout n c => Sys2Proof.Machine.execDigestTimeout n c s
  | .realignTime => Sys2Proof.Machine.execRealignTime s
  | .selfCheckDone weak => Sys2Proof.Machine.execSelfCheckDone weak s
  | .takeoverComplete => Sys2Proof.Machine.execTakeoverComplete s
  | .tieCtlSwap w => Sys2Proof.Machine.execTieCtlSwap w s
  | .autoSwap => Sys2Proof.Machine.execAutoSwap s
  | .swapInstant => Sys2Proof.Machine.execSwapInstant s
  | .swapComplete => Sys2Proof.Machine.execSwapComplete s
  | .tieCtlRealign w => Sys2Proof.Machine.execTieCtlRealign w s
  | .failOverRestart b => Sys2Proof.Machine.execFailOverRestart b s
  | .monitorAlarm ix v crossing => Sys2Proof.Machine.execMonitorAlarm ix v crossing s
  | .monitorWarning ix v => Sys2Proof.Machine.execMonitorWarning ix v s
  | .monitorReturn ix v => Sys2Proof.Machine.execMonitorReturn ix v s
  | .responseRequest => Sys2Proof.Machine.execResponseRequest s
  | .doubledDecisionSecond agree => Sys2Proof.Machine.execDoubledDecisionSecond agree s
  | .evidenceProgrammed => Sys2Proof.Machine.execEvidenceProgrammed s
  | .batteryAlarm k lapse => Sys2Proof.Machine.execBatteryAlarm k lapse s
  | .vbatLoss => Sys2Proof.Machine.execVbatLoss s
  | .hourlyCommit good => Sys2Proof.Machine.execHourlyCommit good s
  | .operatingMinute => Sys2Proof.Machine.execOperatingMinute s
  | .environmentSample m => Sys2Proof.Machine.execEnvironmentSample m s
  | .samplePairTimeout => Sys2Proof.Machine.execSamplePairTimeout s
  | .oneShotArm w v => Sys2Proof.Machine.execOneShotArm w v s
  | .samplerRestart w v => Sys2Proof.Machine.execSamplerRestart w v s
  | .hselWrite w h v => Sys2Proof.Machine.execHselWrite w h v s
  | .bandwidthWindowEnd => Sys2Proof.Machine.execBandwidthWindowEnd s
  | .windowUsWrite w v => Sys2Proof.Machine.execWindowUsWrite w v s
  | .counterLowRead m ix => Sys2Proof.Machine.execCounterLowRead m ix s
  | .bandwidthRead n => Sys2Proof.Machine.execBandwidthRead n s
  | .laneSignalChange ix sig cdr => Sys2Proof.Machine.execLaneSignalChange ix sig cdr s
  | .trainingDone n => Sys2Proof.Machine.execTrainingDone n s
  | .trainingTimeout n => Sys2Proof.Machine.execTrainingTimeout n s
  | .alignmentDone n => Sys2Proof.Machine.execAlignmentDone n s
  | .alignmentTimeout n => Sys2Proof.Machine.execAlignmentTimeout n s
  | .linkDown n cause => Sys2Proof.Machine.execLinkDown n cause s
  | .remoteFaultChange n on => Sys2Proof.Machine.execRemoteFaultChange n on s
  | .laneWakeDone ix rx => Sys2Proof.Machine.execLaneWakeDone ix rx s
  | .laneSleepWrite w ix v => Sys2Proof.Machine.execLaneSleepWrite w ix v s
  | .testFieldWrite w ix prbs v => Sys2Proof.Machine.execTestFieldWrite w ix prbs v s
  | .prbsLockChange ix lock => Sys2Proof.Machine.execPrbsLockChange ix lock s
  | .prbsInj ix => Sys2Proof.Machine.execPrbsInj ix s
  | .prbsClr ix => Sys2Proof.Machine.execPrbsClr ix s
  | .qualUpdate ix err => Sys2Proof.Machine.execQualUpdate ix err s
  | .portRestart w n => Sys2Proof.Machine.execPortRestart w n s
  | .fecInterval n corr uncorr sym bad => Sys2Proof.Machine.execFecInterval n corr uncorr sym bad s
  | .portOpen k => Sys2Proof.Machine.execPortOpen k s
  | .powerOnReset written torn => Sys2Proof.Machine.execPowerOnReset written torn s
  | .chipReset w b => Sys2Proof.Machine.execChipReset w b s
  | .watchdogReset b => Sys2Proof.Machine.execWatchdogReset b s
  | .porstNRelease strap refclk b => Sys2Proof.Machine.execPorstNRelease strap refclk b s
  | .smbusRead cmd word write => Sys2Proof.Machine.execSmbusRead cmd word write s
  | .policerWrite w p line second v => Sys2Proof.Machine.execPolicerWrite w p line second v s
  | .takeoverDecisionRetry => Sys2Proof.Machine.execTakeoverDecisionRetry s
  | .controlQueueDequeue => Sys2Proof.Machine.execControlQueueDequeue s
  | .descriptorReadError f => Sys2Proof.Machine.execDescriptorReadError f s
  | .messageWriteError f => Sys2Proof.Machine.execMessageWriteError f s
  | .aerUncorrectableError f status => Sys2Proof.Machine.execAerUncorrectableError f status s
  | .serdesReferenceChange r present => Sys2Proof.Machine.execSerdesReferenceChange r present s
  | .corePllLock b => Sys2Proof.Machine.execCorePllLock b s
  | .stakePulseEnd k => Sys2Proof.Machine.execStakePulseEnd k s
  | .ppsOutPulseEnd => Sys2Proof.Machine.execPpsOutPulseEnd s

end Sys2Proof.Machine
end

