-- ==== Sys2Proof/Machine/Tick.lean ====
section
/-! DEFINITION. Machine/Tick.lean: what one core cycle does with no command waiting (log entry 3). -/

namespace Sys2Proof.Machine

/-- HOLD_LEFT of a Meridian in HOLDOVER (R221). -/
def State.merLeft (s : State) : State :=
  if s.merState = 3 then s.setFld F.MER_STATUS_HOLD_LEFT (max 1 (s.fld F.MER_HOLD_HOLD_CYCLES) - s.merHeld) else s

/-- The battery seconds counter, each 1.5 × 10^9 core cycles (R417). -/
def State.batTick (s : State) : State :=
  if s.cyc.toNat % cycS = 0 then s.setFld F.ENV_BAT_SEC_SECONDS (s.fld F.ENV_BAT_SEC_SECONDS + 1) else s

/-- One core cycle, once the core PLL has locked (R7, R209): the cycle count and Datum, the gates' horizon, shapers, anvils'
reserve and idle times, Meridian's holdover, battery seconds. -/
def State.tick (s : State) : State :=
  if s.env.held || !s.env.pll then s else ((((s.advance.layAll).shapeTick).anvTick).merLeft).batTick

end Sys2Proof.Machine
end

