-- ==== Sys2Proof/Safety.lean ====
section
/-! DEFINITION. Safety.lean: what counts as a safe run, in the terms the claims use: one-time memory only ever gains bits, and its contents stay
within their bounds; what a command changes and leaves (`Only`), that it completes (`Completes`), and how commands reach the block and are
answered. -/

namespace Sys2Proof.Machine

/-- One-time memory within its bounds (R251, R266, R415). -/
structure Otp.Ok (o : Otp) : Prop where
  storeLoss : o.storeLoss ≤ 64
  evidence : o.evidence ≤ 2048
  svnFloor : o.svnFloor ≤ 128

/-- Every bit programmed in `a` is programmed in `b` (R263, R266, R290, R415). -/
structure Otp.Le (a b : Otp) : Prop where
  storeLoss : a.storeLoss ≤ b.storeLoss
  evidence : a.evidence ≤ b.evidence
  svnFloor : a.svnFloor ≤ b.svnFloor
  owned : a.owned = true → b.owned = true
  isSealed : a.isSealed = true → b.isSealed = true
  retired : a.retired = true → b.retired = true
  fwRevoked : a.fwRevoked &&& b.fwRevoked = a.fwRevoked

/-! ## What a command leaves as it was -/

/-- The parts of the state, as a frame names them: register blocks by number (R19; of the per-function
host registers, MSG_TAIL and MSG_LOST are 17 and the others 16), and every field of State that is not a register; `life` is operating minutes, power-on resets and boots, `link` the PCIe link. -/
inductive Part where
  | block (b : Nat)
  | pending | cnt | cyc | datum | free | holdOff | fns | waits | fbk | otp | saStat | qDrop | requests | rules | bypass | bypAt | polAt | sampAt | dat | plat
  | sec | hrt | frames | nextFrame | nextEnq | blw | gates | prt | anvIdle | anvKat | anvRet | anvWake | env | tie | ecc | tmp | par | ctl | smbus
  | life | link
  deriving DecidableEq, Repr

/-- The block of the register at key `a`; MSG_TAIL and MSG_LOST stand at offsets 0x30 and 0x34 of the page of a function (R347). -/
def blockOf (a : Nat) : Nat := if a < 0x1000000 then a / 0x100000 else if a % 4096 = 0x30 ∨ a % 4096 = 0x34 then 17 else 16

/-- The part is the same in both states. -/
def Part.same (s t : State) : Part → Prop
  | .block b => ∀ a, blockOf a = b → t.word a = s.word a
  | .pending => t.pending = s.pending
  | .cnt => t.cnt = s.cnt
  | .cyc => t.cyc = s.cyc
  | .datum => t.datum = s.datum
  | .free => t.free = s.free
  | .holdOff => t.holdOff = s.holdOff
  | .fns => t.fns = s.fns
  | .waits => t.waits = s.waits
  | .fbk => t.fbk = s.fbk
  | .otp => t.otp = s.otp
  | .saStat => t.saStat = s.saStat
  | .qDrop => t.qDrop = s.qDrop
  | .requests => t.requests = s.requests
  | .rules => t.rules = s.rules
  | .bypass => t.bypass = s.bypass
  | .bypAt => t.bypAt = s.bypAt
  | .polAt => t.polAt = s.polAt
  | .sampAt => t.sampAt = s.sampAt
  | .dat => t.dat = s.dat
  | .plat => t.plat = s.plat
  | .sec => t.sec = s.sec
  | .hrt => t.hrt = s.hrt
  | .frames => t.frames = s.frames
  | .nextFrame => t.nextFrame = s.nextFrame
  | .nextEnq => t.nextEnq = s.nextEnq
  | .blw => t.blw = s.blw
  | .gates => t.gates = s.gates
  | .prt => t.prt = s.prt
  | .anvIdle => t.anvIdle = s.anvIdle
  | .anvKat => t.anvKat = s.anvKat
  | .anvRet => t.anvRet = s.anvRet
  | .anvWake => t.anvWake = s.anvWake
  | .env => t.env = s.env
  | .tie => t.tie = s.tie
  | .ecc => t.ecc = s.ecc
  | .tmp => t.tmp = s.tmp
  | .par => t.par = s.par
  | .ctl => t.ctl = s.ctl
  | .smbus => t.smbus = s.smbus
  | .life => t.opMin = s.opMin ∧ t.powerCycles = s.powerCycles ∧ t.boots = s.boots
  | .link => t.linkUp = s.linkUp ∧ t.linkSpeed = s.linkSpeed ∧ t.linkWidth = s.linkWidth

/-- From `s` to `t` only the parts `ps` and the register words `ks` may have changed. -/
structure Only (ps : List Part) (ks : List Nat) (s t : State) : Prop where
  word : ∀ a, a ∉ ks → .block (blockOf a) ∉ ps → t.word a = s.word a
  part : ∀ p, p ∉ ps → (∀ b, p ≠ .block b) → p.same s t

/-- What raising events changes beside what raised them: the log, the message rings, and MSG_TAIL and MSG_LOST of the rings
(R339, R341, R431). -/
def evts : List Part := [.fbk, .fns, .block 17]

/-- The registers of the security log that an event's record moves (R433). -/
def evtKeys : List Nat := [F.FBK_STATUS_SEC_USED.addr, F.FBK_SEC_OVF_OVERFLOW.addr]

/-! ## Commands by descriptor -/

/-- A descriptor that its function's ring fetches, well formed and unsigned, of a class its session holds, under that session's MAC with a
fresh SEQ, on a chip that serves the class (R329, R331 steps 1 to 6, R280 to R283, R289, R391). -/
structure Sent (s : State) (d : Desc) (opcode : Nat) (cls : Cls) (q : Session) : Prop where
  fetches : ringFetches s d.fn.val = true
  clean : d.rsvd3 = 0 ∧ d.rsvd44 = 0 ∧ d.flags = 0
  read : d.readOk = true
  session : (s.fn d.fn.val).session = some q
  sessionId : q.id = d.sessionId.toNat
  mac : descMacUnder d opcode q.kCmd = d.mac.toNat
  fresh : ∀ l, q.seqLast = some l → l < d.seq.toNat
  room : q.accepted + 1 < 2 ^ 32
  classHeld : cls ≠ .observe → q.cls ≠ 0
  serves : cls ≠ .observe → s.isStandby = false ∧ s.otp.retired = false

/-- A SECURE descriptor that its function's ring fetches, well formed and signed, by an OPERATE session under its MAC with a fresh SEQ and
a nonce that CHALLENGE gave less than 300 s ago, on a chip that serves it (R331 steps 1 to 7, R333, R284). -/
structure SentSigned (s : State) (d : Desc) (opcode : Nat) (q : Session) (n : Nonce) : Prop where
  fetches : ringFetches s d.fn.val = true
  clean : d.rsvd3 = 0 ∧ d.rsvd44 = 0 ∧ d.flags = 1
  signed : 32 + sigBlockLen ≤ d.payload.length
  read : d.readOk = true
  session : (s.fn d.fn.val).session = some q
  sessionId : q.id = d.sessionId.toNat
  mac : descMacUnder d opcode q.kCmd = d.mac.toNat
  fresh : ∀ l, q.seqLast = some l → l < d.seq.toNat
  room : q.accepted + 1 < 2 ^ 32
  classHeld : q.cls ≠ 0
  serves : s.isStandby = false ∧ s.otp.retired = false
  nonce : n ∈ (s.fn d.fn.val).nonces ∧ n.bytes = descNonce d ∧ s.elapsed n.at_ < 300 * cycS

/-- The command's signature verifies under the authority the life-cycle state asks for (R263, R264, R284). -/
def Authorised (s : State) (d : Desc) (opcode : Nat) : Prop :=
  s.otp.verify s.otp.ownerAuthority (label "ZGD cmd") (descHeader d s.otp opcode) (descSigBlock d) = .ok

/-- The state in which such a command runs: its descriptor consumed, its session having accepted it. -/
def State.taken (s : State) (d : Desc) (q : Session) : State :=
  (s.fetched d.fn.val).setFn d.fn.val { s.fn d.fn.val with session := some (q.accept d s.cyc) }

/-- The last entry on the function's message ring, of a size that R328 admits, is the response to this descriptor with this status (R338). -/
def Answered (d : Desc) (opcode status : Nat) (t : State) : Prop :=
  let n := t.fld (F.R2_MSG_SIZE d.fn.val)
  0 < n → n ≤ 4096 →
  let e := tabGet Msg.blank (t.fn d.fn.val).ring ((t.fld (F.R2_MSG_TAIL d.fn.val) + 2 * n - 1) % (2 * n) % n)
  e.kind = 1 ∧ e.code = opcode ∧ e.status = status ∧ e.tagScope = d.tag.toNat

/-- Every command that a descriptor carries, with its opcode (R334, R335); what it has beside the descriptor is given. -/
def ringCommands (d : Desc) (agree readOk : Bool) (b : BootIn) (img : List Byte) : List (Nat × Instr) :=
  [(0x0001, .sessionOpen d), (0x0002, .sessionConfirm d), (0x0003, .sessionClose d), (0x0004, .cmdNop d), (0x0005, .challenge d),
   (0x0100, .attest d), (0x0101, .certGet d), (0x0200, .regRead d), (0x0201, .regWrite d), (0x0202, .counterRead d),
   (0x0203, .counterClear d), (0x0204, .fbRead d), (0x0205, .fbClear d), (0x0300, .imageStage d), (0x0301, .imageVerify d),
   (0x0302, .commit d), (0x0303, .commitAt d), (0x0304, .commitCancel d), (0x0310, .fwStage d), (0x0311, .fwUpdate d agree),
   (0x0312, .fwConfirm d), (0x0400, .takeOwnership d agree b), (0x0401, .transferOwner d agree b), (0x0402, .sealDevice d agree b),
   (0x0403, .retireDevice d agree b), (0x0404, .revokeAuthKey d), (0x0405, .debugUnlock d), (0x0500, .parcelAssign d),
   (0x0501, .parcelRelease d), (0x0502, .parcelReset d), (0x0503, .parcelFreeze d), (0x0504, .parcelThaw d),
   (0x0505, .parcelSave d), (0x0506, .parcelRestore d img readOk)] ++
  [(0x1301, .ruleRead (.ring d)), (0x1302, .ruleWrite (.ring d)), (0x1303, .ruleInvalidate (.ring d)),
   (0x1304, .ruleReadClear (.ring d))] ++
  [(0x1401, .pltLookup (.ring d)), (0x1402, .pltInsert (.ring d)), (0x1403, .pltReplace (.ring d)), (0x1404, .pltDelete (.ring d)),
   (0x1405, .pltReadAddr (.ring d)), (0x1406, .pltReadStash (.ring d)), (0x1407, .pltFlush (.ring d))] ++
  [(0x1501, .scRead (.ring d)), (0x1502, .scWrite (.ring d)), (0x1503, .saRead (.ring d)), (0x1504, .saInstall (.ring d)),
   (0x1505, .saDelete (.ring d)), (0x1506, .saEnable (.ring d)), (0x1507, .saRetire (.ring d)), (0x1508, .scSwitch (.ring d)),
   (0x1509, .scSchedule (.ring d)), (0x150A, .scCancel (.ring d)), (0x150B, .saRaisePn (.ring d)), (0x150C, .saRevoke (.ring d)),
   (0x150D, .saStats (.ring d)), (0x150E, .saPn (.ring d))] ++
  [(0x1701, .qRead (.ring d)), (0x1702, .qWrite (.ring d)), (0x1703, .qClrMax (.ring d))] ++
  [(0x1801, .gatReadAct (.ring d)), (0x1802, .gatReadPend (.ring d)), (0x1803, .gatWritePend (.ring d)),
   (0x1804, .gatArm (.ring d)), (0x1805, .gatDisarm (.ring d))] ++
  [(0x1901, .datSet (.ring d)), (0x1902, .datStep (.ring d)), (0x1903, .datSlew (.ring d)), (0x1904, .datReport (.ring d)),
   (0x1905, .datSlewAbort (.ring d))] ++
  [(0x1A01, .slotAttr (.ring d)), (0x1A02, .slotImport (.ring d)), (0x1A03, .slotGenerate (.ring d)),
   (0x1A04, .slotDerive (.ring d)), (0x1A05, .slotExport (.ring d)), (0x1A06, .slotRevoke (.ring d)),
   (0x1A07, .slotDelete (.ring d)), (0x1A08, .attrSet (.ring d)), (0x1A09, .sakUnwrap (.ring d)), (0x1A0A, .sakFromSlot (.ring d)),
   (0x1A0B, .mkaKdf (.ring d)), (0x1A0C, .mkaIcv (.ring d)), (0x1A0D, .mkaSakWrap (.ring d)), (0x1A0E, .mkaSakUnwrap (.ring d))] ++
  [(0x1A0F, .macGen (.ring d)), (0x1A0F, .macVerify (.ring d)), (0x1A0F, .hrtSign (.ring d)), (0x1A10, .handoffDrop (.ring d)),
   (0x1A11, .importPubkey (.ring d)), (0x1A12, .quenchSlot (.ring d)), (0x1A12, .quenchParcel (.ring d)),
   (0x1A12, .quenchErase (.ring d)), (0x1A12, .quenchPurge (.ring d))]

/-- The form of a block command's payload, with room for its response: INDEX, ARG, a count of at most `len` window words, those words
(R335, R336). -/
structure BlockForm (d : Desc) (len : Nat) : Prop where
  long : 16 ≤ (descBody d).length
  words : leAt (descBody d) 8 2 ≤ len
  exact : (descBody d).length = 16 + 4 * leAt (descBody d) 8 2
  zero : leAt (descBody d) 10 6 = 0
  room : 16 + 4 * len ≤ d.rspLen.toNat
  writeOk : d.writeOk = true

/-- The response of a block command: code, result, and the window (R336). -/
def blockRsp (code result : Nat) (win : List Word) : List Byte :=
  leBytes 1 code ++ zeros 3 ++ leBytes 4 result ++ leBytes 2 win.length ++ zeros 6 ++ wordBytes win

/-- The words of a block's window once the payload has filled it (R335). -/
def winFilled (s : State) (d : Desc) (win len : Nat) : List Word := (s.setWords win (blkWords (descBody d))).words win len

/-- Keys of `n` consecutive registers. -/
def winKeys (a n : Nat) : List Nat := (List.range n).map fun i => a + 4 * i

/-- What fetching and answering a command changes. -/
def hostParts : List Part := [.fns, .block 16, .block 17]

/-- The newest record of the operational log is of this event and scope (R431, R432). -/
def Logged (num scope : Nat) (t : State) : Prop := ∃ r, t.fbk.opLog.getLast? = some r ∧ r.num = num ∧ r.scope = scope

/-- The first record that the security log gained is of this event and scope, where the log had room (R431, R433). -/
def LoggedSec (num scope : Nat) (s t : State) : Prop :=
  s.fbk.secLog.length < 4096 → ∃ r, t.fbk.secLog[s.fbk.secLog.length]? = some r ∧ r.num = num ∧ r.scope = scope

/-- The command completes, and the state it leaves meets `P`. -/
def Completes (c : Instr) (s : State) (P : State → Prop) : Prop := ∃ t, exec c s = .next t ∧ P t

/-- What a refused command changes (R286): its nonce and session, the response, the log, and the count of refusals. -/
def refusedParts : List Part := [.fns, .block 16, .block 17, .fbk, .cnt, .holdOff]

/-- A SECURE command completes: signed as it must be, with the effect `P`; otherwise refused SIG_BAD or KEY_REVOKED, with none of it; in
either case only the parts `ps` and the words `ks` change (R284, R286). -/
def CompletesSigned (c : Instr) (s : State) (d : Desc) (opcode : Nat) (ps : List Part) (ks : List Nat) (P : State → Prop) : Prop :=
  Completes c s fun t => (Authorised s d opcode → P t) ∧
    (¬ Authorised s d opcode → (Answered d opcode 0x85 t ∨ Answered d opcode 0x87 t) ∧ Only refusedParts evtKeys s t) ∧ Only ps ks s t

/-! ## Block commands, by register or by descriptor (R323, R335) -/

/-- A block that takes commands: its number in the opcode, the OP, BUSY and INDEX fields of its command register, what stands for ARG where
the register is written, and its window (R335). -/
structure BlockWay where
  n : Nat
  op : Fld
  busy : Fld
  idx : Fld
  arg : State → Word → Nat := fun _ _ => 0
  win : Nat := 0
  len : Nat := 0

/-- Command `op` of a block reaches it with INDEX `idx`, ARG `arg` and the window words `words`, and finds it idle: by a write of its command
register from a world that may write it, or by a descriptor of class `cls` whose session's parcels hold those it names. -/
def Way (b : BlockWay) (op : Nat) (cls : Cls) (parcels : List Nat) (s : State) (v : Via) (idx arg : Nat) (words : List Word) : Prop :=
  s.flag b.busy = false ∧
  match v with
  | .reg w word => (w.isSecure = true ∨ secureReg b.op.addr = false) ∧ bitsOf word b.op.lo b.op.width = op ∧
      idx = bitsOf word b.idx.lo b.idx.width ∧ arg = b.arg s word ∧ words = s.words b.win b.len
  | .ring d => BlockForm d b.len ∧ idx = blkIndex (descBody d) % 2 ^ b.idx.width ∧ blkIndex (descBody d) < 2 ^ b.idx.width ∧ arg = blkArg (descBody d) ∧
      words = winFilled s d b.win b.len ∧
      ∃ q : Session, (∀ p ∈ parcels, q.parcels.getLsbD p = true ∧ (d.fn.val = 0 ∨ p = d.fn.val)) ∧
        (cls ≠ .secure → Sent s d (0x1000 + 0x100 * b.n + op) cls q) ∧
        (cls = .secure → d.agree = true ∧ Authorised s d (0x1000 + 0x100 * b.n + op) ∧
          ∃ n : Nonce, SentSigned s d (0x1000 + 0x100 * b.n + op) q n)

/-- A command has been answered: its code and result in the block's own registers, as `reg` says, where a register write brought it; in its
response, with the window as it then stands, where a descriptor did (R336, R337). -/
def Told (b : BlockWay) (op : Nat) (v : Via) (reg : Prop) (code result : Nat) (t : State) : Prop :=
  match v with
  | .reg _ _ => reg
  | .ring d => Answered d (0x1000 + 0x100 * b.n + op) (if code = 0 then 0 else 1) t ∧
      (t.fn d.fn.val).rspBuf = blockRsp code result (t.words b.win b.len)

/-- What bringing a command to its block changes beside the command's effect. -/
def wayParts : Via → List Part
  | .reg _ _ => []
  | .ring _ => .fbk :: hostParts

/-- Its command register, or its window and the security log's. -/
def wayKeys (b : BlockWay) : Via → List Nat
  | .reg _ _ => [b.op.addr]
  | .ring _ => winKeys b.win b.len ++ evtKeys

/-- The command registers of Traverse, Plat, SEC, Bellows, the gates, Datum and Hearth. -/
def trvWay : BlockWay :=
  { n := 3, op := F.TRV_RULE_CMD_OP, busy := F.TRV_RULE_CMD_BUSY, idx := F.TRV_RULE_CMD_INDEX, win := trvWin, len := 20 }
def secWay : BlockWay :=
  { n := 5, op := F.SEC_CMD_OP, busy := F.SEC_CMD_BUSY, idx := F.SEC_CMD_INDEX, arg := fun s _ => s.fld F.SEC_HANDOFF, win := secWin, len := 32 }

/-- PLT_CMD: its fields BANK, BUCKET and WAY stand for ARG, and there is no INDEX. -/
def pltWay : BlockWay :=
  { n := 4, op := F.PLT_CMD_OP, busy := F.PLT_CMD_BUSY, idx := ⟨F.PLT_CMD_OP.addr, 0, 32⟩, arg := fun _ w => w.toNat, win := pltWin, len := 4 }

/-- The parcel to which a Plat command is confined: that of the virtual function whose ring carries it (R323). -/
def viaVf : Via → Option Nat
  | .reg _ _ => none
  | .ring d => if d.fn.val = 0 then none else some d.fn.val

/-- The entry that the window gives a Plat command; its PARCEL is a virtual function's own (R323). -/
def windowEntry (v : Via) (words : List Word) : BitVec 128 :=
  let e := BitVec.ofNat 128 (leNat (wordBytes words))
  match viaVf v with
  | none => e
  | some p => pltPut e 123 118 p

/-- The key's lookup meets no entry whose parity fails. -/
def State.soundLookup (s : State) (k : PKey) : Prop := ∀ l ∈ s.pltPlaces k, pltValid (s.pltAt l) = true → pltOk (s.pltAt l) = true

/-- A FLUSH takes this entry: valid, static only where STATIC is set, matching MODE's selector, and of the virtual function's own parcel, for which
MODE 0 is MODE 1 and PARCEL is its own (R81, R323). -/
def flushes (w : Word) (vf : Option Nat) (e : BitVec 128) : Bool :=
  pltValid e && (!pltStatic e || bitsOf w 31 1 == 1) &&
  (match vf with
   | some p => pltParcel e == p && (bitsOf w 28 3 == 0 || bitsOf w 28 3 == 1 || (bitsOf w 28 3 == 2 && pltPort e == bitsOf w 16 6) ||
       (bitsOf w 28 3 == 3 && pltSc e == bitsOf w 0 16))
   | none => bitsOf w 28 3 == 0 || (bitsOf w 28 3 == 1 && pltParcel e == bitsOf w 22 6) || (bitsOf w 28 3 == 2 && pltPort e == bitsOf w 16 6) ||
       (bitsOf w 28 3 == 3 && pltSc e == bitsOf w 0 16))

/-- The live counts that charge an entry (R72). -/
def chargeKeys (e : BitVec 128) : List Nat :=
  (F.PLT_PARCEL_OCC_COUNT (pltParcel e)).addr :: if pltStatic e = true ∨ pltPort e < 32 then [] else [(F.PLT_PORT_OCC_COUNT (pltPort e - 32)).addr]

/-- Nothing of the station table but its ways, its stash and the sweeper's tallies. -/
def Plat.sameEngine (a b : Plat) : Prop :=
  b = { a with ways := b.ways, stash := b.stash, tallyPort := b.tallyPort, tallyParcel := b.tallyParcel }

/-- BLW_QCMD, and GAT_GCL_CMD, whose PORT stands in ARG at its place in the register. -/
def blwWay : BlockWay :=
  { n := 7, op := F.BLW_QCMD_OP, busy := F.BLW_QCMD_BUSY, idx := F.BLW_QCMD_QUEUE, win := blwWin, len := 12 }
def gatWay : BlockWay :=
  { n := 8, op := F.GAT_GCL_CMD_OP, busy := F.GAT_GCL_CMD_BUSY, idx := F.GAT_GCL_CMD_INDEX, arg := fun _ w => w.toNat, win := gatWin, len := 2 }

/-- DAT_CMD: its operand stands in DAT_OPND, and it has neither INDEX nor window. -/
def datWay : BlockWay :=
  { n := 9, op := F.DAT_CMD_OP, busy := F.DAT_CMD_BUSY, idx := ⟨F.DAT_OPND_LO.addr, 0, 32⟩, win := F.DAT_OPND_LO.addr, len := 0 }

/-- HRT_CMD, whose argument stands in HRT_CMD_ARG, and HRT_DATA. -/
def hrtWay : BlockWay :=
  { n := 10, op := F.HRT_CMD_OP, busy := F.HRT_CMD_BUSY, idx := F.HRT_CMD_SLOT, arg := fun s _ => s.fld F.HRT_CMD_ARG, win := hrtWin, len := 512 }

/-- A Hearth command as it reaches the slots: from firmware without a tag, from a function with its parcel's (R236). -/
def hrtReq (v : Via) (idx arg : Nat) : HReq :=
  { slot := idx, arg := arg, tag := match v with | .reg _ _ => none | .ring d => some d.fn.val }

/-- A Hearth command has been answered: BUSY 0, STATUS, and where that is OK the result (R260, R261). -/
def HrtTold (op : Nat) (v : Via) (code result : Nat) (t : State) : Prop :=
  Told hrtWay op v (t.fld F.HRT_CMD_STATUS = code ∧ (code = 0 → t.fld F.HRT_CMD_RESULT = result % 65536)) code result t ∧ t.flag F.HRT_CMD_BUSY = false

/-- The registers of such a command. -/
def hrtKeys (v : Via) : List Nat := F.HRT_CMD_BUSY.addr :: F.HRT_CMD_RESULT.addr :: wayKeys hrtWay v

/-- Every Hearth command with its OP, and what its argument selects of OP 0x0F and 0x12 (R260). -/
def hrtCommands (v : Via) : List (Instr × Nat × Nat) :=
  [(.slotAttr v, 1, 0), (.slotImport v, 2, 0), (.slotGenerate v, 3, 0), (.slotDerive v, 4, 0), (.slotExport v, 5, 0), (.slotRevoke v, 6, 0), (.slotDelete v, 7, 0),
   (.attrSet v, 8, 0), (.sakUnwrap v, 9, 0), (.sakFromSlot v, 10, 0), (.mkaKdf v, 11, 0), (.mkaIcv v, 12, 0), (.mkaSakWrap v, 13, 0), (.mkaSakUnwrap v, 14, 0),
   (.macGen v, 15, 0), (.macVerify v, 15, 1), (.hrtSign v, 15, 2), (.handoffDrop v, 16, 0), (.importPubkey v, 17, 0), (.quenchSlot v, 18, 2), (.quenchParcel v, 18, 3),
   (.quenchErase v, 18, 4), (.quenchPurge v, 18, 5)]

/-- Area `a` of the Hearth store takes `k` more commits: it is not read-only and has as many slots free and unretired (R249, R253). -/
def State.storeRoom (s : State) (a k : Nat) : Prop :=
  k = 0 ∨ (s.flag (F.HRT_STORE_AREA_W0_READ_ONLY a) = false ∧
    k ≤ ((List.range (areaSlots a)).filter fun i => (s.recSlot a i).copy.isNone && !(s.recSlot a i).retired).length)

/-- What a commit to the store changes. -/
def storeParts : List Part := evts ++ [Part.hrt, .cnt, .requests]
def storeKeys (a : Nat) : List Nat :=
  [(F.HRT_STORE_AREA_W0_READ_ONLY a).addr, (F.HRT_STORE_AREA_W1_FREE a).addr, F.HRT_STATUS_STORE_RO.addr, F.HRT_ERR_VALID.addr] ++ evtKeys

/-- What showing the slots changes. -/
def slotKeys (p : Nat) : List Nat := [F.HRT_STATUS_SLOTS_LOADED.addr, F.HRT_USE_PERSIST.addr, (F.GLB_PARCEL_USE_W1_SLOTS (p % 64)).addr]

/-- A place for another slot of parcel `p` (R234, R302). -/
def State.slotPlace (s : State) (p : Nat) (persist : Bool) : Prop :=
  s.fld (F.GLB_PARCEL_USE_W1_SLOTS p) < s.fld (F.GLB_PARCEL_LIM_W1_SLOT_MAX p) ∧
  (persist = true → s.fld F.HRT_USE_PERSIST < 1024 ∧ s.flag (F.HRT_STORE_AREA_W0_READ_ONLY 1) = false)

/-- The slots but number `n` are as they were, but for the count of blobs that Tie's own made. -/
def slotsBut (n : Nat) (s t : State) : Prop := ∀ m, m ≠ n → { t.slot m with exports := (s.slot m).exports } = s.slot m

/-- The store's valid record of slot `n` holds its material, where it is persistent (R238, R247). -/
def slotDurable (n : Nat) (t : State) : Prop :=
  (t.slot n).persist = true → ∃ r y, t.current 1 n = some r ∧ r.pay = .key y ∧ y.key = (t.slot n).key ∧ y.gen = (t.slot n).gen ∧ y.exportable = (t.slot n).exportable

/-- A handoff that has just been made (R241). -/
def handed (s : State) (h p : Nat) (m : KeyMat) (t : State) : Prop :=
  t.handoff h = some { seq := h / 64, mat := m, parcel := p, made := s.cyc } ∧ (tabGet {} s.hrt.hands (h % 64)).held = none ∧
  ∀ i, i ≠ h % 64 → tabGet {} t.hrt.hands i = tabGet {} s.hrt.hands i

/-! ## Frames in the device -/

/-- What a frame's way through the device may change: itself, its association and its marks, queue, buffer and heats, admission lists, counters, samples and
statistics, a learn request, events, and the commands that waited for its end.  Not among them: rules and
configuration, ports, Datum, slots' registers beyond LAST_SCOPE, OTP, memories, parcels. -/
def pathParts : List Part :=
  evts ++ [Part.cnt, .holdOff, .free, .saStat, .qDrop, .requests, .waits, .sec, .hrt, .frames, .nextEnq, .blw, .anvIdle, .tie, .plat, .block 0, .block 5, .block 6,
    .block 7, .block 8, .block 10, .block 13, .block 15, .block 16]

/-- What a frame's arrival may change beside: its number, the hit counts of rules and stations, bypass buckets. -/
def arrivalParts : List Part := pathParts ++ [Part.nextFrame, .rules, .bypass, .block 4]

/-- A frame that its port hands on: UP and open, unheld, whole, of a length the port admits. -/
structure Received (s : State) (n : Nat) (b : List Byte) (bad : Bool) : Prop where
  up : s.portUp n = true
  isOpen : s.portOpen n = true
  unheld : s.held = false
  long : 64 ≤ b.length
  short : b.length ≤ s.portMax n
  fcs : badFcs b bad = false

/-! ## Resets, boot and commits -/

/-- What a reset leaves of state `s` (R18, R475): every register field of its domains in the blocks `bs` at the reset value, the POWER domain and time kept
unless `power`; no frame, session, command or table; the flash and the security log kept. -/
structure ResetLeaves (power : Bool) (bs : List Nat) (s t : State) : Prop where
  fields : ∀ (a : Nat) (d : RegD) (x : FieldD), regDesc a = some d → x ∈ d.fields → x.dom = .chip ∨ x.dom = .parcel ∨ (x.dom = .power ∧ power = true) → blockOf a ∈ bs →
    t.fld ⟨a, x.lo, x.width⟩ = x.rst
  keptFields : ∀ (a : Nat) (d : RegD) (x : FieldD), regDesc a = some d → x ∈ d.fields → x.dom = .power → power = false → blockOf a ∈ bs →
    t.fld ⟨a, x.lo, x.width⟩ = s.fld ⟨a, x.lo, x.width⟩
  host : ∀ f : Fin 64, t.flag (F.R2_RING_CTL_CMD_EN f) = false ∧ t.flag (F.R2_RING_CTL_MSG_EN f) = false ∧ (t.fn f).session = none
  gone : t.frames = [] ∧ t.waits = [] ∧ t.rules = [] ∧ t.bypass = [] ∧ t.plat = {} ∧ t.sec = {} ∧ t.saStat = [] ∧ t.blw = {} ∧ t.gates = [] ∧ t.par = [] ∧ t.hrt.slots = [] ∧ t.hrt.hands = []
  time : t.cyc = (if power then 0 else s.cyc) ∧ t.datum = (if power then 0 else s.datum)
  flash : t.ctl.fwA = s.ctl.fwA ∧ t.ctl.fwB = s.ctl.fwB ∧ t.ctl.cfgA = s.ctl.cfgA ∧ t.ctl.cfgB = s.ctl.cfgB
  log : s.fbk.secLog <+: t.fbk.secLog
  life : Part.same s t .life ∧ t.pending = s.pending

/-- The firmware image `i` of slot `k` has been started (R266). -/
def Booted (k : Nat) (i : FwInfo) (t : State) : Prop :=
  t.fld F.GLB_BOOT_STAGE = 1 ∧ t.fld F.GLB_BOOT_FW_SLOT = k % 2 ∧ t.fld F.GLB_BOOT_FW_SVN = i.svn % 256 ∧ t.words (F.GLB_FW_MEASURE 0).addr 12 = leWords 12 i.measure ∧
    t.ctl.fwVersion = i.version

/-- What the ROM does with the two firmware slots (R266): the one that the boot record names, else the other, else NO_FW. -/
def RomOutcome (agree : Bool) (t : State) : Prop :=
  let n := t.bootRec.fw
  let first := fwCheck t.otp (t.fwFlash n)
  let second := fwCheck t.otp (t.fwFlash (1 - n))
  (∀ i, first = .inl i → agree = true → Booted n i t) ∧
  ((agree = false ∨ ∃ c, first = .inr c) → (∀ i, second = .inl i → Booted (1 - n) i t ∧ t.flag F.GLB_BOOT_FALLBACK = true) ∧
    ∀ c, second = .inr c → t.fld F.GLB_BOOT_STAGE = 8)

/-- What the ROM changes. -/
def romParts : List Part :=
  evts ++ [Part.env, .ecc, .hrt, .otp, .cnt, .requests, .free, .ctl, .block 0, .block 7, .block 10, .block 12, .block 13, .block 14, .block 15]

/-- A life-cycle transition has been performed (R289, R290): OTP as `o` says, the Hearth store's areas 0 to 2 empty, and the device reset for that cause. -/
def Transitioned (o : Otp → Prop) (b : BootIn) (s t : State) : Prop :=
  o t.otp ∧ t.flag F.GLB_RST_CAUSE_LCS = true ∧ t.ctl.lcsNew = true ∧ t.hrt.kek.isSome = true ∧ (∀ a i, a < 3 → i < 4096 → (t.recSlot a i).copy = none) ∧
  ResetLeaves false [1, 2, 3, 4, 5, 6, 8, 9] s t ∧ RomOutcome b.agree t

/-- A commit has ended without effect: nothing scheduled or verified, STATE STAGED, its code shown; the image in force stands. -/
def CommitEnded (code : Nat) (s t : State) : Prop :=
  t.ctl.run = none ∧ t.ctl.verified = none ∧ t.fld F.GLB_COMMIT_STATE = 1 ∧ t.fld F.GLB_COMMIT_LAST_CODE = code ∧ t.fld F.GLB_COMMIT_AT_LO = 0 ∧ t.fld F.GLB_COMMIT_AT_HI = 0 ∧
  t.words (F.GLB_CFG_MEASURE 0).addr 12 = s.words (F.GLB_CFG_MEASURE 0).addr 12 ∧ t.fld F.GLB_IMAGE_SEQ = s.fld F.GLB_IMAGE_SEQ ∧
  { t.ctl with run := s.ctl.run, verified := s.ctl.verified } = s.ctl

/-- Registers that show a commit. -/
def commitKeys : List Nat := [F.GLB_COMMIT_STATE.addr, F.GLB_COMMIT_AT_LO.addr, F.GLB_COMMIT_AT_HI.addr]

/-- What a prestage may change, and its removal: the tables it fills, the commit's own state, events and the response of COMMIT. -/
def prestageParts : List Part :=
  evts ++ [Part.ctl, .waits, .block 16, .cnt, .holdOff, .free, .requests, .rules, .plat, .sec, .saStat, .blw, .gates, .hrt, .tie, .block 3, .block 4, .block 5, .block 7, .block 8, .block 10,
    .block 13]

/-! ## Environment -/

/-- Registers that an alarm, a warning or a return writes: ENV_STATUS, ENV_LAST, ENV_MEAS, and the battery register. -/
def envKeys : List Nat :=
  [F.ENV_STATUS_LEVEL.addr, F.ENV_LAST_VALID.addr, F.ENV_BAT_CTL_USED.addr] ++ winKeys (F.ENV_MEAS_VALUE 0).addr 8 ++ winKeys (F.ENV_BAT_W0_VALID 0).addr 32

/-- What HOLD and the release of the interlock change: every lane and port, and what the frames on the wire were. -/
def squelchParts : List Part := pathParts ++ [Part.block 1, .block 2]

/-- A response of a source at a level has been applied (R409, R410, R412): the level in force, ALERT, the ports closed, the lanes squelched and the frames on the wire ended,
the interlock released with the fault reported, and a decision to zeroize where the level asks for one. -/
structure Applied (source level : Nat) (s t : State) : Prop where
  inForce : t.fld F.ENV_STATUS_LEVEL = max (min 2 level) (s.fld F.ENV_STATUS_LEVEL)
  alert : s.held = false → 1 ≤ level → t.flag F.ENV_STATUS_ALERT = true
  closed : s.held = false → 2 ≤ level → (∀ n, n < 64 → t.portOpen n = false ∧ t.flag (F.SRD_LANE_W2_SQUELCH n) = true) ∧
    (tabWf (fun _ => none) s.frames = true → ∀ j f, t.frame j = some f → f.sending = false)
  released : s.held = false → 2 ≤ level → s.tieOn = true → s.tie.faulted = false → t.tie.faulted = true ∧ t.flag F.TIE_STATUS_HOLD_OUT = false
  decided : 3 ≤ level → s.fld F.ENV_STATUS_LEVEL < level → s.env.decs.any (fun d => !d.cmd && decide (level + 1 ≤ d.scope)) = false →
    ∃ e : Dec, t.env.decs = s.env.decs ++ [e] ∧ e.scope = level + 1 ∧ e.cmd = false ∧ e.source = source ∧ e.start = s.cyc ∧ 16 ≤ e.delay ∧ e.delay < 256

/-- ENV_LAST keeps the first alarm since VALID was cleared. -/
def LastAlarm (source level value : Nat) (s t : State) : Prop :=
  t.flag F.ENV_LAST_VALID = true ∧ (s.flag F.ENV_LAST_VALID = true → t.word F.ENV_LAST_VALID.addr = s.word F.ENV_LAST_VALID.addr) ∧
  (s.flag F.ENV_LAST_VALID = false → t.fld F.ENV_LAST_LEVEL = level % 8 ∧ t.fld F.ENV_LAST_SOURCE = source ∧ t.fld F.ENV_LAST_VALUE = value % 65536)

/-- The battery register has taken an entry of this source, or counted it where it holds 16 (R415, R418). -/
def BatteryEntry (source seconds : Nat) (s t : State) : Prop :=
  match (List.range 16).find? fun j => !s.flag (F.ENV_BAT_W0_VALID j) with
  | some j => t.flag (F.ENV_BAT_W0_VALID j) = true ∧ t.flag (F.ENV_BAT_W0_PENDING j) = true ∧ t.fld (F.ENV_BAT_W0_SOURCE j) = source ∧ t.fld (F.ENV_BAT_W1_SECONDS j) = seconds
  | none => t.fld F.ENV_BAT_CTL_OVERFLOW = min 65535 (s.fld F.ENV_BAT_CTL_OVERFLOW + 1)

/-! ## Tie -/

/-- TIE_STATUS. -/
def tieKey : Nat := F.TIE_STATUS_ROLE.addr

/-- The fields of TIE_STATUS but `changed` read as before. -/
def TieSame (changed : List Fld) (s t : State) : Prop :=
  ∀ f ∈ [F.TIE_STATUS_ROLE, F.TIE_STATUS_LINK_UP, F.TIE_STATUS_HOLD_OUT, F.TIE_STATUS_HOLD_IN, F.TIE_STATUS_STRAP, F.TIE_STATUS_COMPARE_OK, F.TIE_STATUS_MARK_OVF, F.TIE_STATUS_MARK_USED],
    f ∉ changed → t.fld f = s.fld f

/-- A message of the partner with this SEQ has been taken: a gap in the active's sets MARK_OVF on a chip that follows it (R388). -/
structure Heard (seq : BitVec 32) (s t : State) : Prop where
  rxSeq : t.tie.rxSeq = some seq.toNat
  gap : (s.follows = true ∧ ∃ r, s.tie.rxSeq = some r ∧ (r + 1) % 2 ^ 32 ≠ seq.toNat) → t.flag F.TIE_STATUS_MARK_OVF = true
  inStep : ¬ (s.follows = true ∧ ∃ r, s.tie.rxSeq = some r ∧ (r + 1) % 2 ^ 32 ≠ seq.toNat) → t.flag F.TIE_STATUS_MARK_OVF = s.flag F.TIE_STATUS_MARK_OVF

/-- A message has been queued to the partner (R387). -/
def TieQueued (m : TieOut) (s t : State) : Prop := t.tie.sent = some m ∧ t.tie.txSeq = (s.tie.txSeq + 1) % 2 ^ 32

/-- The interlock is released, every lane squelched (R385). -/
def Released (t : State) : Prop := t.flag F.TIE_STATUS_HOLD_OUT = false ∧ t.tie.wait = none ∧ ∀ n, n < 64 → t.flag (F.SRD_LANE_W2_SQUELCH n) = true

/-- The hold is asserted, and its wait of 100 ns begins (R384). -/
def Acquiring (s t : State) : Prop := t.flag F.TIE_STATUS_HOLD_OUT = true ∧ t.tie.wait = some s.cyc

/-- Failure of the active has been recognised for a cause, and the takeover decided for the first time (R398, R400, R414). -/
def Recognised (cause : Nat) (s t : State) : Prop :=
  (∃ e : Dec, t.env.decs = s.env.decs ++ [e] ∧ e.scope = 0 ∧ e.start = s.cyc ∧ 16 ≤ e.delay ∧ e.delay < 256) ∧ t.tie.decided = s.cyc ∧ t.tie.check = none ∧
  ∃ w, t.tie.fail = some { at_ := s.cyc, cause := cause, wide := w } ∧
    (w = true ↔ t.flag F.TIE_STATUS_MARK_OVF = true ∨ (s.role = Role.standbyIso ∧ ∃ t0, s.tie.lost = some t0 ∧ 1500000 < (s.cyc - t0).toNat))

/-- What lanes that leave electrical idle change. -/
def driveParts : List Part := evts ++ [Part.frames, .block 1, .block 2, .block 8]

/-- A block of sequence `k` has been found a mismatch for a reason (R393 to R395). -/
structure Mismatched (k : Nat) (b : TieBlk) (reason : Nat) (s t : State) : Prop where
  counted : t.count (if b.excused then C.TIE_MISMATCH_EXCUSED else C.TIE_MISMATCH) = s.count (if b.excused then C.TIE_MISMATCH_EXCUSED else C.TIE_MISMATCH) + 1
  last : s.flag F.TIE_LAST_MISMATCH_VALID = false → t.fld F.TIE_LAST_MISMATCH_REASON = reason ∧ t.flag F.TIE_LAST_MISMATCH_EXCUSED = b.excused ∧ t.fld F.TIE_LAST_MISMATCH_PORT = k / 8 ∧
    t.fld F.TIE_LAST_MISMATCH_CLASS = k % 8 ∧ t.fld F.TIE_LAST_MISMATCH_BLOCK = b.num % 2 ^ 18
  valid : t.flag F.TIE_LAST_MISMATCH_VALID = true
  realigned : s.flag F.TIE_STATUS_COMPARE_OK = true → s.role = Role.active → (t.tieSeq k).realign = some (s.datumNs + 100000#64)
  check : s.flag F.TIE_STATUS_COMPARE_OK = true → b.excused = false → (∀ t0, s.tie.checkAt = some t0 → 15000000 ≤ (s.cyc - t0).toNat) →
    t.tie.check = some s.cyc ∧ t.tie.checkFrom = b.first ∧ t.tie.sent = some { typ := 7, args := [0] } ∧ t.count C.TIE_SELFCHK_RUN = s.count C.TIE_SELFCHK_RUN + 1
  unchecked : s.flag F.TIE_STATUS_COMPARE_OK = false ∨ b.excused = true → t.tie.check = s.tie.check ∧ t.count C.TIE_SELFCHK_RUN = s.count C.TIE_SELFCHK_RUN

/-- Both results of a self-check are known (R395). -/
structure CheckEnded (own partner : Bool) (s t : State) : Prop where
  shown : t.flag F.TIE_SELFCHK_VALID = true ∧ t.flag F.TIE_SELFCHK_OWN_PASS = own ∧ t.flag F.TIE_SELFCHK_PARTNER_PASS = partner
  ended : t.tie.check = none ∧ t.tie.own = none ∧ t.tie.partner = none
  active : own = false → partner = true → s.tieOn = true → s.tie.faulted = false → t.tie.faulted = true ∧ Released t ∧ t.tie.sent = some { typ := 6, args := [3] }
  standby : own = true → partner = false → t.role = (if s.role = Role.active then Role.activeIso else s.role)
  both : own = false → partner = false → t.role = s.role ∧ ∃ r, t.requests.getLast? = some r ∧ r.source = 12 ∧ r.level = 1 ∧ r.event = 0x3C6
  neither : own = true → partner = true → t.role = s.role ∧ t.tie.faulted = s.tie.faulted

/-- The active accepts a planned swap (R403). -/
def swapAccepted (s : State) : Prop :=
  s.role = Role.active ∧ s.tie.standby = true ∧ s.flag F.TIE_STATUS_COMPARE_OK = true ∧ s.flag F.DAT_STATUS_SYNC = true ∧ s.tie.pSync = true

/-- SWAPPING has been entered for T, on the active or on the standby. -/
def SwapBegun (T : BitVec 64) (lead : Bool) (t : State) : Prop :=
  t.role = Role.swapping ∧ t.tie.swap = some T ∧ t.tie.swapActive = lead ∧ t.fld F.TIE_SWAP_AT_LO_AT = T.toNat % 2 ^ 32 ∧ t.fld F.TIE_SWAP_AT_HI_AT = T.toNat / 2 ^ 32

/-! ## The host link -/

/-- How far a producer count `p` lies ahead of a consumer count `c` in a ring of `n` entries: counts run modulo 2 n (R329). -/
def ringAhead (p c n : Nat) : Nat := (p + 2 * n - c % (2 * n)) % (2 * n)

/-- A ring size that R328 admits. -/
def ringSize (n : Nat) : Prop := ∃ k, 6 ≤ k ∧ k ≤ 12 ∧ n = 2 ^ k

/-- A ring error of function `f` (R329, R344): the ring's error bit and ERR_CODE, and event 0x030; beside them only the word at `a` changes. -/
def RingError (f : Fin 64) (cmd : Bool) (code a : Nat) (s t : State) : Prop :=
  t.flag (if cmd then F.R2_RING_STATUS_CMD_ERR f else F.R2_RING_STATUS_MSG_ERR f) = true ∧
  t.fld (F.R2_RING_STATUS_ERR_CODE f) = code ∧ Logged 0x030 f t ∧
  Only evts (evtKeys ++ [(F.R2_RING_STATUS_CMD_ERR f).addr, a]) s t

/-- The host state of a function as R327 leaves it: both rings disabled, every BAR2 field at its reset value but for what events posted since
count as lost, no session, and the responses of commands in progress discarded. -/
def HostReset (f : Fin 64) (t : State) : Prop :=
  t.flag (F.R2_RING_CTL_CMD_EN f) = false ∧ t.flag (F.R2_RING_CTL_MSG_EN f) = false ∧
  (∀ o, o < 4096 → o ≠ 0x34 → t.word (0x10000000 + 4096 * f.val + o) = rstOf (0x10000000 + 4096 * f.val + o)) ∧
  (∀ w, w < 32 → t.fld (F.R2_EVT_MASK f w) = 0) ∧ (t.fn f).session = none ∧ ∀ w ∈ t.waits, w.d.fn = f → w.mute = true

end Sys2Proof.Machine
end

