-- ==== Sys2Proof/Certificates/Slice0/Obligations.lean ====
section
/-! DEFINITION. Obligations.lean: what the spec says of the block, as statements about its commands and steps.  In a statement
`Completes c s P` says that command `c` in state `s` answers a next state that meets `P`, and `Only ps ks s t` that from `s` to `t` nothing
changes but the parts `ps` and the register words at the keys `ks` (Safety.lean). -/

section

open Sys2Proof Sys2Proof.Machine

/-! ## Steps, reset and registers (spec/00_scope.md) -/

/-- A step performs the command at the front of the queue on the state with the rest of the queue; with nothing waiting one core cycle
passes (log entry 3). -/
def Obligations.StepPerformsTheFrontCommand : Prop :=
  (∀ (c : Instr) (rest : List Instr) (s : State), s.pending = c :: rest → step s = exec c { s with pending := rest }) ∧
  (∀ s : State, s.pending = [] → step s = .next s.tick)

/-- No command of the table stops the block: each answers a next state, in every state and for every operand. -/
def Obligations.NoCommandStopsTheBlock : Prop := ∀ (c : Instr) (s : State), ∃ t, exec c s = .next t

/-- R18: after reset every field of every register of the tables reads its Reset value. -/
def Obligations.ResetGivesEveryFieldItsResetValue : Prop :=
  ∀ (a : Nat) (d : RegD) (x : FieldD), regDesc a = some d → x ∈ d.fields →
    State.reset.fld ⟨a, x.lo, x.width⟩ = x.rst

/-- R14, R15, R16: a word written to a register reaches every field of it by the field's access type (RO keeps its value, RW and WO take
what is written, RW1C clears and W1S sets where a 1 is written), not at all where the field is secure and the writer is not, and no bit
outside the fields changes; a reader outside the secure world sees zero in secure fields, and every reader sees zero in WO fields and reserved bits. -/
def Obligations.RegisterFieldsFollowTheirAccessType : Prop :=
  ∀ (a : Nat) (d : RegD), regDesc a = some d →
    (∀ (secure : Bool) (old v : Word) (x : FieldD), x ∈ d.fields →
      let o := bitsOf old x.lo x.width
      let n := bitsOf v x.lo x.width
      bitsOf (d.writeWord secure old v) x.lo x.width =
        (if x.sec && !secure then o else
          match x.acc with
          | .ro => o
          | .rw | .wo => n
          | .rw1c => o - (o &&& n)
          | .w1s => o ||| n) ∧
      bitsOf (d.readWord secure old) x.lo x.width = (if (x.sec && !secure) || x.acc == .wo then 0 else o)) ∧
    (∀ (secure : Bool) (old v : Word) (j : Nat), j < 32 → (∀ x ∈ d.fields, j < x.lo ∨ x.hi < j) →
      bitsOf (d.writeWord secure old v) j 1 = bitsOf old j 1 ∧ bitsOf (d.readWord secure old) j 1 = 0)

/-- R13 to R15, R505.  REGISTER_WRITE: a word written to a register of GLB or ENV that starts nothing reaches its fields, and a non-secure
write of a register with secure fields is recorded; UNALIGNED_ACCESS: the access is counted and no register changes;
SECURE_ACCESS_REFUSED: a non-secure read or write of a register with secure fields raises event 0x010, recorded in the security log
under its block, and leaves the secure fields; OP_ZERO_WRITE: the other writable fields, and nothing else;
RESERVED_OP_WRITE: the status of a refused operation in the register's STATUS or ERR.
The model's choices used: log entry 29. -/
def Obligations.RegisterAccesses : Prop :=
  ∀ (s : State) (w : World) (a : BitVec 32),
    (∀ (v : Word) (b : BootIn) (good : Bool) (d : RegD), regDesc a.toNat = some d → s.answers w a.toNat = true →
        a.toNat / 0x100000 = 0 ∨ a.toNat / 0x100000 = 14 → a.toNat ≠ F.GLB_RST_CHIP.addr → a.toNat ≠ F.GLB_RECOVERY_CTL_ERASE.addr →
      Completes (.registerWrite w a v b good) s fun t =>
        t.word a.toNat = d.writeWord w.isSecure (s.word a.toNat) v ∧
        (d.hasSecure = true ∧ w.isSecure = false → LoggedSec 0x010 (a.toNat / 0x100000) s t ∧ Only evts (evtKeys ++ [a.toNat]) s t) ∧
        (d.hasSecure = false ∨ w.isSecure = true → Only [] [a.toNat] s t)) ∧
    (∀ (f : Fin 64) (bar2 : Bool), Completes (.unalignedAccess f bar2) s fun t =>
        t.count C.GLB_BADACC_CNT = s.count C.GLB_BADACC_CNT + 1 ∧ (∀ i, i ≠ C.GLB_BADACC_CNT → t.count i = s.count i) ∧ Only [.cnt] [] s t) ∧
    (∀ d : RegD, regDesc a.toNat = some d → d.hasSecure = true → w.isSecure = false → s.answers w a.toNat = true → a.toNat / 0x100000 < 16 →
      (Completes (.secureAccessRefused w a none) s fun t => LoggedSec 0x010 (a.toNat / 0x100000) s t ∧ Only evts evtKeys s t) ∧
      ∀ v : Word, Completes (.secureAccessRefused w a (some v)) s fun t => LoggedSec 0x010 (a.toNat / 0x100000) s t ∧
        (∀ x ∈ d.fields, x.sec = true → t.fld ⟨a.toNat, x.lo, x.width⟩ = s.fld ⟨a.toNat, x.lo, x.width⟩ ∨ a.toNat = 0xF00000 ∨ a.toNat = 0xF00004) ∧
        Only (evts ++ [Machine.Part.tie]) (evtKeys ++ [a.toNat]) s t) ∧
    (∀ (e : Fld × Nat) (d : RegD) (v : Word), e ∈ cmdRegs → a.toNat = e.1.addr → regDesc a.toNat = some d → s.answers w a.toNat = true →
        d.hasSecure = false ∨ w.isSecure = true → opOf e.1 v = 0 →
      Completes (.opZeroWrite w a v) s fun t =>
        (∀ x ∈ d.fields, x.lo ≠ e.1.lo → t.fld ⟨a.toNat, x.lo, x.width⟩ = (if x.acc = .rw then bitsOf v x.lo x.width else s.fld ⟨a.toNat, x.lo, x.width⟩)) ∧
        t.fld e.1 = 0 ∧ Only [] [a.toNat] s t) ∧
    (∀ (v : Word), w.isSecure = true → a.toNat % 4 = 0 →
      (a.toNat = F.TRV_RULE_CMD_OP.addr → 4 < opOf F.TRV_RULE_CMD_OP v → s.flag F.TRV_RULE_CMD_BUSY = false →
        Completes (.reservedOpWrite w a v) s fun t => t.flag F.TRV_RULE_STAT_ERR = true ∧
          Logged 0x104 (bitsOf v 0 14) t ∧ Only evts (evtKeys ++ [a.toNat, F.TRV_RULE_STAT_ERR.addr]) s t) ∧
      (a.toNat = F.PLT_CMD_OP.addr → 7 < opOf F.PLT_CMD_OP v → s.flag F.PLT_CMD_BUSY = false →
        Completes (.reservedOpWrite w a v) s fun t => t.fld F.PLT_CMD_STATUS = 6 ∧ Only [] [a.toNat] s t) ∧
      (a.toNat = F.SEC_CMD_OP.addr → 14 < opOf F.SEC_CMD_OP v → s.flag F.SEC_CMD_BUSY = false →
        Completes (.reservedOpWrite w a v) s fun t => t.fld F.SEC_CMD_STATUS = 1 ∧ Logged 0x18F (bitsOf v 0 18) t ∧
          Only evts (evtKeys ++ [a.toNat]) s t) ∧
      (a.toNat = F.BLW_QCMD_OP.addr → 3 < opOf F.BLW_QCMD_OP v → s.flag F.BLW_QCMD_BUSY = false →
        Completes (.reservedOpWrite w a v) s fun t => t.fld F.BLW_QCMD_STATUS = 1 ∧ Logged 0x28C (bitsOf v 0 16) t ∧
          Only evts (evtKeys ++ [a.toNat]) s t) ∧
      (a.toNat = F.GAT_GCL_CMD_OP.addr → 5 < opOf F.GAT_GCL_CMD_OP v → s.flag F.GAT_GCL_CMD_BUSY = false →
        Completes (.reservedOpWrite w a v) s fun t => t.fld F.GAT_GCL_CMD_STATUS = 1 ∧ Logged 0x286 (bitsOf v 16 6) t ∧
          Only evts (evtKeys ++ [a.toNat]) s t) ∧
      (a.toNat = F.DAT_CMD_OP.addr → 5 < opOf F.DAT_CMD_OP v → s.flag F.DAT_CMD_BUSY = false →
        Completes (.reservedOpWrite w a v) s fun t => t.fld F.DAT_CMD_STATUS = 1 ∧ Logged 0x306 0 t ∧
          Only evts (evtKeys ++ [a.toNat]) s t) ∧
      (a.toNat = F.HRT_CMD_OP.addr → 18 < opOf F.HRT_CMD_OP v → s.flag F.HRT_CMD_BUSY = false → s.hrtServes = true →
        Completes (.reservedOpWrite w a v) s fun t => t.fld F.HRT_CMD_STATUS = 1 ∧ Logged 0x350 (bitsOf v 0 12) t ∧
          Only evts (F.HRT_ERR_VALID.addr :: evtKeys ++ [a.toNat]) s t))

/-! ## The host link (spec/13_host_link.md) -/

/-- R328, R329, R347: CMD_TAIL hands commands over, or stops a command ring that it overruns, with ERR_CODE 1 and event 0x030; a 1 written
to CMD_ERR or MSG_ERR clears that bit and restarts its ring; a ring is enabled with a SIZE that is a power of two from 64 to 4,096 and with no other
(ERR_CODE 4); MSG_HEAD hands entries back, and one that hands back more than are posted is ignored (ERR_CODE 1).
A descriptor that cannot be read stops its ring with ERR_CODE 2, a message that cannot be written with 3.  Nothing else changes.
The model's choices used: log entries 11, 29. -/
def Obligations.RingRegistersAndErrors : Prop :=
  ∀ (f : Fin 64) (s : State), s.hostUp = true →
    (∀ v : BitVec 13, (s.flag (F.R2_RING_CTL_CMD_EN f) = false ∨ ringAhead v.toNat (s.fld (F.R2_CMD_HEAD f)) (s.fld (F.R2_CMD_SIZE f)) ≤ s.fld (F.R2_CMD_SIZE f)) →
      Completes (.cmdTailWrite f v) s fun t => t.fld (F.R2_CMD_TAIL f) = v.toNat ∧ Only [] [(F.R2_CMD_TAIL f).addr] s t) ∧
    (∀ v : BitVec 13, s.flag (F.R2_RING_CTL_CMD_EN f) = true → s.fld (F.R2_CMD_SIZE f) < ringAhead v.toNat (s.fld (F.R2_CMD_HEAD f)) (s.fld (F.R2_CMD_SIZE f)) →
      Completes (.cmdTailWrite f v) s fun t => t.fld (F.R2_CMD_TAIL f) = v.toNat ∧ RingError f true 1 (F.R2_CMD_TAIL f).addr s t) ∧
    (∀ v : Word, (bitsOf v 31 1 = 0 ∨ s.flag (F.R2_RING_CTL_CMD_EN f) = false ∨
        ringAhead (s.fld (F.R2_CMD_TAIL f)) (s.fld (F.R2_CMD_HEAD f)) (s.fld (F.R2_CMD_SIZE f)) ≤ s.fld (F.R2_CMD_SIZE f)) → (s.fn f).lost = 0 →
      Completes (.cmdErrClear f v) s fun t =>
        t.flag (F.R2_RING_STATUS_CMD_ERR f) = (s.flag (F.R2_RING_STATUS_CMD_ERR f) && bitsOf v 31 1 == 0) ∧
        t.flag (F.R2_RING_STATUS_MSG_ERR f) = (s.flag (F.R2_RING_STATUS_MSG_ERR f) && bitsOf v 30 1 == 0) ∧
        (t.fn f).stopped = ((s.fn f).stopped && bitsOf v 30 1 == 0) ∧
        Only (if bitsOf v 30 1 = 1 then [.fns] else []) [(F.R2_RING_STATUS_CMD_ERR f).addr] s t) ∧
    (∀ v : Word, bitsOf v 31 1 = 1 → bitsOf v 30 1 = 0 → s.flag (F.R2_RING_CTL_CMD_EN f) = false → ringSize (s.fld (F.R2_CMD_SIZE f)) →
      Completes (.ringEnable f v) s fun t => t.flag (F.R2_RING_CTL_CMD_EN f) = true ∧ t.flag (F.R2_RING_CTL_MSG_EN f) = false ∧
        Only [] [(F.R2_RING_CTL_CMD_EN f).addr] s t) ∧
    (∀ v : Word, bitsOf v 31 1 = 1 → bitsOf v 30 1 = 0 → s.flag (F.R2_RING_CTL_CMD_EN f) = false → ¬ ringSize (s.fld (F.R2_CMD_SIZE f)) →
      Completes (.ringEnable f v) s fun t => t.flag (F.R2_RING_CTL_CMD_EN f) = false ∧
        RingError f true 4 (F.R2_RING_CTL_CMD_EN f).addr s t) ∧
    (∀ v : Word, bitsOf v 31 1 = 0 → bitsOf v 30 1 = 1 → s.flag (F.R2_RING_CTL_MSG_EN f) = false → (s.fn f).lost = 0 →
        ringSize (s.fld (F.R2_MSG_SIZE f)) →
      Completes (.ringEnable f v) s fun t => t.flag (F.R2_RING_CTL_MSG_EN f) = true ∧ t.flag (F.R2_RING_CTL_CMD_EN f) = false ∧
        (t.fn f).mseq = 0 ∧ t.fld (F.R2_MSG_LOST f) = 0 ∧
        Only [.fns] [(F.R2_RING_CTL_CMD_EN f).addr, (F.R2_MSG_LOST f).addr] s t) ∧
    (∀ v : Word, bitsOf v 31 1 = 0 → bitsOf v 30 1 = 1 → s.flag (F.R2_RING_CTL_MSG_EN f) = false → ¬ ringSize (s.fld (F.R2_MSG_SIZE f)) →
      Completes (.ringEnable f v) s fun t => t.flag (F.R2_RING_CTL_MSG_EN f) = false ∧
        RingError f false 4 (F.R2_RING_CTL_CMD_EN f).addr s t) ∧
    (∀ v : BitVec 13, (s.flag (F.R2_RING_CTL_MSG_EN f) = false ∨
        ringAhead v.toNat (s.fld (F.R2_MSG_HEAD f)) (s.fld (F.R2_MSG_SIZE f)) ≤ s.msgUsed f) → (s.fn f).lost = 0 →
      Completes (.msgHeadWrite f v) s fun t => t.fld (F.R2_MSG_HEAD f) = v.toNat ∧ Only [] [(F.R2_MSG_HEAD f).addr] s t) ∧
    (∀ v : BitVec 13, s.flag (F.R2_RING_CTL_MSG_EN f) = true →
        s.msgUsed f < ringAhead v.toNat (s.fld (F.R2_MSG_HEAD f)) (s.fld (F.R2_MSG_SIZE f)) →
      Completes (.msgHeadWrite f v) s fun t => RingError f false 1 (F.R2_RING_STATUS_MSG_ERR f).addr s t) ∧
    (ringFetches s f = true →
      Completes (.descriptorReadError f) s fun t => RingError f true 2 (F.R2_RING_STATUS_CMD_ERR f).addr s t) ∧
    (s.flag (F.R2_RING_CTL_MSG_EN f) = true → (s.fn f).stopped = false →
      Completes (.messageWriteError f) s fun t => (t.fn f).stopped = true ∧ RingError f false 3 (F.R2_RING_STATUS_MSG_ERR f).addr s t)

/-- R327, R342, R344: an uncorrectable error is kept as the function's AER status, with event 0x032; a vector masked or unmasked in the
MSI-X table takes its mask bit, and sends when unmasked while pending with unconsumed entries; a vector whose coalescing time has passed sends its
message, or stays pending where masked; the link's state and event 0x031 (its loss resets the host state of every function), and so does a conventional
reset; an FLR resets the host state of its function, with event 0x033.  Neither touches a register of BAR0 but the count of open sessions.
The model's choices used: log entries 11, 66. -/
def Obligations.FunctionEventsAndHostResets : Prop :=
  ∀ (f : Fin 64) (s : State),
    (∀ status : Word, Completes (.aerUncorrectableError f status) s fun t => (t.fn f).aer = status.toNat ∧ Logged 0x032 f t ∧ Only evts evtKeys s t) ∧
    (∀ v : Fin 4, Completes (.msixUnmask f v true) s fun t => ((t.fn f).vec v).masked = true ∧ (∀ u : Fin 4, u ≠ v → (t.fn f).vec u = (s.fn f).vec u) ∧
      Only [.fns] [] s t) ∧
    (∀ v : Fin 4, Completes (.msixUnmask f v false) s fun t => ((t.fn f).vec v).masked = false ∧ ((t.fn f).vec v).pending = false ∧
      ((t.fn f).vec v).sent = ((s.fn f).vec v).sent + (if ((s.fn f).vec v).pending && s.unconsumed f v then 1 else 0) ∧
      (∀ u : Fin 4, u ≠ v → (t.fn f).vec u = (s.fn f).vec u) ∧ Only [.fns] [] s t) ∧
    (∀ (v : Fin 2) (at_ : BitVec 64), ((s.fn f).vec v).unsignalled = some at_ →
        1500 * min 100 (s.fld (if v = 0 then F.R2_COALESCE_RSP_US f else F.R2_COALESCE_EVT_US f)) ≤ (s.cyc - at_).toNat →
      Completes (.coalescingExpiry f v) s fun t => ((t.fn f).vec v).unsignalled = none ∧
        (((s.fn f).vec v).masked = false → ((t.fn f).vec v).sent = ((s.fn f).vec v).sent + 1) ∧
        (((s.fn f).vec v).masked = true → ((t.fn f).vec v).pending = true) ∧ Only [.fns] [] s t) ∧
    (∀ (speed width : BitVec 4), Completes (.linkStateChange speed width true false) s fun t =>
      t.linkUp = true ∧ t.linkSpeed = speed.toNat ∧ t.linkWidth = width.toNat ∧ Logged 0x031 0 t ∧ Only (evts ++ [Machine.Part.link]) evtKeys s t) ∧
    (∀ (speed width : BitVec 4), s.linkUp = true → Completes (.linkStateChange speed width false false) s fun t =>
      t.linkUp = false ∧ (∀ g : Fin 64, HostReset g t) ∧ Only (evts ++ [Machine.Part.block 16, .waits, .link]) (evtKeys ++ [F.GLB_SESSION_OPEN.addr]) s t) ∧
    (Completes .conventionalReset s fun t => (∀ g : Fin 64, HostReset g t) ∧
      Only (evts ++ [Machine.Part.block 16, .waits]) (evtKeys ++ [F.GLB_SESSION_OPEN.addr]) s t) ∧
    ((f = 0 ∨ s.parState f ≠ Ps.running) → Completes (.functionLevelReset f) s fun t => HostReset f t ∧ Logged 0x033 f t ∧
      Only (evts ++ [Machine.Part.block 16, .waits]) (evtKeys ++ [F.GLB_SESSION_OPEN.addr]) s t)

/-! ## Sessions and attestation (spec/11_signed_control.md) -/

/-- R331, R334: a descriptor whose reserved fields are not zero is refused with BAD_DESC, one whose opcode the catalogue does not list with
BAD_OPCODE; of the commands without a payload, one on a function without a session is refused with NO_SESSION, one whose MAC does not verify with BAD_MAC,
one whose SEQ is not above the last with SEQ_REPLAY.  The descriptor is consumed and answered, a refusal of R286 recorded and counted, and nothing else changes.
The model's choices used: log entry 9. -/
def Obligations.DescriptorsRefusedChangeNothing : Prop :=
  ∀ (s : State) (d : Desc), ringFetches s d.fn = true →
    (∀ (agree readOk : Bool) (b : BootIn) (img : List Byte) (op : Nat) (c : Instr), (op, c) ∈ ringCommands d agree readOk b img → d.rsvd3 ≠ 0 →
      Completes c s fun t => Answered d op 0x40 t ∧ Only hostParts [] s t) ∧
    (∀ op : BitVec 16, inCatalogue op.toNat = false → d.rsvd3 = 0 → d.rsvd44 = 0 → d.flags = 0 → d.payload.length ≤ 131072 →
      Completes (.badOpcode d op) s fun t => Answered d op.toNat 0x41 t ∧ Only hostParts [] s t) ∧
    (∀ (op : Nat) (c : Instr), (op, c) ∈ [(0x0003, Instr.sessionClose d), (0x0004, .cmdNop d), (0x0005, .challenge d)] →
        d.rsvd3 = 0 → d.rsvd44 = 0 → d.flags = 0 → d.payload = [] → d.readOk = true →
      ((s.fn d.fn).session = none → Completes c s fun t => Answered d op 0x80 t ∧ Only hostParts [] s t) ∧
      (∀ q, (s.fn d.fn).session = some q → q.id = d.sessionId.toNat → q.accepted + 1 < 2 ^ 32 →
        (descMacUnder d op q.kCmd ≠ d.mac.toNat →
          Completes c s fun t => Answered d op 0x81 t ∧ (t.fn d.fn).session = some q ∧
            t.count (C.GLB_CMD_REFUSED d.fn) = s.count (C.GLB_CMD_REFUSED d.fn) + 1 ∧ LoggedSec 0x00C d.fn s t ∧ Only refusedParts evtKeys s t) ∧
        (∀ l, descMacUnder d op q.kCmd = d.mac.toNat → q.seqLast = some l → d.seq.toNat ≤ l →
          Completes c s fun t => Answered d op 0x82 t ∧ (t.fn d.fn).session = some q ∧
            t.count (C.GLB_CMD_REFUSED d.fn) = s.count (C.GLB_CMD_REFUSED d.fn) + 1 ∧ LoggedSec 0x00C d.fn s t ∧ Only refusedParts evtKeys s t)))

/-- R280, R282, R284, R331: SESSION_OPEN answers with SESSION_ACCEPT, of 9,125 bytes, and holds the exchange; SESSION_CONFIRM with a
transcript signed by keys that hold rights opens the session they give, under keys of the exchange, with event 0x00A; SESSION_CLOSE closes it, with event 0x00B, and so does
the idle time; NOP does nothing; CHALLENGE gives a nonce of 32 bytes, of which 16 are kept.
The model's choices used: log entries 9, 58, 66. -/
def Obligations.SessionCommands : Prop :=
  ∀ (s : State) (d : Desc),
    (ringFetches s d.fn = true → d.rsvd3 = 0 → d.rsvd44 = 0 → d.flags = 0 → d.payload.length = 2818 → d.readOk = true → d.writeOk = true →
        9125 ≤ d.rspLen.toNat → s.flag F.HRT_STATUS_TRNG_OK = true → (∀ q, (s.fn d.fn).session = some q → q.accepted < 2 ^ 32) →
      Completes (.sessionOpen d) s fun t => Answered d 0x0001 0 t ∧ (t.fn d.fn).session = (s.fn d.fn).session ∧ (t.fn d.fn).rspBuf.length = 9125 ∧
        (∃ o, (t.fn d.fn).opening = some o ∧ o.openBytes = d.payload ∧ o.acceptBytes = (t.fn d.fn).rspBuf) ∧
        Only (.free :: hostParts) [] s t) ∧
    (∀ (o : Opening) (cls : Nat) (mask : BitVec 64) (listed : Bool),
        let blk := d.payload.drop 1572
        let ct := slice d.payload 4 1568
        let th := Config.sha384 (o.openBytes ++ o.acceptBytes ++ ct)
        ringFetches s d.fn = true → d.rsvd3 = 0 → d.rsvd44 = 0 → d.flags = 0 → d.payload.length = 8996 → d.readOk = true →
        (s.fn d.fn).session = none → (s.fn d.fn).opening = some o → o.id = leAt d.payload 0 4 →
        sigFormOk blk = true → sigAuthority blk = 3 → sigPubs blk = o.managerKeys → s.otp.ownerKey (Config.sha384 (sigPubs blk)) ≠ some true →
        s.managerRights (Config.sha384 (sigPubs blk)) = some (cls, mask, listed) → (d.fn = 0 ∨ mask.getLsbD d.fn = true) → s.fld F.GLB_SESSION_OPEN < 127 →
      Completes (.sessionConfirm d) s fun t =>
        (sigCryptoOk blk (label "ZGD mgr") th = true → Answered d 0x0002 0 t ∧ (t.fn d.fn).opening = none ∧
          (∃ q, (t.fn d.fn).session = some q ∧ q.id = o.id ∧ q.cls = cls ∧ q.seqLast = none ∧ q.accepted = 0 ∧
            q.kCmd ++ q.kRsp = Config.kmac256 (Config.kemSecret o.ephemeral (o.openBytes.take 97) ct) th 512 (label "ZGD session") ∧
            q.parcels = (if d.fn = 0 then mask else 1#64 <<< d.fn.val)) ∧
          t.fld F.GLB_SESSION_OPEN = s.fld F.GLB_SESSION_OPEN + 1 ∧ Logged 0x00A d.fn t ∧ Only (.fbk :: hostParts) (evtKeys ++ [F.GLB_SESSION_OPEN.addr]) s t) ∧
        (sigCryptoOk blk (label "ZGD mgr") th = false → Answered d 0x0002 0x85 t ∧ (t.fn d.fn).session = none ∧ t.fld F.GLB_SESSION_OPEN = s.fld F.GLB_SESSION_OPEN ∧
          Only refusedParts evtKeys s t)) ∧
    (∀ q : Session,
      (Sent s d 0x0003 .observe q → d.payload = [] → Completes (.sessionClose d) s fun t => Answered d 0x0003 0 t ∧ (t.fn d.fn).session = none ∧
        (0 < s.fld F.GLB_SESSION_OPEN → t.fld F.GLB_SESSION_OPEN = s.fld F.GLB_SESSION_OPEN - 1) ∧ Logged 0x00B d.fn t ∧
        Only (.fbk :: hostParts) (evtKeys ++ [F.GLB_SESSION_OPEN.addr]) s t) ∧
      (Sent s d 0x0004 .observe q → d.payload = [] → Completes (.cmdNop d) s fun t => Answered d 0x0004 0 t ∧
        (t.fn d.fn).session = some (q.accept d s.cyc) ∧ Only hostParts [] s t) ∧
      (Sent s d 0x0005 .observe q → d.payload = [] → s.flag F.HRT_STATUS_TRNG_OK = true → (s.fn d.fn).nonces.length ≤ 16 →
        32 ≤ d.rspLen.toNat → d.writeOk = true → Completes (.challenge d) s fun t => Answered d 0x0005 0 t ∧
        (∃ n : Nonce, n.bytes.length = 32 ∧ n.at_ = s.cyc ∧ (t.fn d.fn).rspBuf = n.bytes ∧
          (t.fn d.fn).nonces = (if (s.fn d.fn).nonces.length = 16 then (s.fn d.fn).nonces.drop 1 else (s.fn d.fn).nonces) ++ [n]) ∧
        Only (.free :: hostParts) [] s t)) ∧
    (∀ (f : Fin 64) (q : Session), (s.fn f).session = some q → 1500000000 * max 1 (s.fld F.GLB_SESSION_IDLE_S) ≤ (s.cyc - q.lastCmd).toNat →
        (s.waits.any fun w => w.d.fn == f && !w.mute) = false →
      Completes (.sessionIdleTimeout f) s fun t => (t.fn f).session = none ∧ Logged 0x00B f t ∧
        Only evts (evtKeys ++ [F.GLB_SESSION_OPEN.addr]) s t)

/-- R293, R294, R334: ATTEST answers with the statement of R293 over the nonce given, and its signature block; CERT_GET with 65,536 bytes from
the flash; REG_READ with the words of the function's view, secure fields reading zero; REG_WRITE writes the fields without the S suffix, and is refused
whole with CLASS_DENIED where it reaches a register with secure fields.
The model's choices used: log entries 19, 58. -/
def Obligations.AttestationAndRegisterCommands : Prop :=
  ∀ (s : State) (d : Desc) (q : Session), d.writeOk = true →
    (Sent s d 0x0100 .observe q → d.payload.length = 32 → 7664 ≤ d.rspLen.toNat →
      Completes (.attest d) s fun t => Answered d 0x0100 0 t ∧
        (let r := (t.fn d.fn).rspBuf
         r.length = 7664 ∧ r.take 4 = [0x5A, 0x47, 0x41, 0x54] ∧ leAt r 4 2 = 1 ∧ leAt r 6 2 = 240 ∧ leAt r 8 8 = Config.serial.toNat ∧
         leAt r 16 1 = 0x10 ∧ leAt r 17 1 = s.otp.lcs ∧ slice r 24 48 = wordBytes (s.words (F.GLB_FW_MEASURE 0).addr 12) ∧
         slice r 72 48 = wordBytes (s.words (F.GLB_CFG_MEASURE 0).addr 12) ∧ leAt r 192 8 = s.datumNs.toNat ∧ slice r 200 32 = d.payload) ∧
        Only (.free :: hostParts) [] s t) ∧
    (Sent s d 0x0101 .observe q → d.payload = [] → 65536 ≤ d.rspLen.toNat →
      Completes (.certGet d) s fun t => Answered d 0x0101 0 t ∧ (t.fn d.fn).rspBuf.length = 65536 ∧
        (t.fn d.fn).rspBuf.take (min 65536 Config.certificates.length) = Config.certificates.take 65536 ∧ Only hostParts [] s t) ∧
    (Sent s d 0x0200 .observe q → d.payload.length = 8 → leAt d.payload 4 4 = 1 → leAt d.payload 0 4 % 4 = 0 → 4 ≤ d.rspLen.toNat → d.fn = 0 →
        leAt d.payload 0 4 < 0x900000 →
      Completes (.regRead d) s fun t => Answered d 0x0200 0 t ∧
        (t.fn d.fn).rspBuf = leBytes 4 (s.shown .nonSecure (leAt d.payload 0 4)).toNat ∧
        (secureReg (leAt d.payload 0 4) = true → LoggedSec 0x010 (leAt d.payload 0 4 / 0x100000) s t) ∧
        Only (.fbk :: hostParts) evtKeys s t) ∧
    (∀ x : RegD, Sent s d 0x0201 .operate q → d.payload.length = 12 → leAt d.payload 4 4 = 1 → leAt d.payload 0 4 % 4 = 0 → d.fn = 0 →
        regDesc (leAt d.payload 0 4) = some x → leAt d.payload 0 4 / 0x100000 = 0 ∨ leAt d.payload 0 4 / 0x100000 = 14 →
      (x.hasSecure = false → Completes (.regWrite d) s fun t => Answered d 0x0201 0 t ∧
        t.word (leAt d.payload 0 4) = x.writeWord false (s.word (leAt d.payload 0 4)) (BitVec.ofNat 32 (leAt d.payload 8 4)) ∧
        Only hostParts [leAt d.payload 0 4] s t) ∧
      (x.hasSecure = true → Completes (.regWrite d) s fun t => Answered d 0x0201 0x83 t ∧ Only refusedParts evtKeys s t))

/-! ## Traverse (spec/02_traverse_classification.md) -/

/-- R62, R63: READ shows a rule in the window, with POISON; WRITE writes it from the window, its hit count zero, where the OWNER it gives holds
the index in its range, and is refused with ERR and event 0x104 otherwise; INVALIDATE empties it; READ_CLEAR shows it and zeroes its hit count.  No
other rule changes.
The model's choices used: log entry 27. -/
def Obligations.TraverseRuleCommands : Prop :=
  ∀ (s : State) (v : Via) (idx arg : Nat) (words : List Word),
    (Way trvWay 1 .observe [s.ruleParcel idx] s v idx arg words → Completes (.ruleRead v) s fun t =>
      Told trvWay 1 v True (if (s.rule idx).poisoned then 4 else 0) 0 t ∧ t.flag F.TRV_RULE_STAT_POISON = (s.rule idx).poisoned ∧
      t.words trvWin 20 = (s.rule idx).words ∧
      Only (wayParts v) (F.TRV_RULE_STAT_POISON.addr :: winKeys trvWin 20 ++ wayKeys trvWay v) s t) ∧
    (Way trvWay 2 .secure [s.ruleParcel idx] s v idx arg words → (Rule.ofWords words).owner = s.ruleParcel idx →
      Completes (.ruleWrite v) s fun t => Told trvWay 2 v True 0 0 t ∧ t.rule idx = Rule.ofWords words ∧ (∀ j, j ≠ idx → t.rule j = s.rule j) ∧
        Only (wayParts v ++ [Machine.Part.rules, .tie]) (F.TRV_STATUS_POISONED.addr :: wayKeys trvWay v) s t) ∧
    (Way trvWay 2 .secure [s.ruleParcel idx] s v idx arg words → (Rule.ofWords words).owner ≠ s.ruleParcel idx →
      Completes (.ruleWrite v) s fun t => Told trvWay 2 v True 1 0 t ∧ t.flag F.TRV_RULE_STAT_ERR = true ∧ Logged 0x104 idx t ∧
        Only (wayParts v ++ evts) (F.TRV_RULE_STAT_ERR.addr :: wayKeys trvWay v ++ evtKeys) s t) ∧
    (Way trvWay 3 .secure [s.ruleParcel idx] s v idx arg words →
      Completes (.ruleInvalidate v) s fun t => Told trvWay 3 v True 0 0 t ∧ t.rule idx = {} ∧ (∀ j, j ≠ idx → t.rule j = s.rule j) ∧
        Only (wayParts v ++ [Machine.Part.rules, .tie]) (F.TRV_STATUS_POISONED.addr :: wayKeys trvWay v) s t) ∧
    (Way trvWay 4 .operate [s.ruleParcel idx] s v idx arg words → Completes (.ruleReadClear v) s fun t =>
      Told trvWay 4 v True (if (s.rule idx).poisoned then 4 else 0) 0 t ∧ t.words trvWin 20 = (s.rule idx).words ∧
      t.rule idx = { s.rule idx with hits := 0 } ∧ (∀ j, j ≠ idx → t.rule j = s.rule j) ∧
      Only (wayParts v ++ [Machine.Part.rules, .tie]) (F.TRV_STATUS_POISONED.addr :: F.TRV_RULE_STAT_POISON.addr :: winKeys trvWin 20 ++ wayKeys trvWay v) s t)

/-- R39, R46, R55: SWAP inverts ACTIVE, with event 0x103; a write of a cap register sets it and fills its slot's bucket, BURST_64B times 64 bytes deep, or
empty where RATE_MBPS is zero; every 1.024 µs each bucket gains 0.128 × RATE_MBPS bytes up to its depth, the
fraction carried; 1 ms after a posting its event is quiet, or is posted once more where it occurred since.
The model's choices used: log entries 27, 66. -/
def Obligations.TraverseSwapBypassAndHoldOff : Prop :=
  ∀ s : State,
    Completes (.generationSwap .secure) s (fun t => t.fld F.TRV_GEN_ACTIVE = 1 - s.fld F.TRV_GEN_ACTIVE ∧ Logged 0x103 0 t ∧
      Only (evts ++ [Machine.Part.tie]) (F.TRV_GEN_ACTIVE.addr :: evtKeys) s t) ∧
    (∀ (slot : BitVec 8) (second : Bool) (v : Word), Completes (.bypassCapWrite .secure slot second v) s fun t =>
      t.fld (F.TRV_BYP_CAP_W0_RATE_MBPS slot.toNat) = (if second then s.fld (F.TRV_BYP_CAP_W0_RATE_MBPS slot.toNat) else bitsOf v 0 20) ∧
      t.fld (F.TRV_BYP_CAP_W1_BURST_64B slot.toNat) = (if second then bitsOf v 0 12 else s.fld (F.TRV_BYP_CAP_W1_BURST_64B slot.toNat)) ∧
      (t.bypBucket slot.toNat).credit = (if t.fld (F.TRV_BYP_CAP_W0_RATE_MBPS slot.toNat) = 0 then 0 else
        256 * (64 * t.fld (F.TRV_BYP_CAP_W1_BURST_64B slot.toNat))) ∧
      (∀ j, j ≠ slot.toNat → t.bypBucket j = s.bypBucket j) ∧
      Only [.bypass, .tie] [(F.TRV_BYP_CAP_W0_RATE_MBPS slot.toNat).addr + (if second then 4 else 0)] s t) ∧
    (1536 ≤ (s.cyc - s.bypAt).toNat → Completes .bypassBucketRefill s fun t => t.bypAt = s.bypAt + 1536 ∧
      (∀ slot, slot < 256 →
        let gained := (s.bypBucket slot).carry + 32768 * s.fld (F.TRV_BYP_CAP_W0_RATE_MBPS slot)
        let depth := if s.fld (F.TRV_BYP_CAP_W0_RATE_MBPS slot) = 0 then 0 else 256 * (64 * s.fld (F.TRV_BYP_CAP_W1_BURST_64B slot))
        (t.bypBucket slot).credit = min depth ((s.bypBucket slot).credit + gained / 1000) ∧
        ((t.bypBucket slot).credit < depth → (t.bypBucket slot).carry = gained % 1000)) ∧ Only [.bypass, .bypAt] [] s t) ∧
    (∀ (num : BitVec 10) (h : HoldOff), s.hold num.toNat = some h → 1500000 ≤ (s.cyc - h.start).toNat →
      (h.more = none → Completes (.holdOffExpiry num) s fun t => t.hold num.toNat = none ∧ (∀ n, n ≠ num.toNat → t.hold n = s.hold n) ∧
        Only [.holdOff] [] s t) ∧
      (∀ (scope : Nat) (p : Option Nat) (r : CntRef), h.more = some (scope, p, r) → scope < 2 ^ 32 →
        Completes (.holdOffExpiry num) s fun t => t.hold num.toNat = some { start := s.cyc } ∧ Logged num.toNat scope t ∧
          (∀ n, n ≠ num.toNat → t.hold n = s.hold n) ∧ Only (evts ++ [Machine.Part.holdOff]) evtKeys s t))

/-! ## Plat (spec/03_plat_station_table.md) -/

/-- R66, R68, R72, R73, R80, R81, R323: LOOKUP shows the entry of the key in the window; INSERT of an absent key whose channel its parcel owns, within
QUOTA and LIMIT, with a free candidate, writes the entry there, valid and hit, and charges it; REPLACE rewrites the present entry; DELETE removes it;
READ_ADDR and READ_STASH show a place, to a virtual function no other parcel's entry; FLUSH removes what its selector takes, and stays BUSY until FLUSH_DONE.
The model's choices used: log entries 13, 14, 25, 26. -/
def Obligations.StationTableCommands : Prop :=
  ∀ (s : State) (v : Via) (idx arg : Nat) (words : List Word),
    let e := windowEntry v words
    let told (op code : Nat) (t : State) : Prop :=
      Told pltWay op v (t.fld F.PLT_CMD_STATUS = code) code 0 t ∧ t.flag F.PLT_CMD_BUSY = false
    let keys := F.PLT_CMD_STATUS.addr :: wayKeys pltWay v
    (Way pltWay 1 .observe [pltParcel e] s v idx arg words → s.soundLookup (pltKey e) →
      (∀ l, s.pltFind (pltKey e) = some l → Completes (.pltLookup v) s fun t => told 1 0 t ∧
        t.words pltWin 4 = leWords 4 (leBytes 16 (s.pltAt l).toNat) ∧ Only (wayParts v) (winKeys pltWin 4 ++ keys) s t) ∧
      (s.pltFind (pltKey e) = none → Completes (.pltLookup v) s fun t => told 1 1 t ∧ Only (wayParts v) keys s t)) ∧
    (Way pltWay 2 .operate [pltParcel e] s v idx arg words → s.soundLookup (pltKey e) → s.pltFind (pltKey e) = none → s.pltScOwned e = true →
        s.fld (F.PLT_PARCEL_OCC_COUNT (pltParcel e)) < s.fld (F.PLT_PARCEL_CFG_QUOTA (pltParcel e)) →
        (pltStatic e = true ∨ pltPort e < 32 ∨ s.fld (F.PLT_PORT_OCC_COUNT (pltPort e - 32)) < s.fld (F.PLT_PORT_LIMIT (pltPort e - 32))) →
      ∀ i, s.pltFreeIn (pltCands s.pltNewGen.2.1 s.pltNewGen.2.2 (pltKey e)) = some i →
        Completes (.pltInsert v) s fun t => told 2 0 t ∧
          t.pltWay i = pltSeal (pltPut (pltPut (pltPut (pltPut e 127 127 1) 124 124 0) 7 6 2) 125 125 (if s.pltNewGen.1 then 1 else 0)) ∧
          (∀ l, l ≠ .way i → t.pltAt l = s.pltAt l) ∧
          t.fld (F.PLT_PARCEL_OCC_COUNT (pltParcel e)) = s.fld (F.PLT_PARCEL_OCC_COUNT (pltParcel e)) + 1 ∧ Plat.sameEngine s.plat t.plat ∧
          Only (wayParts v ++ [Machine.Part.plat, .tie]) (chargeKeys e ++ F.PLT_OCC_OCCUPANCY.addr :: F.PLT_STATUS_STASH_USED.addr :: keys) s t) ∧
    (Way pltWay 3 .operate [pltParcel e] s v idx arg words → s.soundLookup (pltKey e) → s.pltScOwned e = true →
      ∀ l, s.pltFind (pltKey e) = some l → Completes (.pltReplace v) s fun t => told 3 0 t ∧
        t.pltAt l = pltSeal (pltPut (pltPut e 127 127 1) 125 125 (if pltGen (s.pltAt l) then 1 else 0)) ∧
        (∀ l', l' ≠ l → t.pltAt l' = s.pltAt l') ∧ Plat.sameEngine s.plat t.plat ∧
        Only (wayParts v ++ [Machine.Part.plat, .tie]) (chargeKeys e ++ chargeKeys (s.pltAt l) ++ keys) s t) ∧
    (Way pltWay 4 .operate [pltParcel e] s v idx arg words → s.soundLookup (pltKey e) →
      ∀ l, s.pltFind (pltKey e) = some l → Completes (.pltDelete v) s fun t => told 4 0 t ∧
        t.pltAt l = 0 ∧ (∀ l', l' ≠ l → t.pltAt l' = s.pltAt l') ∧
        t.fld (F.PLT_PARCEL_OCC_COUNT (pltParcel e)) = s.fld (F.PLT_PARCEL_OCC_COUNT (pltParcel e)) - 1 ∧ Plat.sameEngine s.plat t.plat ∧
        Only (wayParts v ++ [Machine.Part.plat, .tie]) (chargeKeys (s.pltAt l) ++ F.PLT_OCC_OCCUPANCY.addr :: F.PLT_STATUS_STASH_USED.addr :: keys) s t) ∧
    (∀ (op : Nat) (c : Instr) (l : PLoc), (op, c, l) ∈ [(5, Instr.pltReadAddr v, PLoc.way (65536 * (arg / 2 ^ 18 % 4) + 4 * (arg / 16 % 16384) + arg / 4 % 4)),
          (6, .pltReadStash v, .stash (arg / 16 % 64))] →
        Way pltWay op .observe (viaVf v).toList s v idx arg words → (pltValid (s.pltAt l) = true → pltOk (s.pltAt l) = true) →
      Completes c s fun t => told op 0 t ∧ (t.words pltWin 4 = leWords 4 (leBytes 16
          (if pltValid (s.pltAt l) = true ∧ (∃ p, viaVf v = some p ∧ pltParcel (s.pltAt l) ≠ p) then (0 : BitVec 128) else s.pltAt l).toNat)) ∧
        Only (wayParts v) (winKeys pltWin 4 ++ keys) s t) ∧
    (Way pltWay 7 .operate (match viaVf v with
          | some p => [p]
          | none => if s.fld F.PLT_FLUSH_MODE = 1 then [s.fld F.PLT_FLUSH_PARCEL] else []) s v idx arg words → s.fld F.PLT_FLUSH_MODE ≤ 3 →
        tabWf (fun _ => 0) s.plat.ways = true → tabWf (fun _ => 0) s.plat.stash = true →
      Completes (.pltFlush v) s fun t => t.flag F.PLT_CMD_BUSY = true ∧
        (∀ l, t.pltAt l = if flushes (s.word F.PLT_FLUSH_MODE.addr) (viaVf v) (s.pltAt l) = true then 0 else s.pltAt l) ∧ t.plat.flush.isSome = true ∧
        t.waits = s.waits ++ (match v with | .ring d => [{ d := d, opcode := 0x1407 }] | .reg _ _ => []) ∧
        Only (wayParts v ++ [Machine.Part.plat, .tie, .waits, .block 4]) (wayKeys pltWay v) s t)

/-- R69 to R75: the learn engine serves a refresh by setting HIT, a learn of an absent key by placing its entry, held down and charged, and counting
it, or counts it as limited, a move by rewriting the entry's source, and a conflict by counting it, with event 0x112; 1 ms after its record
HOLD ends; the sweeper ages a dynamic entry, HIT to AGE to removal; at the end of a pass the live counts take the tallies.
The model's choices used: log entries 12, 14, 66. -/
def Obligations.StationLearningAndAging : Prop :=
  ∀ s : State,
    (∀ r : LearnReq, s.plat.queue.find? (fun r => !s.pltHeld r) = some r → s.soundLookup ⟨r.parcel, r.vid, r.mac⟩ →
      (∀ l, r.kind = .refresh → s.pltFind ⟨r.parcel, r.vid, r.mac⟩ = some l → pltSrc (s.pltAt l) = r.rxSc →
        Completes .learnRequest s fun t => t.plat.queue = s.plat.queue.erase r ∧ t.pltAt l = pltPut (s.pltAt l) 7 7 1 ∧
          (∀ l', l' ≠ l → t.pltAt l' = s.pltAt l') ∧ Only [.plat] [] s t) ∧
      (∀ h i, r.kind = .learn → s.pltFind ⟨r.parcel, r.vid, r.mac⟩ = none → r.parcel < 64 → r.vid < 4096 → r.mac < 2 ^ 48 → 32 ≤ r.port → r.port < 64 →
          s.fld (F.PLT_PORT_OCC_COUNT (r.port - 32)) < s.fld (F.PLT_PORT_LIMIT (r.port - 32)) →
          s.fld (F.PLT_PARCEL_OCC_COUNT r.parcel) < s.fld (F.PLT_PARCEL_CFG_QUOTA r.parcel) → s.pltFreeHold = some h →
          s.pltFreeIn (pltCands s.pltNewGen.2.1 s.pltNewGen.2.2 ⟨r.parcel, r.vid, r.mac⟩) = some i →
        Completes .learnRequest s fun t => t.plat.queue = s.plat.queue.erase r ∧
          (let e := t.pltWay i
           pltValid e = true ∧ pltStatic e = false ∧ pltOk e = true ∧ pltKey e = ⟨r.parcel, r.vid, r.mac⟩ ∧ pltSc e = r.sc % 65536 ∧ pltPort e = r.port ∧
           pltSrc e = r.rxSc % 65536 ∧ pltHold e = true ∧ pltTag e = h ∧ pltHit e = true ∧ pltAge e = false) ∧
          (∀ l, l ≠ .way i → t.pltAt l = s.pltAt l) ∧ tabGet none t.plat.hold h = some ⟨r.parcel, r.vid, r.mac, s.cyc⟩ ∧
          t.fld (F.PLT_PARCEL_OCC_COUNT r.parcel) = s.fld (F.PLT_PARCEL_OCC_COUNT r.parcel) + 1 ∧
          t.fld (F.PLT_PORT_OCC_COUNT (r.port - 32)) = s.fld (F.PLT_PORT_OCC_COUNT (r.port - 32)) + 1 ∧
          t.count (C.PLT_LEARNED r.parcel) = s.count (C.PLT_LEARNED r.parcel) + 1 ∧
          Only [.plat, .cnt] [(F.PLT_PARCEL_OCC_COUNT r.parcel).addr, (F.PLT_PORT_OCC_COUNT (r.port - 32)).addr, F.PLT_OCC_OCCUPANCY.addr,
            F.PLT_STATUS_STASH_USED.addr] s t) ∧
      (r.kind = .learn → s.pltFind ⟨r.parcel, r.vid, r.mac⟩ = none →
          s.fld (F.PLT_PARCEL_CFG_QUOTA r.parcel) ≤ s.fld (F.PLT_PARCEL_OCC_COUNT r.parcel) →
        Completes .learnRequest s fun t => t.plat = { s.plat with queue := s.plat.queue.erase r } ∧
          t.count (C.PLT_LEARN_LIMIT r.parcel) = s.count (C.PLT_LEARN_LIMIT r.parcel) + 1 ∧ Only [.plat, .cnt] [] s t) ∧
      (∀ l h, r.kind = .move → s.pltFind ⟨r.parcel, r.vid, r.mac⟩ = some l → pltSrc (s.pltAt l) ≠ r.rxSc → pltStatic (s.pltAt l) = false →
          pltHold (s.pltAt l) = false → r.port < 64 → s.fld (F.PLT_PORT_OCC_COUNT (r.port - 32)) < s.fld (F.PLT_PORT_LIMIT (r.port - 32)) →
          s.pltFreeHold = some h →
        Completes .learnRequest s fun t =>
          (let e := t.pltAt l
           pltValid e = true ∧ pltOk e = true ∧ pltKey e = pltKey (s.pltAt l) ∧ pltSc e = r.sc % 65536 ∧ pltPort e = r.port ∧ pltSrc e = r.rxSc % 65536 ∧
           pltHold e = true ∧ pltTag e = h) ∧
          (∀ l', l' ≠ l → t.pltAt l' = s.pltAt l') ∧ tabGet none t.plat.hold h = some ⟨r.parcel, r.vid, r.mac, s.cyc⟩ ∧
          t.count (C.PLT_MOVED r.port) = s.count (C.PLT_MOVED r.port) + 1 ∧
          Only [.plat, .cnt] ((F.PLT_PORT_OCC_COUNT (r.port - 32)).addr :: chargeKeys (s.pltAt l)) s t) ∧
      (r.kind = .conflict → Completes .learnRequest s fun t => t.plat = { s.plat with queue := s.plat.queue.erase r } ∧
          t.count (C.PLT_MOVE_CONFLICT r.port) = s.count (C.PLT_MOVE_CONFLICT r.port) + 1 ∧ (s.hold 0x112 = none → r.port < 64 → Logged 0x112 r.port t) ∧
          Only (evts ++ [Machine.Part.plat, .cnt, .holdOff]) evtKeys s t)) ∧
    (∀ (n : BitVec 12) (h : HoldRec) (l : PLoc), tabGet none s.plat.hold n.toNat = some h → 1500000 ≤ (s.cyc - h.since).toNat →
        s.soundLookup ⟨h.parcel, h.vid, h.mac⟩ → s.pltFind ⟨h.parcel, h.vid, h.mac⟩ = some l →
      Completes (.holdDownExpiry n) s fun t => tabGet none t.plat.hold n.toNat = none ∧
        t.pltAt l = (if pltTag (s.pltAt l) = n.toNat then pltSeal (pltPut (s.pltAt l) 124 124 0) else s.pltAt l) ∧
        (∀ l', l' ≠ l → t.pltAt l' = s.pltAt l') ∧ Only [.plat] [] s t) ∧
    (∀ visit : List PLoc, (s.plat.sweeper < 65536 ∧ visit = (List.range 4).map (fun w => .way (4 * s.plat.sweeper + w)) ∨
          s.plat.sweeper = 65536 ∧ visit = (List.range 64).map .stash) → (∀ l ∈ visit, pltValid (s.pltAt l) = true → pltOk (s.pltAt l) = true) →
      Completes .agingSweep s fun t => t.plat.sweeper = s.plat.sweeper + 1 ∧ (∀ l, l ∉ visit → t.pltAt l = s.pltAt l) ∧
        (∀ l ∈ visit, let e := s.pltAt l
          t.pltAt l = if pltValid e = false ∨ pltStatic e = true ∨ s.flag F.PLT_AGE_EN = false then e
            else if pltHit e = true then pltPut e 7 6 0 else if pltAge e = true then 0 else pltPut e 6 6 1) ∧
        Only [.plat, .cnt, .block 4] [] s t) ∧
    (65536 < s.plat.sweeper → Completes .sweepPassEnd s fun t =>
      (∀ p, p < 64 → t.fld (F.PLT_PARCEL_OCC_COUNT p) = tabGet 0 s.plat.tallyParcel p % 2 ^ 19) ∧
      (∀ n, n < 32 → t.fld (F.PLT_PORT_OCC_COUNT n) = tabGet 0 s.plat.tallyPort (n + 32) % 2 ^ 19) ∧
      t.plat = { s.plat with sweeper := 0, tallyParcel := [], tallyPort := [] } ∧
      Only [.plat] (winKeys (F.PLT_PARCEL_OCC_COUNT 0).addr 64 ++ winKeys (F.PLT_PORT_OCC_COUNT 0).addr 32) s t)

/-- R76 to R78, R81: START begins a rebuild under the seeds of SEED_NEXT0 and SEED_NEXT1, or resumes a stalled one; the walker passes over a bucket with nothing
of the old generation, takes an entry to its free candidate under the new seeds, and after the last stash entry makes the new seeds current, with event
0x116; firmware starts one when the stash reaches AUTO_THRESH; FLUSH_DONE ends a flush and answers the ring that asked for it.
The model's choices used: log entry 13. -/
def Obligations.StationRebuildAndFlushEnd : Prop :=
  ∀ s : State,
    (∀ w : World, w ≠ .nonSecure →
      (s.flag F.PLT_STATUS_REBUILD_ACTIVE = false → Completes (.rebuildStart w) s fun t =>
        t.plat = { s.plat with next0 := s.word F.PLT_SEED_NEXT0.addr, next1 := s.word F.PLT_SEED_NEXT1.addr, walker := 0 } ∧
        t.flag F.PLT_STATUS_REBUILD_ACTIVE = true ∧ t.flag F.PLT_REBUILD_START = true ∧
        t.flag F.PLT_STATUS_SEED_GEN = s.flag F.PLT_STATUS_SEED_GEN ∧
        Only [.plat, .tie] [F.PLT_STATUS_REBUILD_ACTIVE.addr, F.PLT_REBUILD_START.addr] s t) ∧
      (s.flag F.PLT_STATUS_REBUILD_ACTIVE = true → s.flag F.PLT_STATUS_REBUILD_STALLED = true → Completes (.rebuildStart w) s fun t =>
        t.flag F.PLT_STATUS_REBUILD_STALLED = false ∧ t.flag F.PLT_STATUS_REBUILD_ACTIVE = true ∧ Only [.tie] [F.PLT_STATUS_REBUILD_STALLED.addr] s t)) ∧
    (s.flag F.PLT_STATUS_REBUILD_ACTIVE = true → s.flag F.PLT_STATUS_REBUILD_STALLED = false → s.plat.walker < 65536 →
      ((∀ w, w < 4 → let e := s.pltWay (4 * s.plat.walker + w)
          pltValid e = true → pltOk e = true ∧ pltGen e ≠ s.flag F.PLT_STATUS_SEED_GEN) →
        Completes .rebuildMigrate s fun t => t.plat = { s.plat with walker := s.plat.walker + 1 } ∧ Only [.plat] [] s t) ∧
      (∀ i, let e := s.pltWay (4 * s.plat.walker)
          pltValid e = true → pltOk e = true → pltGen e = s.flag F.PLT_STATUS_SEED_GEN → (∀ w, 0 < w → w < 4 → pltValid (s.pltWay (4 * s.plat.walker + w)) = false) →
          s.pltFreeIn (pltCands s.plat.next0 s.plat.next1 (pltKey e)) = some i →
          (∀ w, 0 < w → w < 4 → i ≠ 4 * s.plat.walker + w) →
        Completes .rebuildMigrate s fun t => t.plat.walker = s.plat.walker + 1 ∧ t.pltWay (4 * s.plat.walker) = 0 ∧
          t.pltWay i = pltSeal (pltPut e 125 125 (if s.flag F.PLT_STATUS_SEED_GEN then 0 else 1)) ∧
          (∀ l, l ≠ .way i → l ≠ .way (4 * s.plat.walker) → t.pltAt l = s.pltAt l) ∧ Only [.plat, .block 4] [] s t)) ∧
    (s.flag F.PLT_STATUS_REBUILD_ACTIVE = true → s.flag F.PLT_STATUS_REBUILD_STALLED = false → s.plat.walker = 65599 → pltValid (s.pltStashAt 63) = false →
      Completes .rebuildMigrate s fun t => t.plat = { s.plat with seed0 := s.plat.next0, seed1 := s.plat.next1, walker := 0 } ∧
        t.flag F.PLT_STATUS_SEED_GEN = !s.flag F.PLT_STATUS_SEED_GEN ∧ t.flag F.PLT_STATUS_REBUILD_ACTIVE = false ∧ t.flag F.PLT_REBUILD_START = false ∧
        Logged 0x116 0 t ∧ Only (evts ++ [Machine.Part.plat]) (F.PLT_STATUS_REBUILD_ACTIVE.addr :: F.PLT_REBUILD_START.addr :: evtKeys) s t) ∧
    (s.fld F.PLT_STASH_CFG_AUTO_THRESH ≠ 0 → s.fld F.PLT_STASH_CFG_AUTO_THRESH ≤ s.fld F.PLT_STATUS_STASH_USED →
        s.flag F.PLT_STATUS_REBUILD_ACTIVE = false →
      Completes .stashThreshold s fun t => t.flag F.PLT_STATUS_REBUILD_ACTIVE = true ∧
        t.plat = { s.plat with next0 := t.word F.PLT_SEED_NEXT0.addr, next1 := t.word F.PLT_SEED_NEXT1.addr, walker := 0 } ∧
        Only [.plat, .tie, .free] [F.PLT_STATUS_REBUILD_ACTIVE.addr, F.PLT_REBUILD_START.addr, F.PLT_SEED_NEXT0.addr, F.PLT_SEED_NEXT1.addr] s t) ∧
    (s.plat.flush.isSome = true → (∀ r ∈ s.plat.queue, s.pltHeld r = false) →
      (s.waits = [] → Completes .pltFlushDone s fun t => t.plat = { s.plat with flush := none, flushRing := false } ∧
        t.flag F.PLT_CMD_BUSY = false ∧ t.fld F.PLT_CMD_STATUS = 0 ∧ Only [.plat] [F.PLT_CMD_STATUS.addr] s t) ∧
      (∀ w : Wait, s.waits = [w] → w.opcode = 0x1407 → w.mute = false → s.plat.flushRing = true → s.flag (F.R2_RING_CTL_MSG_EN w.d.fn) = true →
          (s.fn w.d.fn).stopped = false → 0 < s.fld (F.R2_MSG_SIZE w.d.fn) → 32 ≤ w.d.rspLen.toNat → w.d.writeOk = true →
        Completes .pltFlushDone s fun t => Answered w.d 0x1407 0 t ∧ (t.fn w.d.fn).rspBuf = blockRsp 0 0 (s.words pltWin 4) ∧ t.waits = [] ∧
          t.flag F.PLT_CMD_BUSY = false ∧ t.plat = { s.plat with flush := none, flushRing := false } ∧
          Only (.plat :: .waits :: hostParts) [F.PLT_CMD_STATUS.addr] s t))

/-! ## Secure channels and associations (spec/04_macsec_associations.md) -/

/-- R90, R91, R97 to R99, R122: SC_READ shows a channel; SC_WRITE takes the entry in the window unless R91 denies it; SC_SWITCH to an INSTALLED association moves CUR_AN,
the old association draining until its last heat has gone; SC_SCHEDULE sets a pending switch in the future, SC_CANCEL ends it; a pending switch that comes due
is made, or is cancelled with event 0x18A.
The model's choices used: log entries 15, 16, 21, 66. -/
def Obligations.SecureChannelCommands : Prop :=
  ∀ (s : State) (v : Via) (idx arg : Nat) (words : List Word),
    let told (op code : Nat) (t : State) : Prop :=
      Told secWay op v (t.fld F.SEC_CMD_STATUS = code) code 0 t ∧ t.flag F.SEC_CMD_BUSY = false
    let keys := F.SEC_CMD_STATUS.addr :: wayKeys secWay v
    let own := if (s.chan idx).valid then [(s.chan idx).parcel] else []
    (Way secWay 1 .observe own s v idx arg words → idx < 65536 → (s.chan idx).valid = true → Completes (.scRead v) s fun t => told 1 0 t ∧
      t.words secWin 8 = (s.chan idx).toWords ∧ Only (wayParts v) (winKeys secWin 8 ++ keys) s t) ∧
    (Way secWay 2 .secure (own ++ [(Chan.ofWords words).parcel]) s v idx arg words → idx < 65536 → (s.chan idx).valid = false →
        s.scDenied idx (Chan.ofWords words) = false → s.fld F.SEC_PIN_PINNED_SCS < 4096 →
        ((Chan.ofWords words).valid = true → s.fld (F.GLB_PARCEL_USE_W0_SCS (Chan.ofWords words).parcel) < s.fld (F.GLB_PARCEL_LIM_W0_SC_MAX (Chan.ofWords words).parcel) ∧
          ((Chan.ofWords words).pinned = true → s.fld (F.GLB_PARCEL_USE_W1_PINNED (Chan.ofWords words).parcel) < s.fld (F.GLB_PARCEL_LIM_W1_PIN_MAX (Chan.ofWords words).parcel))) →
      Completes (.scWrite v) s fun t => told 2 0 t ∧ t.chan idx = { Chan.ofWords words with swAn := 0, swAt := 0, swPend := false } ∧
        (∀ j, j ≠ idx → t.chan j = s.chan j) ∧ t.sec = { s.sec with chans := t.sec.chans } ∧
        t.fld F.SEC_PIN_PINNED_SCS = s.fld F.SEC_PIN_PINNED_SCS + (if (Chan.ofWords words).valid = true ∧ (Chan.ofWords words).pinned = true then 1 else 0) ∧
        Only (wayParts v ++ [Machine.Part.sec, .tie]) (F.SEC_PIN_PINNED_SCS.addr :: [(s.chan idx).parcel % 64, (Chan.ofWords words).parcel].flatMap (fun p =>
          [(F.GLB_PARCEL_USE_W0_SCS p).addr, (F.GLB_PARCEL_USE_W1_PINNED p).addr]) ++ keys) s t) ∧
    (Way secWay 2 .secure (own ++ [(Chan.ofWords words).parcel]) s v idx arg words → idx < 65536 → s.scDenied idx (Chan.ofWords words) = true →
      Completes (.scWrite v) s fun t => told 2 9 t ∧ Logged 0x18F idx t ∧ Only (wayParts v ++ evts) (evtKeys ++ keys) s t) ∧
    (Way secWay 8 .operate own s v idx arg words → idx < 65536 → (s.chan idx).valid = true → (s.chan idx).dir = false →
      ∀ old new : Nat, old = 4 * idx + (s.chan idx).curAn → new = 4 * idx + bitsOf (words.getD 0 0) 0 2 → (s.ctx new).st = .installed → (s.ctx old).st = .active →
        (s.chan idx).curAn < 4 → Completes (.scSwitch v) s fun t => told 8 0 t ∧ t.chan idx = { s.chan idx with curAn := new % 4, swAn := new % 4, swPend := false } ∧
        t.ctx new = { s.ctx new with st := .active } ∧
        t.ctx old = { s.ctx old with st := if s.saHeats old = 0 then .installed else .draining } ∧
        (∀ j, j ≠ old → j ≠ new → t.ctx j = s.ctx j) ∧ Only (wayParts v ++ evts ++ [Machine.Part.sec, .tie]) (evtKeys ++ keys) s t) ∧
    (Way secWay 9 .operate own s v idx arg words → idx < 65536 → (s.chan idx).valid = true → (s.chan idx).dir = false →
      (s.flag F.DAT_STATUS_SYNC = true ∨ s.flag F.SEC_CFG_ALLOW_UNSYNC = true) →
      (0 < s.until_ (BitVec.ofNat 64 (val64 words 2)) → Completes (.scSchedule v) s fun t => told 9 0 t ∧
        t.chan idx = { s.chan idx with swAn := bitsOf (words.getD 0 0) 0 2, swAt := BitVec.ofNat 64 (val64 words 2), swPend := true } ∧
        t.sec = { s.sec with chans := t.sec.chans } ∧ (∀ j, j ≠ idx → t.chan j = s.chan j) ∧ Only (wayParts v ++ [Machine.Part.sec, .tie]) keys s t) ∧
      (s.until_ (BitVec.ofNat 64 (val64 words 2)) ≤ 0 → Completes (.scSchedule v) s fun t => told 9 7 t ∧
        Only (wayParts v ++ evts) (evtKeys ++ keys) s t)) ∧
    (Way secWay 10 .operate own s v idx arg words → idx < 65536 → (s.chan idx).valid = true → Completes (.scCancel v) s fun t => told 10 0 t ∧
      t.chan idx = { s.chan idx with swPend := false } ∧ (∀ j, j ≠ idx → t.chan j = s.chan j) ∧ t.sec = { s.sec with chans := t.sec.chans } ∧
      Only (wayParts v ++ [Machine.Part.sec, .tie]) keys s t) ∧
    (∀ sc : BitVec 16, (s.chan sc.toNat).valid = true → (s.chan sc.toNat).swPend = true → s.until_ (s.chan sc.toNat).swAt ≤ 0 →
      let new := 4 * sc.toNat + (s.chan sc.toNat).swAn
      ((s.flag F.DAT_STATUS_SYNC = false ∧ s.flag F.SEC_CFG_ALLOW_UNSYNC = false) ∨ (s.ctx new).st ≠ .installed →
        Completes (.scheduledSwitchDue sc) s fun t => t.chan sc.toNat = { s.chan sc.toNat with swPend := false } ∧ (∀ j, t.ctx j = s.ctx j) ∧
          Logged 0x18A sc.toNat t ∧ Only (evts ++ [Machine.Part.sec]) evtKeys s t) ∧
      ((s.flag F.DAT_STATUS_SYNC = true ∨ s.flag F.SEC_CFG_ALLOW_UNSYNC = true) → (s.ctx new).st = .installed →
        Completes (.scheduledSwitchDue sc) s fun t => (t.chan sc.toNat).curAn = (s.chan sc.toNat).swAn ∧ (t.chan sc.toNat).swPend = false ∧
          (t.ctx new).st = .active ∧ Only (evts ++ [Machine.Part.sec, .tie]) evtKeys s t))

/-- R95, R96, R101 to R105, R117 to R119, R122: SA_READ, SA_STATS and SA_PN show an association; SA_INSTALL takes a key from a handoff, which it empties,
and leaves it INSTALLED at the PN given; SA_ENABLE makes a receive association ACTIVE, SA_RETIRE ends it at once or drains it; SA_RAISE_PN raises NEXT_PN, above
PN_LIMIT to EXHAUSTED; SA_REVOKE revokes it and its key goes; SA_DELETE empties it; draining and quarantine end at their time.
The model's choices used: log entries 15, 17, 18, 20, 66. -/
def Obligations.AssociationCommands : Prop :=
  ∀ (s : State) (v : Via) (idx arg : Nat) (words : List Word),
    let told (op code : Nat) (t : State) : Prop :=
      Told secWay op v (t.fld F.SEC_CMD_STATUS = code) code 0 t ∧ t.flag F.SEC_CMD_BUSY = false
    let keys := F.SEC_CMD_STATUS.addr :: wayKeys secWay v
    let quench := [F.HRT_QUENCH_LAST_SCOPE.addr, F.HRT_QUENCH_LAST_TIME.addr]
    let way (op : Nat) (cls : Cls) : Prop := Way secWay op cls [(s.saChan idx).parcel] s v idx arg words ∧ (s.saChan idx).valid = true
    let others (t : State) : Prop := (∀ j, j ≠ idx → t.ctx j = s.ctx j) ∧ t.sec.chans = s.sec.chans
    (way 3 .observe → Completes (.saRead v) s fun t => told 3 0 t ∧ t.words secWin 32 = s.ctxWords idx ∧ (∀ i, 16 ≤ i → i < 32 → t.word (secWin + 4 * i) = 0) ∧
      Only (wayParts v) (winKeys secWin 32 ++ keys) s t) ∧
    (way 4 .operate → ∀ k : Handoff, s.handoff arg = some k → (s.ctx idx).st = .empty → (s.ctx idx).resvWait = false → (s.ctx idx).poison = false → k.revoked = false →
        k.parcel = (s.saChan idx).parcel → k.mat.sak.length = (s.saChan idx).sakLen → ((s.saChan idx).xpn = true → k.mat.salt.isSome = true) →
        val64 words 8 ≤ (s.saChan idx).pnMax → ((s.saChan idx).dir = false → 0 < val64 words 2 ∧
          val64 words 2 ≤ (if val64 words 8 = 0 then (s.saChan idx).pnMax else val64 words 8)) →
        ((s.saChan idx).pinned = true ∨ s.needsPin (words.getD 0 0) = false ∧ (s.ddrCtx = true ∨ s.unpinnedCount < 32768)) → (s.saChan idx).static_ = false →
      Completes (.saInstall v) s fun t => told 4 0 t ∧
        (t.ctx idx).st = .installed ∧ (t.ctx idx).key = some k.mat ∧ (t.ctx idx).keyGen = ((s.ctx idx).keyGen + 1) % 65536 ∧
        (t.ctx idx).limit = (if val64 words 8 = 0 then (s.saChan idx).pnMax else val64 words 8) ∧
        ((s.saChan idx).dir = false → (t.ctx idx).next = val64 words 2) ∧
        ((s.saChan idx).dir = true → (t.ctx idx).floor = val64 words 2 ∧ (t.ctx idx).high = val64 words 4) ∧
        (∀ n, n < 8 → tabGet 0 t.saStat (8 * idx + n) = 0) ∧ (tabGet {} t.hrt.hands (arg % 64)).held = none ∧ others t ∧
        Only (wayParts v ++ [Machine.Part.sec, .hrt, .tie, .saStat, .free]) (F.HRT_HANDOFF_IN_USE.addr :: F.SEC_STATUS_STATIC_SAS.addr :: F.TIE_STATUS_MARK_USED.addr :: quench ++ keys) s t) ∧
    (way 5 .operate → (s.ctx idx).st ∈ [SaSt.installed, .exhausted, .revoked, .unusable] →
      (s.retireRoom idx = true → Completes (.saDelete v) s fun t => told 5 0 t ∧ t.ctx idx = { keyGen := (s.ctx idx).keyGen } ∧ others t ∧
        Only (wayParts v ++ [Machine.Part.sec, .tie, .free]) (F.SEC_STATUS_STATIC_SAS.addr :: F.TIE_STATUS_MARK_USED.addr :: quench ++ keys) s t) ∧
      (s.retireRoom idx = false → Completes (.saDelete v) s fun t => t.flag F.SEC_CMD_BUSY = true ∧ t.sec.delWait = some idx ∧ t.ctx idx = s.ctx idx ∧ others t ∧
        Only (wayParts v ++ [Machine.Part.sec, .waits]) keys s t)) ∧
    (way 6 .operate → (s.ctx idx).poison = false → (s.saChan idx).dir = true → (s.ctx idx).st = .installed → Completes (.saEnable v) s fun t => told 6 0 t ∧
      t.ctx idx = { s.ctx idx with st := .active } ∧ others t ∧ Only (wayParts v ++ [Machine.Part.sec, .tie]) keys s t) ∧
    (way 7 .operate → (s.ctx idx).poison = false → (s.saChan idx).dir = true → (s.ctx idx).st = .active → (words.getD 0 0).toNat ≤ 60000000 →
      Completes (.saRetire v) s fun t => told 7 0 t ∧
        t.ctx idx = (if words.getD 0 0 = 0 then { s.ctx idx with st := .installed } else
          { s.ctx idx with st := .draining, drainUntil := s.datumNs + BitVec.ofNat 64 (1000 * (words.getD 0 0).toNat) }) ∧ others t ∧
        Only (wayParts v ++ [Machine.Part.sec, .tie]) keys s t) ∧
    (way 11 .operate → (s.ctx idx).poison = false → (s.saChan idx).dir = false → (s.ctx idx).st = .installed ∨ (s.ctx idx).st = .active → tabGet 0 s.tie.armed idx = 0 →
      Completes (.saRaisePn v) s fun t => told 11 0 t ∧ (t.ctx idx).next = max (s.ctx idx).next (val64 words 2) ∧
        (t.ctx idx).st = (if (s.ctx idx).limit < val64 words 2 then .exhausted else (s.ctx idx).st) ∧ ((s.ctx idx).limit < val64 words 2 → Logged 0x188 idx t) ∧ others t ∧
        Only (wayParts v ++ evts ++ [Machine.Part.sec, .tie]) (F.TIE_STATUS_MARK_USED.addr :: evtKeys ++ keys) s t) ∧
    (way 12 .secure → (s.ctx idx).poison = false → (s.ctx idx).st ∉ [SaSt.empty, .unusable, .revoked] → Completes (.saRevoke v) s fun t => told 12 0 t ∧
      (t.ctx idx).st = .revoked ∧ (t.ctx idx).key = none ∧ Logged 0x18D idx t ∧ others t ∧
      Only (wayParts v ++ evts ++ [Machine.Part.sec, .tie, .free]) (F.SEC_STATUS_RETIRE_PEND.addr :: quench ++ evtKeys ++ keys) s t) ∧
    (way 13 .observe → (s.ctx idx).poison = false → Completes (.saStats v) s fun t => told 13 0 t ∧
      (∀ k, k < 7 → t.word (secWin + 8 * k) = (tabGet 0 s.saStat (8 * idx + k)).truncate 32 ∧
        t.word (secWin + 8 * k + 4) = ((tabGet 0 s.saStat (8 * idx + k)) >>> 32).truncate 32) ∧ Only (wayParts v) (winKeys secWin 16 ++ keys) s t) ∧
    (way 14 .observe → (s.ctx idx).poison = false → Completes (.saPn v) s fun t => told 14 0 t ∧
      (t.word (secWin + 16)).toNat = (s.ctx idx).st.code ∧
      ((s.saChan idx).dir = true → t.word (secWin + 8) = BitVec.ofNat 32 (s.ctx idx).high ∧ t.word (secWin + 12) = BitVec.ofNat 32 ((s.ctx idx).high / 2 ^ 32)) ∧
      ((s.saChan idx).dir = false → tabGet 0 s.tie.armed idx = 0 → t.word secWin = BitVec.ofNat 32 (s.ctx idx).next) ∧ Only (wayParts v) (winKeys secWin 5 ++ keys) s t) ∧
    (∀ sa : BitVec 18, (s.ctx sa.toNat).st = .draining → (s.saChan sa.toNat).dir = true → s.until_ (s.ctx sa.toNat).drainUntil ≤ 0 →
      Completes (.drainExpiry sa) s fun t => t.ctx sa.toNat = { s.ctx sa.toNat with st := .installed } ∧ (∀ j, j ≠ sa.toNat → t.ctx j = s.ctx j) ∧ Only [.sec] [] s t) ∧
    (∀ sa : BitVec 18, (s.ctx sa.toNat).st = .quarantined → s.until_ (s.ctx sa.toNat).quarUntil ≤ 0 →
      Completes (.quarantineExpiry sa) s fun t => (t.ctx sa.toNat).st = (if (s.ctx sa.toNat).wasDraining = false then .active
          else if 0 < s.until_ (s.ctx sa.toNat).drainUntil then .draining else .installed) ∧ (∀ j, j ≠ sa.toNat → t.ctx j = s.ctx j) ∧ Only [.sec] [] s t)

/-! ## The cipher complex (spec/05_anvil_cipher_complex.md) -/

/-- R135, R137, R141 to R145: a known-answer test runs when due and counts; a failed one, as any fault, takes the anvil out of service with event 0x211, held by
ANV_FAULT where that is free, and ends the frames on it; RETURN tests an anvil and brings it back with event 0x212; REMOVE takes it out once it has
drained; the highest idle general anvil is gated, the lowest gated one wakes when frames wait, in 2 µs; a saved frame returns to a stream.
The model's choices used: log entries 40, 41, 66. -/
def Obligations.AnvilServiceAndPower : Prop :=
  ∀ (s : State) (a : Fin 40),
    let quiet := s.framesOf (s.onAnvil a) = []
    let outOfService (t : State) : Prop := t.flag (F.ANV_CTL_IN_SVC a) = false ∧
      (if t.fld F.ANV_STATUS_IN_SVC < t.fld F.ANV_MIN_SVC_MIN then Logged 0x213 0 t else Logged 0x211 a t) ∧
      (∀ b : Fin 40, b ≠ a → t.flag (F.ANV_CTL_IN_SVC b) = s.flag (F.ANV_CTL_IN_SVC b))
    let fault (cause : Nat) (t : State) : Prop := outOfService t ∧ (s.flag F.ANV_FAULT_VALID = false →
        t.flag F.ANV_FAULT_VALID = true ∧ t.fld F.ANV_FAULT_CAUSE = cause ∧ t.fld F.ANV_FAULT_ANVIL = a)
    let testDue := s.anvSvc a = true ∧ s.flag F.ANV_KAT_EN = true ∧ 1500 * max 1 (s.fld F.ANV_KAT_PERIOD_US) ≤ (s.cyc - tabGet 0 s.anvKat a).toNat
    (testDue → Completes (.knownAnswerTest a true) s fun t => t.count (C.ANV_KAT_RUN a) = s.count (C.ANV_KAT_RUN a) + 1 ∧ tabGet 0 t.anvKat a = s.cyc ∧
      Only [.anvKat, .cnt] [] s t) ∧
    (testDue → quiet → Completes (.knownAnswerTest a false) s fun t => fault 3 t ∧ Only (evts ++ [Machine.Part.anvKat, .cnt, .tie, .block 6]) evtKeys s t) ∧
    (∀ cause : Fin 4, s.anvSvc a = true → quiet → Completes (.anvilFault a cause) s fun t => fault (cause + 1) t ∧
      Only (evts ++ [Machine.Part.tie, .block 6]) evtKeys s t) ∧
    (∀ (cause : Fin 4) (i : Nat) (f : Machine.Frm), s.anvSvc a = true → s.framesOf (s.onAnvil a) = [(i, f)] → s.frame i = some f → f.first = false → s.sec.delWait = none →
      Completes (.anvilFault a cause) s fun t => t.flag (F.ANV_CTL_IN_SVC a) = false ∧ t.frame i = none ∧ (∀ j, j ≠ i → t.frame j = s.frame j) ∧
        t.count (C.ANV_FAULT_DROP a) = s.count (C.ANV_FAULT_DROP a) + 1 ∧ Only pathParts [] s t) ∧
    (s.anvSvc a = false → s.flag (F.ANV_CTL_RETURN a) = false → Completes (.anvReturn .secure a) s fun t => t.flag (F.ANV_CTL_RETURN a) = true ∧
      tabGet 0 t.anvRet a = s.cyc ∧ Only [.anvRet] [(F.ANV_CTL_RETURN a).addr] s t) ∧
    (s.anvSvc a = true → Completes (.anvReturn .secure a) s fun t => Logged 0x214 a t ∧ Only evts evtKeys s t) ∧
    (s.flag (F.ANV_CTL_RETURN a) = true → 150000 ≤ (s.cyc - tabGet 0 s.anvRet a).toNat →
      (Completes (.anvReturnSelfTestDone a true) s fun t => t.flag (F.ANV_CTL_RETURN a) = false ∧ t.flag (F.ANV_CTL_IN_SVC a) = true ∧
        t.flag (F.ANV_CTL_AWAKE a) = true ∧ Logged 0x212 a t ∧ Only (evts ++ [Machine.Part.anvIdle, .anvKat, .block 6]) evtKeys s t) ∧
      (Completes (.anvReturnSelfTestDone a false) s fun t => t.flag (F.ANV_CTL_RETURN a) = false ∧ t.flag (F.ANV_CTL_IN_SVC a) = s.flag (F.ANV_CTL_IN_SVC a) ∧
        Only [] [(F.ANV_CTL_RETURN a).addr, F.ANV_FAULT_VALID.addr] s t)) ∧
    (s.anvSvc a = true → Completes (.anvRemove .secure a) s fun t => t.flag (F.ANV_CTL_REMOVE a) = true ∧ Only [] [(F.ANV_CTL_REMOVE a).addr] s t) ∧
    (s.flag (F.ANV_CTL_REMOVE a) = true → quiet → Completes (.anvRemoveDrained a) s fun t => outOfService t ∧ t.flag (F.ANV_CTL_REMOVE a) = false ∧
      Only (evts ++ [Machine.Part.block 6]) evtKeys s t) ∧
    (let idle (b : Nat) : Prop := s.anvSvc b = true ∧ s.anvAwake b = true ∧ b ∉ s.reserve ∧ s.framesOf (s.onAnvil b) = [] ∧
        1500 * max 1 (s.fld F.ANV_PWR_IDLE_US) ≤ (s.cyc - tabGet 0 s.anvIdle b).toNat
     s.flag F.ANV_PWR_GATE_EN = true → max 8 (min 40 (s.fld F.ANV_PWR_MIN_AWAKE)) < s.fld F.ANV_STATUS_AWAKE → idle a → (∀ b, a.val < b → b < 40 → ¬ idle b) →
      Completes .powerGate s fun t => t.flag (F.ANV_CTL_AWAKE a) = false ∧ (∀ b : Fin 40, b ≠ a → t.flag (F.ANV_CTL_AWAKE b) = s.flag (F.ANV_CTL_AWAKE b)) ∧
        Only [.block 6] [] s t) ∧
    (let gated (b : Nat) : Prop := s.anvSvc b = true ∧ s.anvAwake b = false ∧ tabGet none s.anvWake b = none
     (∃ i f, s.frames = [(i, some f)] ∧ f.staged = true ∧ f.waited = true ∧ f.prio = false) ∨ s.busyAnvils = true → gated a → (∀ b, b < a.val → ¬ gated b) →
      Completes .anvilWake s fun t => tabGet none t.anvWake a = some s.cyc ∧ Only [.anvWake] [] s t) ∧
    (∀ t0 : BitVec 64, tabGet none s.anvWake a = some t0 → 3000 ≤ (s.cyc - t0).toNat → Completes (.anvilWakeDone a) s fun t =>
      t.flag (F.ANV_CTL_AWAKE a) = true ∧ tabGet none t.anvWake a = none ∧ Only [.anvWake, .anvIdle, .block 6] [] s t) ∧
    (Completes .hwmClr s fun t => t.fld F.ANV_HEAT_USE_HWM = s.fld F.ANV_HEAT_USE_IN_USE ∧ t.fld F.ANV_HEAT_USE_IN_USE = s.fld F.ANV_HEAT_USE_IN_USE ∧
      Only [] [F.ANV_HEAT_USE_HWM.addr] s t) ∧
    (∀ (i : Nat) (f : Machine.Frm), (s.framesOf fun f => s.onAnvil a f && f.shadow.isSome) = [(i, f)] → (s.streams a).length < 16 → (s.gmin : Rat) ≤ s.room a →
      Completes (.shadowRestore a) s fun t => t.frame i = some { f with shadow := none, pace := min (s.restNeed f) (s.room a), tIssue := s.cyc, stream := s.freeStream a } ∧
        (∀ j, j ≠ i → t.frame j = s.frame j) ∧ Only [.frames] [(F.ANV_CTL_AWAKE a).addr, (F.ANV_LOAD_STREAMS a).addr] s t)

/-! ## Verdicts and the release stage (spec/06_speculative_release.md) -/

/-- R30, R69, R127, R134, R150 to R155, R157, R159: a frame that may start goes to Bellows, speculatively or verified; a good verdict verifies it and counts it for its association, a
bad or a missing one ends it, whole where nothing of it has passed, else stomped, and quarantines its association where the port releases speculatively; a heat is released with the last byte; a window of stomps and a
suspension end at their time, or at RESUME, with event 0x242.
The model's choices used: log entries 28, 32, 42, 66. -/
def Obligations.ReleaseStage : Prop :=
  ∀ s : State,
    (1500000000 ≤ (s.cyc - s.sec.stompStart).toNat → Completes .stompWindowEnd s fun t =>
      t.sec = { s.sec with stomps := [], stompStart := s.sec.stompStart + 1500000000 } ∧ Only [.sec] [] s t) ∧
    (∀ n : Fin 32, bitSet (s.fld F.SEC_REL_STATUS_SUSP) n = true →
      (1500000 * max 1 (min 60000 (s.fld (F.SEC_REL_PORT_QUAR_MS n))) ≤ (s.cyc - tabGet 0 s.sec.stompLast n).toNat → Completes (.suspensionEnd n) s fun t =>
        t.fld F.SEC_REL_STATUS_SUSP = s.fld F.SEC_REL_STATUS_SUSP - 2 ^ n.val ∧ Logged 0x242 (n + 32) t ∧ Only evts (F.SEC_REL_STATUS_SUSP.addr :: evtKeys) s t) ∧
      (Completes (.relResume .secure n) s fun t => t.fld F.SEC_REL_STATUS_SUSP = s.fld F.SEC_REL_STATUS_SUSP - 2 ^ n.val ∧ Logged 0x242 (n + 32) t ∧
        t.fld (F.SEC_REL_PORT_QUAR_MS n) = s.fld (F.SEC_REL_PORT_QUAR_MS n) ∧ t.flag (F.SEC_REL_PORT_RESUME n) = false ∧
        Only (evts ++ [Machine.Part.tie]) (F.SEC_REL_STATUS_SUSP.addr :: (F.SEC_REL_PORT_RESUME n).addr :: evtKeys) s t)) ∧
    (∀ (i : Nat) (f : Machine.Frm), s.frame i = some f → f.heat = true →
      let q := queueIdx f.outPort f.cls f.parcel
      let queued (rel : Rel) (spec : Bool) (t : State) : Prop := (∃ g, t.frame i = some g ∧ g.first = true ∧ g.rel = rel ∧ g.spec = spec ∧ g.queue = some q ∧ g.held = 0) ∧
        (f.held ≠ 0 ∨ s.enqFails q f.parcel (s.needCells f) f.dei (f.express || f.cmd) = false →
          (t.queue q).frames = (s.queue q).frames + 1 ∧ (t.queue q).depth = (s.queue q).depth + s.needCells f) ∧ (∀ j, j ≠ i → t.frame j = s.frame j)
      (f.first = false → f.ended = none → s.inOrder i f = true → s.leadOk f = true →
        (f.enc = false → f.specReq = true → f.verdict = none → s.tailSafe f = true → s.demoted f = none → Completes (.speculativeStart i) s fun t =>
          queued .specFlow true t ∧ t.count (C.REL_SPEC_FRAMES f.outPort) = s.count (C.REL_SPEC_FRAMES f.outPort) + 1 ∧
          Only (evts ++ [Machine.Part.frames, .nextEnq, .blw, .cnt, .holdOff, .block 7]) evtKeys s t) ∧
        (f.enc = true ∧ f.key.isSome = true ∨ f.enc = false ∧ f.verdict = some true → Completes (.framePass i) s fun t =>
          queued (if f.enc then f.rel else .verified) f.spec t ∧ Only (evts ++ [Machine.Part.frames, .nextEnq, .blw, .holdOff, .block 7]) evtKeys s t)) ∧
      (∀ q, f.first = true → f.rxEnd = true → s.streamDone f = true → (f.enc = true ∧ f.key.isSome = true ∨ f.enc = false ∧ f.verdict = some true) → f.tailDrop = false → f.queue = some q →
        s.sec.delWait = none → Completes (.heatRelease i) s fun t =>
          (∃ g, t.frame i = some g ∧ g.heat = false ∧ g.last = true ∧ g.rel = .done ∧ g.cells = cellsOf f.lOut) ∧ (∀ j, j ≠ i → t.frame j = s.frame j) ∧
          t.fld F.ANV_HEAT_USE_IN_USE = s.fld F.ANV_HEAT_USE_IN_USE - 1 ∧
          (∀ r, f.learn = some r → s.plat.queue.length < 2048 → t.plat.queue = s.plat.queue ++ [r]) ∧ Only pathParts [] s t) ∧
      (f.enc = false → f.verdict = none → f.ended = none →
        (∀ (k : KeyMat) (tag : SecTag), f.rxEnd = true → s.streamDone f = true → f.poison = false → f.key = some k → (s.parseHdr f.bytes).secTag f.bytes = some tag →
          let good := (unsecure (s.saChan f.sa) k f.pn (s.parseHdr f.bytes) tag f.bytes).2
          Completes (.icvVerdict i) s fun t =>
            (good = true → (s.keyStill f = true → s.replayBad f.sa f.pn = none) → (∃ g, t.frame i = some g ∧ g.verdict = some true ∧ g.ended = none) ∧ (∀ j, j ≠ i → t.frame j = s.frame j) ∧
              tabGet 0 t.saStat (8 * f.sa) = tabGet 0 s.saStat (8 * f.sa) + 1 ∧ Only pathParts [] s t) ∧
            (good = false → f.first = false → s.sec.delWait = none → t.frame i = none ∧ (∀ j, j ≠ i → t.frame j = s.frame j) ∧
              tabGet 0 t.saStat (8 * f.sa + 3) = tabGet 0 s.saStat (8 * f.sa + 3) + 1 ∧
              (s.flag (F.TRV_PORT_CFG_RELEASE f.inPort) = true → (s.ctx f.sa).st = .active → (t.ctx f.sa).st = .quarantined) ∧ Only pathParts [] s t) ∧
            (good = false → f.first = true → f.tailDrop = false → (∃ g, t.frame i = some g ∧ g.ended.isSome = true ∧ g.rel = .stomped ∧ g.out = stompOut f.out (f.lOut - 32) ∧ g.learn = none) ∧
              (∀ j, j ≠ i → t.frame j = s.frame j) ∧ t.count (C.REL_STOMP f.outPort) = s.count (C.REL_STOMP f.outPort) + 1 ∧ Only pathParts [] s t)) ∧
        (f.shadow = none → s.verdictBy f < s.cycNs → f.first = false → s.sec.delWait = none → Completes (.verdictDeadline i) s fun t => t.frame i = none ∧
          (∀ j, j ≠ i → t.frame j = s.frame j) ∧ t.count C.REL_VERDICT_LATE = s.count C.REL_VERDICT_LATE + 1 ∧ Only pathParts [] s t)))

/-! ## Frames (spec/01_frame_path.md, spec/02_traverse_classification.md, spec/07_bellows_scheduler.md) -/

/-- R21, R25, R32, R38, R40, R42, R43 to R49, R92, R95, R457, R458: a held port drops every frame; a frame that its port hands on and whose result is DROP is dropped as policy; one that
FORWARD takes to a channel of an open association goes to its port's staging area, with the channel, class, parcel and output port of its verdict; a frame whose last byte
has come whole has ended its reception, and its bytes are counted; one whose FCS is wrong is dropped.
The model's choices used: log entries 27, 28. -/
def Obligations.FramesArrive : Prop :=
  ∀ (s : State) (n : Fin 32) (lag : BitVec 16) (b : List Byte) (bad : Bool),
    (∀ (port : Nat) (c : Instr), (port, c) ∈ [(n.val, Instr.clearFrameArrival n lag b bad), (n + 32, .lineFrameArrival n lag b bad)] →
      (s.portUp port = false → exec c s = .next s) ∧
      (s.portUp port = true → s.held = true → Completes c s fun t => t.frames = s.frames ∧ t.nextFrame = s.nextFrame + 1 ∧
        t.count (C.PRT_RX_FRAMES port) = s.count (C.PRT_RX_FRAMES port) + 1 ∧ t.count (C.PRT_RX_CLOSED port) = s.count (C.PRT_RX_CLOSED port) + 1 ∧
        Only (evts ++ [Machine.Part.cnt, .holdOff, .nextFrame, .block 15]) [] s t)) ∧
    (let v := ((s.enter n lag b bad).1.classifyClear n b).2
     Received s n b bad →
      (v.res.action = 1 → Completes (.clearFrameArrival n lag b bad) s fun t => t.frames = s.frames ∧
        t.count (C.TRV_POLICY_DROP n) = s.count (C.TRV_POLICY_DROP n) + 1 ∧ t.count (C.TRV_POLICY_DROP_P v.parcel) = s.count (C.TRV_POLICY_DROP_P v.parcel) + 1 ∧
        Only arrivalParts [] s t) ∧
      (∀ sc : Nat, v.res.action = 0 → v.tx = .sc sc false →
        let c := s.chan sc
        let len := lensOf c true v.hdr.tags.length v.hdr.off 0 b.length
        s.parcelStops v.parcel = false → len.2 ≤ s.clsMax c.linePort v.cls → s.clsExpress c.linePort v.cls = false → s.policeStops v.parcel false = false →
        s.onChip (4 * sc + c.curAn) = true → s.stagedBytes n + b.length ≤ 131072 →
        Completes (.clearFrameArrival n lag b bad) s fun t => t.nextFrame = s.nextFrame + 1 ∧ (∀ j, j ≠ s.nextFrame → t.frame j = s.frame j) ∧
          (∃ g, t.frame s.nextFrame = some g ∧ g.staged = true ∧ g.enc = true ∧ g.inPort = n ∧ g.bytes = b ∧ g.sc = sc ∧ g.an = c.curAn ∧ g.parcel = v.parcel ∧
            g.cls = v.cls ∧ g.outPort = c.linePort ∧ g.slots = len.1 ∧ g.lOut = len.2 ∧ g.heat = false ∧ g.rxEnd = false ∧ g.waitCtx = false) ∧
          Only arrivalParts [] s t)) ∧
    (let u := (s.enter (n + 32) lag b bad).1.classifyLine (n + 32) b
     let v := u.2
     Received s (n + 32) b bad →
      (v.res.action = 1 → Completes (.lineFrameArrival n lag b bad) s fun t => t.frames = s.frames ∧
        t.count (C.TRV_POLICY_DROP (n + 32)) = s.count (C.TRV_POLICY_DROP (n + 32)) + 1 ∧ Only arrivalParts [] s t) ∧
      (v.res.action = 0 → v.tag = none → s.parcelStops v.parcel = false → Completes (.lineFrameArrival n lag b bad) s fun t => t.frames = s.frames ∧
        t.count (C.SEC_RX_BADTAG (n + 32)) = s.count (C.SEC_RX_BADTAG (n + 32)) + 1 ∧ Only arrivalParts [] s t) ∧
      (∀ (tag : SecTag) (rx : Nat), v.res.action = 0 → v.tag = some tag → v.rx = some rx →
        let c := s.chan rx
        let x := s.ctx (4 * rx + tag.an)
        let cls := if c.pinned = true ∧ x.classValid = true then x.cls else v.cls
        let len := lensOf c false v.hdr.tags.length v.hdr.off tag.len b.length
        x.st = .active → s.replayBad (4 * rx + tag.an) (s.fullPn (4 * rx + tag.an) tag.pn) = none → s.onChip (4 * rx + tag.an) = true →
        c.returnValid = false → s.parcelStops v.parcel = false → len.2 ≤ s.clsMax c.boundClr cls → s.clsExpress c.boundClr cls = false →
        s.policeStops v.parcel true = false → s.stagedBytes (n + 32) + b.length ≤ 131072 →
        Completes (.lineFrameArrival n lag b bad) s fun t => t.nextFrame = s.nextFrame + 1 ∧ (∀ j, j ≠ s.nextFrame → t.frame j = s.frame j) ∧
          (∃ g, t.frame s.nextFrame = some g ∧ g.staged = true ∧ g.enc = false ∧ g.inPort = n + 32 ∧ g.bytes = b ∧ g.sc = rx ∧ g.an = tag.an ∧ g.pn = tag.pn ∧
            g.parcel = v.parcel ∧ g.cls = cls ∧ g.outPort = c.boundClr ∧ g.slots = len.1 ∧ g.lOut = len.2 ∧ g.heat = false ∧ g.rxEnd = false ∧ g.learn = none) ∧
          Only arrivalParts [] s t)) ∧
    (∀ (i : Nat) (f : Machine.Frm) (got : BitVec 16) (frags : BitVec 8), s.frame i = some f → f.rxEnd = false → f.origin = false → f.ended = none → f.bytes.length ≤ got.toNat →
        f.bytes.length ≤ s.portMax f.inPort →
      (badFcs f.bytes f.badFec = false → f.lOut ≤ s.clsMax f.outPort f.cls → f.bypass = false → Completes (.frameRxEnd i got frags) s fun t =>
        t.frame i = some { f with rxEnd := true } ∧ (∀ j, j ≠ i → t.frame j = s.frame j) ∧
        t.count (C.PRT_RX_OCTETS f.inPort) = s.count (C.PRT_RX_OCTETS f.inPort) + BitVec.ofNat 64 f.bytes.length ∧ Only [.frames, .cnt, .fbk] [] s t) ∧
      (badFcs f.bytes f.badFec = true → f.first = false → s.sec.delWait = none → Completes (.frameRxEnd i got frags) s fun t => t.frame i = none ∧
        (∀ j, j ≠ i → t.frame j = s.frame j) ∧ t.count (C.PRT_RX_FCS_ERR f.inPort) = s.count (C.PRT_RX_FCS_ERR f.inPort) + 1 ∧ Only pathParts [] s t))

/-- R23, R25, R30, R37, R59, R98 to R102, R111, R128, R170, R198: Tongs hands a frame to its stream under a heat, an encrypted one with its association's next PN, which advances; a context
fetched lets its frames go on, or makes its association UNUSABLE; a reservation durable in the store is in force; a frame chosen is on the wire, one that ends there counts as sent; firmware's frames join a queue,
and it takes frames from its own.
The model's choices used: log entries 28, 33, 34, 41. -/
def Obligations.FramesGoOn : Prop :=
  ∀ s : State,
    (∀ (i : Nat) (f : Machine.Frm) (a : Nat) (g : Rat), s.frame i = some f → s.dispatchable i f = true → s.heatFree f.prio = true → s.dispatchSa f = (s, f) → s.onChip f.sa = true →
        f.express = s.clsExpress f.outPort f.cls → s.place f (needPace f.slots (s.rate f.inPort) f.bytes.length) = some (a, g, none) →
      let onStream (t : State) (pn : Nat) : Prop := (∃ h, t.frame i = some h ∧ h.staged = false ∧ h.heat = true ∧ h.anvil = some a ∧ h.pace = g ∧ h.pn = pn ∧
          h.key = (s.ctx f.sa).key ∧ h.keyGen = (s.ctx f.sa).keyGen ∧ h.tHand = s.cyc) ∧ (∀ j, j ≠ i → t.frame j = s.frame j) ∧
        t.fld F.ANV_HEAT_USE_IN_USE = s.fld F.ANV_HEAT_USE_IN_USE + 1 ∧ Only pathParts [] s t
      (f.enc = true → (s.ctx f.sa).st = .active → (s.ctx f.sa).resvWait = false → Completes (.tongsDispatch i) s fun t => onStream t (s.ctx f.sa).next ∧
        (t.ctx f.sa).next = (s.ctx f.sa).next + 1 ∧ ((s.ctx f.sa).limit ≤ (s.ctx f.sa).next → (t.ctx f.sa).st = .exhausted)) ∧
      (f.enc = false → (s.ctx f.sa).st = .active → s.replayBad f.sa (s.fullPn f.sa f.pn) = none → (s.ctx f.sa).classValid = false → (s.ctx f.sa).cmd = false →
        Completes (.tongsDispatch i) s fun t => onStream t (s.fullPn f.sa f.pn))) ∧
    (∀ (i : Nat) (f : Machine.Frm), s.frame i = some f → s.dispatchable i f = true → s.heatFree f.prio = true → s.dispatchSa f = (s, f) → s.onChip f.sa = true → f.enc = true →
        (s.ctx f.sa).resvWait = false → (s.ctx f.sa).st ≠ .active → s.sec.delWait = none → f.first = false →
      Completes (.tongsDispatch i) s fun t => t.frame i = none ∧ tabGet 0 t.saStat (8 * f.sa + 4) = tabGet 0 s.saStat (8 * f.sa + 4) + 1 ∧ Only pathParts [] s t) ∧
    (∀ sa : BitVec 18, sa.toNat ∈ s.sec.misses →
      (s.sec.ddrLost = false → Completes (.contextFetchDone sa true) s fun t => t.sec.misses = s.sec.misses.filter (· != sa.toNat) ∧ t.ctx sa.toNat = s.ctx sa.toNat ∧
        Only [.sec, .frames] [F.SEC_STATUS_MISS_DEPTH.addr] s t) ∧
      ((s.ctx sa.toNat).st ≠ .empty → Completes (.contextFetchDone sa false) s fun t => t.sec.misses = s.sec.misses.filter (· != sa.toNat) ∧ (t.ctx sa.toNat).st = .unusable ∧
        Only pathParts [] s t)) ∧
    (∀ (sa : BitVec 18) (v : Nat) (r : Rec), (s.ctx sa.toNat).resvNext = some v → s.current 2 sa.toNat = some r → r.pay = .pn v →
      let st : SaSt := if (s.ctx sa.toNat).resvWait = true ∧ (s.ctx sa.toNat).st = .empty then .installed else (s.ctx sa.toNat).st
      Completes (.reservationDurable sa) s fun t => t.ctx sa.toNat = { s.ctx sa.toNat with resv := v, resvNext := none, resvWait := false, st := st } ∧
        (∀ j, j ≠ sa.toNat → t.ctx j = s.ctx j) ∧ Only [.sec] [] s t) ∧
    (∀ (n : Fin 64) (q : BitVec 16), s.canSend n = true →
      (∀ (c i : Nat) (f : Machine.Frm) (u : State), s.onWire n = none → s.held_ n = none → s.pickClass n (fun _ => true) = some c → (s.wake n).takeFrom n c = (u, some (i, f)) →
          f.outPoison = false → Completes (.transmitSelect n q) s fun t =>
        (∃ g, t.frame i = some g ∧ g.sending = true ∧ g.preempted = false ∧ g.adm = none ∧ g.tStart = s.cycNs ∧ g.out = f.out) ∧ (∀ j, j ≠ i → t.frame j = s.frame j) ∧
          Only [.frames, .blw] [(F.GAT_PORT_STATUS_ADM_USED n).addr] s t) ∧
      (∀ (i : Nat) (f : Machine.Frm), s.onWire n = none → s.held_ n = some (i, f) → s.pickClass n (fun c => !s.clsPreempt n c) = none → s.resumes f = true →
        Completes (.transmitSelect n q) s fun t => t.frame i = some { f with preempted := false } ∧ (∀ j, j ≠ i → t.frame j = s.frame j) ∧ Only [.frames] [] s t)) ∧
    (∀ (n : Fin 64) (i : Nat) (f : Machine.Frm), s.onWire n = some (i, f) → f.last = true → f.outPoison = false → f.ended = none → f.heat = false →
        s.tieOn = false → (∀ l ∈ s.txLanes n, s.flag (F.SRD_LANE_W1_TX_SLEEP l) = false) →
      Completes (.frameTxEnd n 0) s fun t => t.frame i = none ∧ (∀ j, j ≠ i → t.frame j = s.frame j) ∧
        t.count (C.PRT_TX_FRAMES n) = s.count (C.PRT_TX_FRAMES n) + 1 ∧ t.count (C.PRT_TX_OCTETS n) = s.count (C.PRT_TX_OCTETS n) + BitVec.ofNat 64 f.out.length ∧
        Only pathParts [] s t) ∧
    (∀ (n : Fin 64) (c : Fin 8) (b : List Byte), s.isStandby = false → s.held = false → 60 ≤ b.length → b.length + 4 ≤ s.portMax n →
        s.enqFails (queueIdx n c 0) 0 (cellsOf (b.length + 4)) false (s.clsExpress n c) = false →
      Completes (.controlFrameOriginate n c b) s fun t => t.nextFrame = s.nextFrame + 1 ∧ (∀ j, j ≠ s.nextFrame → t.frame j = s.frame j) ∧
        (∃ g, t.frame s.nextFrame = some g ∧ g.out = b ++ fcsOf b ∧ g.outPort = n ∧ g.cls = c ∧ g.origin = true ∧ g.last = true ∧ g.queue = some (queueIdx n c 0)) ∧
        t.count (C.TRV_CTL_ORIG n) = s.count (C.TRV_CTL_ORIG n) + 1 ∧ Only (.nextFrame :: pathParts) [] s t) ∧
    (∀ (i : Nat) (f : Machine.Frm), s.headOf ctlQueue = some (i, f) → f.cells ≠ 0 → Completes .controlQueueDequeue s fun t => t.frame i = none ∧ (∀ j, j ≠ i → t.frame j = s.frame j) ∧
      (t.queue ctlQueue).frames = (s.queue ctlQueue).frames - 1 ∧ (t.queue ctlQueue).depth = (s.queue ctlQueue).depth - f.cells ∧
      Only (evts ++ [Machine.Part.frames, .blw, .holdOff, .block 7]) evtKeys s t)

/-! ## Bellows, the gates and Datum (spec/07_bellows_scheduler.md, spec/08_gates_and_deadlines.md, spec/09_datum_meridian_time.md) -/

/-- R176, R177, R178, R181, R182: Q_READ shows a queue in the window; Q_WRITE, from the secure world only, sets its configuration, DEFICIT and
credit clipped; Q_CLR_MAX restarts its maxima.  A write of a policer's register fills its bucket; every 1.024 µs an enabled or disabled bucket gains
0.001024 × RATE frames up to BURST, the fraction carried, and every queue is sampled.
The model's choices used: log entries 33, 36, 66. -/
def Obligations.BellowsQueuesAndPolicers : Prop :=
  ∀ (s : State) (v : Via) (idx arg : Nat) (words : List Word),
    let p := if idx < ctlQueue then idx % 64 else 0
    let told (op code : Nat) (t : State) : Prop := Told blwWay op v (t.fld F.BLW_QCMD_STATUS = code) code 0 t
    let keys := F.BLW_QCMD_STATUS.addr :: wayKeys blwWay v
    (Way blwWay 1 .observe [p] s v idx arg words →
      (idx ≤ ctlQueue → Completes (.qRead v) s fun t => told 1 0 t ∧ t.words blwWin 12 = s.queueWords idx ∧ Only (wayParts v) (winKeys blwWin 12 ++ keys) s t) ∧
      (ctlQueue < idx → Completes (.qRead v) s fun t => told 1 2 t ∧ Logged 0x28C idx t ∧ Only (wayParts v ++ evts) (evtKeys ++ keys) s t)) ∧
    (Way blwWay 2 .secure [p] s v idx arg words → (∀ w word, v = .reg w word → w.isSecure = true) → idx < ctlQueue →
      Completes (.qWrite v) s fun t => told 2 0 t ∧ t.queue idx = (s.queue idx).configured (words.getD 0 0) (words.getD 1 0) (words.getD 2 0) ∧
        (∀ j, j ≠ idx → t.queue j = s.queue j) ∧ Only (wayParts v ++ [Machine.Part.blw, .tie]) keys s t) ∧
    (∀ w word, v = .reg w word → w.isSecure = false → Way blwWay 2 .secure [p] s v idx arg words →
      Completes (.qWrite v) s fun t => told 2 3 t ∧ Logged 0x28C idx t ∧ Only evts (evtKeys ++ keys) s t) ∧
    (Way blwWay 3 .operate [p] s v idx arg words → idx ≤ ctlQueue →
      Completes (.qClrMax v) s fun t => told 3 0 t ∧ t.queue idx = { s.queue idx with maxDepth := (s.queue idx).sampDepth, maxDelay := (s.queue idx).hol } ∧
        (∀ j, j ≠ idx → t.queue j = s.queue j) ∧ Only (wayParts v ++ [Machine.Part.blw, .tie]) keys s t) ∧
    (∀ (par : Fin 64) (line second : Bool) (word : Word), Completes (.policerWrite .secure par line second word) s fun t =>
      let i := State.policeIdx par line
      t.flag (F.BLW_POLICE_W0_EN i) = (if second then s.flag (F.BLW_POLICE_W0_EN i) else bitsOf word 31 1 == 1) ∧
      t.fld (F.BLW_POLICE_W0_RATE_KFPS i) = (if second then s.fld (F.BLW_POLICE_W0_RATE_KFPS i) else bitsOf word 0 23) ∧
      t.fld (F.BLW_POLICE_W1_BURST i) = (if second then bitsOf word 0 16 else s.fld (F.BLW_POLICE_W1_BURST i)) ∧
      (tabGet {} t.blw.police i).credit = 65536 * t.fld (F.BLW_POLICE_W1_BURST i) ∧
      (∀ j, j ≠ i → tabGet {} t.blw.police j = tabGet {} s.blw.police j) ∧
      Only [.blw, .tie] [(F.BLW_POLICE_W0_EN i).addr + (if second then 4 else 0)] s t) ∧
    (1536 ≤ (s.cyc - s.polAt).toNat → Completes .policerRefill s fun t => t.polAt = s.polAt + 1536 ∧
      (∀ i, i < 128 →
        let gained := (tabGet {} s.blw.police i).carry + 67108864 * s.fld (F.BLW_POLICE_W0_RATE_KFPS i)
        let depth := 65536 * s.fld (F.BLW_POLICE_W1_BURST i)
        (tabGet {} t.blw.police i).credit = min depth ((tabGet {} s.blw.police i).credit + gained / 1000000) ∧
        ((tabGet {} t.blw.police i).credit < depth → (tabGet {} t.blw.police i).carry = gained % 1000000)) ∧ Only [.blw, .polAt] [] s t) ∧
    (s.flag F.BLW_CFG_SAMPLE_EN = true → 1536 ≤ (s.cyc - s.sampAt).toNat → Completes .queueSample s fun t => t.sampAt = s.sampAt + 1536 ∧
      (∀ q, (t.queue q).depth = (s.queue q).depth ∧ (t.queue q).sampDepth = (s.queue q).depth ∨ (t.queue q) = s.queue q ∧ ∀ e ∈ s.blw.queues, e.1 ≠ q) ∧
      (∀ e ∈ s.blw.queues, (t.queue e.1).maxDepth = max (s.queue e.1).maxDepth (s.queue e.1).depth) ∧
      Only (evts ++ [Machine.Part.blw, .sampAt, .holdOff]) [] s t)

/-- R187 to R192, R195, R196, R205, R206: READ_ACT and READ_PEND show an entry; WRITE_PEND writes one and ARM arms a valid pending list, unless it is armed (code 3) or invalid
(code 4); DISARM undoes that until the swap is fixed.  At a boundary GAT_PORT_STATUS takes its vector, entry and state; at the swap the acting list is the pending one, with event 0x283;
configuration writes come into force after 65,536 ns; a verify process ends ACTIVE or FAILED.
The model's choices used: log entries 16, 30, 36, 66. -/
def Obligations.GateListsAndBoundaries : Prop :=
  ∀ (s : State) (v : Via) (idx arg : Nat) (words : List Word),
    let n := arg / 2 ^ 16 % 64
    let told (op code : Nat) (t : State) : Prop := Told gatWay op v (t.fld F.GAT_GCL_CMD_STATUS = code) code 0 t
    let keys := F.GAT_GCL_CMD_STATUS.addr :: wayKeys gatWay v
    (idx < 1024 →
      (Way gatWay 1 .observe [] s v idx arg words → Completes (.gatReadAct v) s fun t => told 1 0 t ∧
        t.words gatWin 2 = [(tabGet (0, 0) (s.gate n).act idx).1, (tabGet (0, 0) (s.gate n).act idx).2 &&& 0xFF] ∧ Only (wayParts v) (winKeys gatWin 2 ++ keys) s t) ∧
      (Way gatWay 2 .observe [] s v idx arg words → Completes (.gatReadPend v) s fun t => told 2 0 t ∧
        t.words gatWin 2 = [(tabGet (0, 0) (s.gate n).pend idx).1, (tabGet (0, 0) (s.gate n).pend idx).2 &&& 0xFF] ∧ Only (wayParts v) (winKeys gatWin 2 ++ keys) s t) ∧
      (Way gatWay 3 .secure [] s v idx arg words →
        (s.flag (F.GAT_PORT_STATUS_ARMED n) = false → Completes (.gatWritePend v) s fun t => told 3 0 t ∧
          tabGet (0, 0) (t.gate n).pend idx = (words.getD 0 0, words.getD 1 0 &&& 0xFF) ∧
          (∀ j, j ≠ idx → tabGet (0, 0) (t.gate n).pend j = tabGet (0, 0) (s.gate n).pend j) ∧ { t.gate n with pend := (s.gate n).pend } = s.gate n ∧
          (∀ m, m ≠ n → t.gate m = s.gate m) ∧ Only (wayParts v ++ [Machine.Part.gates, .tie]) keys s t) ∧
        (s.flag (F.GAT_PORT_STATUS_ARMED n) = true → Completes (.gatWritePend v) s fun t => told 3 3 t ∧ Logged 0x286 n t ∧
          Only (wayParts v ++ evts) (evtKeys ++ keys) s t))) ∧
    (Way gatWay 4 .secure [] s v idx arg words → s.flag (F.GAT_PORT_STATUS_ARMED n) = false →
      (s.listOk (s.pendList n) = true → Completes (.gatArm v) s fun t => told 4 0 t ∧ t.flag (F.GAT_PORT_STATUS_ARMED n) = true ∧
        Only (wayParts v ++ [Machine.Part.tie]) ((F.GAT_PORT_STATUS_ARMED n).addr :: keys) s t) ∧
      (s.listOk (s.pendList n) = false → Completes (.gatArm v) s fun t => told 4 4 t ∧ Logged 0x286 n t ∧ Only (wayParts v ++ evts) (evtKeys ++ keys) s t)) ∧
    (Way gatWay 5 .secure [] s v idx arg words → s.flag (F.GAT_PORT_STATUS_ARMED n) = true →
      ((s.gate n).swapAt = none → Completes (.gatDisarm v) s fun t => told 5 0 t ∧ t.flag (F.GAT_PORT_STATUS_ARMED n) = false ∧
        Only (wayParts v ++ [Machine.Part.tie]) ((F.GAT_PORT_STATUS_ARMED n).addr :: keys) s t) ∧
      ((s.gate n).swapAt ≠ none → Completes (.gatDisarm v) s fun t => told 5 5 t ∧ Logged 0x286 n t ∧ Only (wayParts v ++ evts) (evtKeys ++ keys) s t)) ∧
    (∀ m : Fin 64,
      (∀ (b : Bound) (rest : List Bound), (s.gate m).laid = b :: rest → s.macNs m b.at_ ≤ s.cycNs → b.gates < 256 → b.entry < 1024 → b.state < 3 →
          (∀ e ∈ s.frames, ∀ f, e.2 = some f → ¬ (f.sending = true ∧ f.preempted = false ∧ f.outPort = m ∧ s.clsPreempt m f.cls = true ∧ s.clsGated m f.cls = true ∧ bitSet b.gates f.cls = false)) →
        Completes (.gateBoundary m) s fun t => t.fld (F.GAT_PORT_STATUS_GATES m) = b.gates ∧ t.fld (F.GAT_PORT_STATUS_ENTRY m) = b.entry ∧
          t.fld (F.GAT_PORT_STATUS_LIST_STATE m) = b.state ∧ (s.fld (F.GAT_PORT_STATUS_LIST_STATE m) ≠ b.state → Logged 0x284 m t) ∧
          t.gate m = { s.gate m with laid := rest, past := (b :: (s.gate m).past).take 512 } ∧ (∀ k, k ≠ m.val → t.gate k = s.gate k) ∧
          Only (evts ++ [Machine.Part.gates]) ((F.GAT_PORT_STATUS_GATES m).addr :: evtKeys) s t) ∧
      (Completes (.horizonApply m) s fun t => t.gate m = { s.gate m with overwritten := (s.gate m).overwritten.filter fun e => decide ((s.cyc - e.1).toNat < 98304) } ∧
        t.flag (F.GAT_PORT_STATUS_CFG_PEND m) = !((s.gate m).overwritten.filter fun e => decide ((s.cyc - e.1).toNat < 98304)).isEmpty ∧
        (∀ k, k ≠ m.val → t.gate k = s.gate k) ∧ Only [.gates] [(F.GAT_PORT_STATUS_CFG_PEND m).addr] s t) ∧
      (∀ u : Int, (s.gate m).swapAt = some u → s.macNs m u ≤ s.cycNs → Completes (.listSwap m) s fun t =>
        t.gate m = { s.gate m with act := (s.gate m).pend, swapAt := none, broken := (s.gate m).pendBroken } ∧ (∀ k, k ≠ m.val → t.gate k = s.gate k) ∧
        t.words (F.GAT_ACT_W0_BASE_LO m).addr 4 = s.words (F.GAT_PEND_W0_BASE_LO m).addr 4 ∧ t.flag (F.GAT_PORT_STATUS_ARMED m) = false ∧ Logged 0x283 m t ∧
        Only (evts ++ [Machine.Part.gates, .tie]) ((F.GAT_PORT_STATUS_ARMED m).addr :: winKeys (F.GAT_ACT_W0_BASE_LO m).addr 4 ++ evtKeys) s t) ∧
      (s.fld (F.GAT_PORT_STATUS_MM_STATE m) = 1 →
        (Completes (.mergeVerifyDone m true) s fun t => t.fld (F.GAT_PORT_STATUS_MM_STATE m) = 2 ∧ Logged 0x285 m t ∧
          Only evts ((F.GAT_PORT_STATUS_MM_STATE m).addr :: evtKeys) s t) ∧
        (Completes (.mergeVerifyDone m false) s fun t => t.fld (F.GAT_PORT_STATUS_MM_STATE m) = 3 ∧ Logged 0x285 m t ∧
          t.count (C.PRT_MM_VERIFY_FAIL m) = s.count (C.PRT_MM_VERIFY_FAIL m) + 1 ∧ Only (evts ++ [Machine.Part.cnt]) ((F.GAT_PORT_STATUS_MM_STATE m).addr :: evtKeys) s t)))

/-- R212, R213, R216, R226 to R228: SET makes Datum the operand and STEP moves it by it, cancelling a slew, counted, with event 0x301; SLEW slews by at most 1 ms, and SLEW_ABORT ends that; SET with a source
other than FREE is refused with STATE and a longer slew with RANGE; REPORT, from firmware, takes a measurement, and is refused to a ring.  Writes of DAT_FREQ are clamped; a change of source, its loss and the
end of holdover move DAT_STATUS.STATE.
The model's choices used: log entries 16, 36, 37, 66. -/
def Obligations.DatumCommands : Prop :=
  ∀ (s : State) (v : Via) (idx arg : Nat) (words : List Word),
    let x := s.datOpnd
    let told (op code : Nat) (t : State) : Prop := Told datWay op v (t.fld F.DAT_CMD_STATUS = code) code 0 t
    let keys := F.DAT_CMD_STATUS.addr :: wayKeys datWay v
    let stepped (op : Nat) (t : State) : Prop := told op 0 t ∧ t.dat.slew = 0 ∧ t.flag F.DAT_STATUS_SLEWING = false ∧ t.count C.DAT_STEPS = s.count C.DAT_STEPS + 1 ∧ Logged 0x301 0 t ∧
      Only (wayParts v ++ evts ++ [Machine.Part.datum, .dat, .sec, .gates, .cnt, .tie]) (F.DAT_STATUS_SLEWING.addr :: keys ++ evtKeys) s t
    let refused (op code : Nat) (t : State) : Prop := told op code t ∧ Logged 0x306 0 t ∧ Only (wayParts v ++ evts) (keys ++ evtKeys) s t
    let slewed (op : Nat) (ns : Int) (t : State) : Prop := told op 0 t ∧ t.dat = { s.dat with slew := ns } ∧ t.flag F.DAT_STATUS_SLEWING = (ns != 0) ∧
      Only (wayParts v ++ [Machine.Part.dat]) (F.DAT_STATUS_SLEWING.addr :: keys) s t
    (Way datWay 1 .secure [] s v idx arg words →
      (s.fld F.DAT_CFG_SRC = 0 ∨ s.fld F.DAT_CFG_SRC = 3 → Completes (.datSet v) s fun t => stepped 1 t ∧ t.datum = BitVec.ofInt 96 (x * 2 ^ 32)) ∧
      (s.fld F.DAT_CFG_SRC = 1 ∨ s.fld F.DAT_CFG_SRC = 2 → Completes (.datSet v) s (refused 1 2))) ∧
    (Way datWay 2 .secure [] s v idx arg words → Completes (.datStep v) s fun t => stepped 2 t ∧ t.datum = s.datum + BitVec.ofInt 96 (x * 2 ^ 32)) ∧
    (Way datWay 3 .operate [] s v idx arg words →
      (x.natAbs ≤ 1000000 → Completes (.datSlew v) s (slewed 3 x)) ∧ (1000000 < x.natAbs → Completes (.datSlew v) s (refused 3 3))) ∧
    (Way datWay 5 .operate [] s v idx arg words → Completes (.datSlewAbort v) s (slewed 5 0)) ∧
    (∀ w word, v = .reg w word → Way datWay 4 .operate [] s v idx arg words → s.fld F.DAT_CFG_SRC = 2 → s.fld F.DAT_STATUS_STATE = 2 →
        x.natAbs ≤ s.fld F.DAT_SYNC_UNSYNC_NS → x.natAbs < 2 ^ 31 →
      Completes (.datReport v) s fun t => told 4 0 t ∧ t.sfld F.DAT_ERR_LAST_ERR = x ∧ t.dat = { s.dat with meas := s.cyc, bad := 0 } ∧
        Only [.dat, .tie] (F.DAT_ERR_LAST_ERR.addr :: keys) s t) ∧
    (∀ d, v = .ring d → Way datWay 4 .operate [] s v idx arg words → d.payload.length ≤ 16 →
      Completes (.datReport v) s fun t => Answered d 0x1904 0x83 t ∧ Only refusedParts evtKeys s t) ∧
    (s.dat.slew = 0 → s.flag F.DAT_STATUS_SLEWING = true → Completes .datSlewDone s fun t => t.flag F.DAT_STATUS_SLEWING = false ∧ Only [] [F.DAT_STATUS_SLEWING.addr] s t) ∧
    (∀ word : Word, Completes (.freqWrite .secure word) s fun t => t.sfld F.DAT_FREQ = max (-13107200) (min 13107200 word.toInt) ∧
      (t.sfld F.DAT_FREQ ≠ word.toInt → Logged 0x304 0 t) ∧ Only evts (F.DAT_FREQ.addr :: evtKeys) s t) ∧
    (∀ word : Word,
      let old := s.datSrc
      let new := if bitsOf word 30 2 = 3 then 0 else bitsOf word 30 2
      let state := if new = 0 then 0 else if s.fld F.DAT_STATUS_STATE = 0 ∧ old ≠ new then 1 else if s.fld F.DAT_STATUS_STATE = 2 ∧ old ≠ new then 3 else s.fld F.DAT_STATUS_STATE
      Completes (.sourceChange .secure word) s fun t => t.word F.DAT_CFG_SRC.addr &&& 0xFEFFFFFF = word &&& 0xFEFFFFFF ∧ t.fld F.DAT_STATUS_STATE = state ∧
        (state ≠ s.fld F.DAT_STATUS_STATE → Logged 0x300 0 t ∧ t.flag F.DAT_STATUS_SYNC = decide (2 ≤ state)) ∧
        Only (evts ++ [Machine.Part.dat]) (F.DAT_CFG_SRC.addr :: F.DAT_STATUS_STATE.addr :: evtKeys) s t) ∧
    (∀ announce : Bool, s.fld F.DAT_STATUS_STATE = 2 → (announce = true ∧ s.fld F.DAT_CFG_SRC = 2) ∨ 2250000000 ≤ (s.cyc - s.dat.meas).toNat →
      Completes (.sourceLost announce) s fun t => t.fld F.DAT_STATUS_STATE = 3 ∧ t.flag F.DAT_STATUS_SYNC = true ∧ t.dat.hold = s.cyc ∧ Logged 0x302 0 t ∧
        Only (evts ++ [Machine.Part.dat]) (F.DAT_STATUS_STATE.addr :: evtKeys) s t) ∧
    (s.fld F.DAT_STATUS_STATE = 3 → 1500000000 * s.fld F.DAT_HOLD_HOLDOVER_S ≤ (s.cyc - s.dat.hold).toNat → Completes .datumHoldoverExpiry s fun t =>
      t.fld F.DAT_STATUS_STATE = 0 ∧ t.flag F.DAT_STATUS_SYNC = false ∧ Logged 0x300 0 t ∧ Only (evts ++ [Machine.Part.dat]) (F.DAT_STATUS_STATE.addr :: evtKeys) s t)

/-- R210, R215, R217, R219: a PPS_IN edge of the chosen polarity awaits its message; a message whose CRC fails, or that is late, is counted, with event 0x303; a good one gives its UTC offset, and
a measurement where it is valid, which the loop takes within the limits of R212; each whole second PPS_OUT rises and TOD_OUT names it, or both are silent; PPS_OUT falls after PPS_WIDTH_MS; a read of DAT_NOW_FRAC latches Datum, DAT_CYC and
Meridian's phase.
The model's choices used: log entries 30, 37, 66. -/
def Obligations.SecondsAndTimeOfDay : Prop :=
  ∀ s : State,
    (∀ (rise : Bool) (q : BitVec 8), s.fld F.DAT_CFG_SRC = 1 → rise ≠ s.flag F.DAT_CFG_PPS_EDGE → Completes (.ppsInEdge rise q) s fun t =>
      t.dat = { s.dat with pps := some ((s.datumRat * 4).floor - q.toNat, s.cyc) } ∧ Only [.dat] [] s t) ∧
    (∀ (b : List Byte) (edge : Int) (at_ : BitVec 64), s.fld F.DAT_CFG_SRC = 1 → b.length = 16 → b.take 3 = [0x5A, 0x44, 1] → s.dat.pps = some (edge, at_) →
      let late := crc16 (b.take 14) ≠ leAt b 14 2 ∨ 750000001 ≤ (s.cyc - at_).toNat
      (late → Completes (.todMessage b) s fun t => t.dat = { s.dat with pps := none } ∧ t.count C.DAT_TOD_ERR = s.count C.DAT_TOD_ERR + 1 ∧ Logged 0x303 0 t ∧
        Only (evts ++ [Machine.Part.dat, .cnt]) evtKeys s t) ∧
      (¬ late → ∀ prev : Nat, s.dat.tod = some prev → leAt b 4 6 ≠ prev + 1 → Completes (.todMessage b) s fun t =>
        t.dat = { s.dat with pps := none, tod := some (leAt b 4 6) } ∧ t.count C.DAT_TOD_ERR = s.count C.DAT_TOD_ERR + 1 ∧ Logged 0x303 0 t ∧ Only (evts ++ [Machine.Part.dat, .cnt]) evtKeys s t) ∧
      (¬ late → (∀ prev : Nat, s.dat.tod = some prev → leAt b 4 6 = prev + 1) →
        let taken (t : State) : Prop := t.dat.pps = none ∧ t.dat.tod = some (leAt b 4 6) ∧ t.fld F.DAT_UTC_UTC_OFS = leAt b 10 2 ∧ t.fld F.DAT_UTC_LEAP = leAt b 3 1 / 2 % 4
        let e := ((4 * (leAt b 4 6 : Int) * 1000000000 - edge) + 2) / 4
        (leAt b 3 1 % 2 = 0 → Completes (.todMessage b) s fun t => taken t ∧ t.dat.meas = s.dat.meas ∧ Only [.dat] [F.DAT_UTC_LEAP.addr] s t) ∧
        (leAt b 3 1 % 2 = 1 → s.fld F.DAT_STATUS_STATE = 2 → e.natAbs ≤ s.fld F.DAT_SYNC_UNSYNC_NS → e.natAbs < 2 ^ 31 → Completes (.todMessage b) s fun t => taken t ∧
          t.dat.meas = s.cyc ∧ t.sfld F.DAT_ERR_LAST_ERR = e ∧ t.fld F.DAT_STATUS_STATE = 2 ∧ t.dat.bad = 0 ∧ (t.sfld F.DAT_FREQ).natAbs ≤ 13107200 ∧
          -1000000 ≤ t.dat.slew ∧ t.dat.slew ≤ 1000000 ∧
          Only [.dat, .free] [F.DAT_UTC_LEAP.addr, F.DAT_ERR_LAST_ERR.addr, F.DAT_FREQ.addr, F.DAT_STATUS_SLEWING.addr] s t))) ∧
    (let sec := s.datumNs.toInt / 1000000000
     sec ≠ s.dat.ppsSec →
      (s.flag F.DAT_CFG_PPS_OUT_EN = true → s.synced = true ∨ s.flag F.DAT_CFG_PPS_FREE = true → Completes .ppsOutSecond s fun t => t.dat.ppsSec = sec ∧ t.dat.ppsOut = some s.cyc ∧
        (let m := t.dat.todOut
         m.length = 16 ∧ m.take 3 = [0x5A, 0x44, 1] ∧ leAt m 3 1 % 8 = b2n s.synced + 2 * s.fld F.DAT_UTC_LEAP ∧ leAt m 4 6 = toField 48 sec ∧ leAt m 10 2 = s.fld F.DAT_UTC_UTC_OFS ∧
         leAt m 14 2 = crc16 (m.take 14)) ∧ Only [.dat, .free] [] s t) ∧
      (s.flag F.DAT_CFG_PPS_OUT_EN = false ∨ s.synced = false ∧ s.flag F.DAT_CFG_PPS_FREE = false → Completes .ppsOutSecond s fun t => t.dat = { s.dat with ppsSec := sec } ∧ Only [.dat] [] s t)) ∧
    (∀ c : BitVec 64, s.dat.ppsOut = some c → 1500000 * max 1 (min 250 (s.fld F.DAT_CFG_PPS_WIDTH_MS)) ≤ (s.cyc - c).toNat → Completes .ppsOutPulseEnd s fun t =>
      t.dat = { s.dat with ppsOut := none } ∧ Only [.dat] [] s t) ∧
    Completes .nowLatch s (fun t => t.fld F.DAT_NOW_FRAC + 2 ^ 32 * t.fld F.DAT_NOW_LO + 2 ^ 64 * t.fld F.DAT_NOW_HI = s.datum.toNat ∧
      t.fld F.DAT_CYC_LO + 2 ^ 32 * t.fld F.DAT_CYC_HI = s.cyc.toNat ∧ t.fld F.MER_PHASE = (if 2 ≤ s.merState then s.merPhase s.datumRat else 0) ∧
      Only [] [F.DAT_NOW_FRAC.addr, F.DAT_NOW_LO.addr, F.DAT_NOW_HI.addr, F.DAT_CYC_LO.addr, F.DAT_CYC_HI.addr, F.MER_PHASE.addr] s t)

/-- R220 to R223: Meridian's first edge takes it to ACQUIRING and LOCK_COUNT good ones to LOCKED; a locked edge near the prediction keeps it there, another is counted as spurious, one out of the
range of frequencies as a range error; a missing edge takes it to HOLDOVER, and HOLD_CYCLES cycles of that to UNLOCKED.  A benchmark edge is captured in the input's FIFO, or lost and counted where it is full
or the last is less than 100 ns old; a read pops the oldest.
The model's choices used: log entries 30, 66. -/
def Obligations.MeridianAndBenchmarks : Prop :=
  ∀ s : State,
    (∀ (rise : Bool) (q : BitVec 8) (us : BitVec 32), s.flag F.MER_CFG_EN = true → rise ≠ s.flag F.MER_CFG_EDGE → s.fld F.MER_CFG_MIN_PULSE_US ≤ us.toNat →
      let at_ : Rat := (((s.datumRat * 4).floor - q.toNat : Int) : Rat) / 4
      let e := (signed 32 ((s.merPhase at_ + 2 ^ 32 - s.fld F.MER_PHASE_OFFSET) % 2 ^ 32)).natAbs
      let inRange (p : Rat) : Prop := 1000000000 ≤ p * s.merMax ∧ p * s.merMin ≤ 1000000000
      let mkeys := F.MER_STATUS_STATE.addr :: F.MER_FREQ.addr :: evtKeys
      (s.merState = 0 → s.dat.merPrev = none → Completes (.meridInEdge rise q us) s fun t => t.merState = 1 ∧ t.dat.merLast = at_ ∧ t.dat.merPrev = some at_ ∧ Logged 0x310 0 t ∧
        Only (evts ++ [Machine.Part.dat, .free]) mkeys s t) ∧
      (∀ prev : Rat, s.merState = 1 → s.dat.merPrev = some prev → inRange (at_ - prev) → e ≤ s.fld F.MER_LOCK_THRESH → Completes (.meridInEdge rise q us) s fun t =>
        t.dat.merLast = at_ ∧ (if max 1 (s.fld F.MER_CFG_LOCK_COUNT) ≤ s.dat.merGood + 1 then t.merState = 2 ∧ Logged 0x310 0 t else t.merState = 1 ∧ t.dat.merGood = s.dat.merGood + 1) ∧
        Only (evts ++ [Machine.Part.dat, .free]) mkeys s t) ∧
      (2 ≤ s.merState →
        let p := (at_ - s.dat.merLast) / (max 1 (s.merCycles at_ - s.merCycles s.dat.merLast + 1 / 2).floor : Int)
        (inRange p → e ≤ 2 ^ 26 → e ≤ s.fld F.MER_LOCK_THRESH → Completes (.meridInEdge rise q us) s fun t => t.merState = 2 ∧ t.dat.merLast = at_ ∧
          65536 * s.merMin ≤ t.dat.merF ∧ t.dat.merF ≤ 65536 * max s.merMin s.merMax ∧ t.fld F.MER_FREQ = t.dat.merF ∧ Only (evts ++ [Machine.Part.dat, .free]) mkeys s t) ∧
        (inRange p → 2 ^ 26 < e → Completes (.meridInEdge rise q us) s fun t => t.count C.MER_SPURIOUS = s.count C.MER_SPURIOUS + 1 ∧ Only (evts ++ [Machine.Part.cnt, .holdOff]) evtKeys s t) ∧
        (¬ inRange p → Completes (.meridInEdge rise q us) s fun t => t.count C.MER_RANGE_ERR = s.count C.MER_RANGE_ERR + 1 ∧ Logged 0x311 0 t ∧ Only (evts ++ [Machine.Part.cnt]) evtKeys s t))) ∧
    (s.merState = 2 → 3 / 2 < s.merRate * (s.datumRat - s.dat.merLast) → Completes .meridianEdgeMissing s fun t => t.merState = 3 ∧
      t.fld F.MER_STATUS_HOLD_LEFT = max 1 (s.fld F.MER_HOLD_HOLD_CYCLES) ∧ Logged 0x310 0 t ∧ Only (evts ++ [Machine.Part.dat]) (F.MER_STATUS_STATE.addr :: evtKeys) s t) ∧
    (s.merState = 3 → max 1 (s.fld F.MER_HOLD_HOLD_CYCLES) ≤ (s.merRate * (s.datumRat - s.dat.merHold)).floor.toNat → Completes .meridianHoldExpiry s fun t => t.merState = 0 ∧
      t.dat.merPrev = none ∧ Logged 0x310 0 t ∧ Only (evts ++ [Machine.Part.dat]) (F.MER_STATUS_STATE.addr :: evtKeys) s t) ∧
    (∀ (i : Fin 8) (rise : Bool) (q : BitVec 8), s.flag (F.DAT_BENCH_W0_EN i) = true →
        (s.fld (F.DAT_BENCH_W0_EDGE i) = 3 ∨ s.fld (F.DAT_BENCH_W0_EDGE i) = (if rise then 1 else 2)) →
      let close := ∃ e, (s.bench i).edge = some e ∧ (s.cyc - e).toNat < 150
      (close ∨ 16 ≤ (s.bench i).fifo.length → Completes (.benchCapture i rise q) s fun t => (t.bench i).fifo = (s.bench i).fifo ∧ t.count (C.DAT_BENCH_OVF i) = s.count (C.DAT_BENCH_OVF i) + 1 ∧
        Logged 0x320 i t ∧ (∀ j, j ≠ i.val → t.bench j = s.bench j) ∧ Only (evts ++ [Machine.Part.dat, .cnt]) ((F.DAT_BENCH_W0_LEVEL i).addr :: evtKeys) s t) ∧
      (¬ close → (s.bench i).fifo.length < 16 → Completes (.benchCapture i rise q) s fun t =>
        (∃ c, (t.bench i).fifo = (s.bench i).fifo ++ [c] ∧ c.ns = BitVec.ofInt 64 (((s.datumRat * 4).floor - q.toNat) / 4) ∧ c.quarter = (((s.datumRat * 4).floor - q.toNat) % 4).toNat ∧
          c.rise = rise ∧ c.sync = s.synced ∧ (c.mlock = true ↔ s.merState = 2)) ∧
        t.fld (F.DAT_BENCH_W0_LEVEL i) = (s.bench i).fifo.length + 1 ∧ ((s.bench i).fifo = [] → Logged (0x318 + i) i t) ∧
        (∀ j, j ≠ i.val → t.bench j = s.bench j) ∧ Only (evts ++ [Machine.Part.dat]) ((F.DAT_BENCH_W0_LEVEL i).addr :: evtKeys) s t)) ∧
    (∀ i : Fin 8,
      let shown := [(F.DAT_BENCH_W1_LO i).addr, (F.DAT_BENCH_W2_HI i).addr, (F.DAT_BENCH_W3_VALID i).addr]
      ((s.bench i).fifo = [] → Completes (.benchPop i) s fun t => (∀ a ∈ shown, t.word a = 0) ∧ Only [] shown s t) ∧
      (∀ (c : BenchCap) (rest : List BenchCap), (s.bench i).fifo = c :: rest → rest.length < 16 → c.quarter < 4 → Completes (.benchPop i) s fun t => (t.bench i).fifo = rest ∧
        t.fld (F.DAT_BENCH_W1_LO i) + 2 ^ 32 * t.fld (F.DAT_BENCH_W2_HI i) = c.ns.toNat ∧ t.flag (F.DAT_BENCH_W3_VALID i) = true ∧ t.flag (F.DAT_BENCH_W3_RISE i) = c.rise ∧
        t.flag (F.DAT_BENCH_W3_SYNC i) = c.sync ∧ t.flag (F.DAT_BENCH_W3_MLOCK i) = c.mlock ∧ t.fld (F.DAT_BENCH_W3_QNS i) = c.quarter ∧ t.fld (F.DAT_BENCH_W0_LEVEL i) = rest.length ∧
        (∀ j, j ≠ i.val → t.bench j = s.bench j) ∧ Only [.dat] ((F.DAT_BENCH_W0_LEVEL i).addr :: shown) s t))

/-- R224, R225: ARM takes a stake's configuration, or is refused, INVALID or PAST, with event 0x329; DISARM stops it after the fixed firings, and refuses an ARM beside it; a fixed firing drives the output for WIDTH_NS, or
is suppressed and counted where its source of time is not valid; the output then returns to its inactive level.
The model's choices used: log entries 37, 66. -/
def Obligations.StakesFire : Prop :=
  ∀ (s : State) (k : Fin 8),
    let w := s.fld (F.DAT_STAKE_W6_WIDTH_NS k)
    let p := s.fld (F.DAT_STAKE_W3_PERIOD_PHASE k)
    let ahead := (BitVec.ofNat 64 (s.fld (F.DAT_STAKE_W1_TIME_LO k) + 2 ^ 32 * s.fld (F.DAT_STAKE_W2_TIME_HI k)) - s.datumNs).toInt
    let written (v : Word) (t : State) : Prop := t.fld (F.DAT_STAKE_W0_MODE k) = bitsOf v 24 2 ∧ t.flag (F.DAT_STAKE_W0_POL k) = (bitsOf v 23 1 == 1) ∧
      t.flag (F.DAT_STAKE_W0_REQ_SYNC k) = (bitsOf v 22 1 == 1)
    let key := (F.DAT_STAKE_W0_ARM k).addr
    let invalid (m : Nat) : Prop := w < 10 ∨ (m = 2 ∧ (p < w + 10 ∨ p < 100)) ∨ (m = 3 ∧ s.fld (F.DAT_STAKE_W5_DIVIDE k) = 0)
    let past (m : Nat) : Prop := (m = 1 ∨ m = 2) ∧ ahead < 1024
    (∀ v : Word, bitsOf v 31 1 = 1 → bitsOf v 30 1 = 0 →
      let m := bitsOf v 24 2
      (invalid m ∨ past m → Completes (.stakeArm .secure k v) s fun t => written v t ∧ t.fld (F.DAT_STAKE_W0_ARM_STATUS k) = (if s.fld (F.DAT_STAKE_W6_WIDTH_NS k) < 10 ∨
          (m = 2 ∧ (p < w + 10 ∨ p < 100)) ∨ (m = 3 ∧ s.fld (F.DAT_STAKE_W5_DIVIDE k) = 0) then 2 else 1) ∧ Logged 0x329 k t ∧ Only evts (key :: evtKeys) s t) ∧
      (¬ invalid m → ¬ past m → Completes (.stakeArm .secure k v) s fun t => written v t ∧ t.fld (F.DAT_STAKE_W0_ARM_STATUS k) = 0 ∧ t.flag (F.DAT_STAKE_W0_ARMED k) = (m != 0) ∧
        t.fld (F.DAT_STAKE_W7_FIRED k) = 0 ∧ (t.stake k).mode = m ∧ (t.stake k).width = w ∧ (t.stake k).period = p ∧ (t.stake k).count = s.fld (F.DAT_STAKE_W4_COUNT k) ∧
        (t.stake k).idx = 0 ∧ Only [.dat] [key, (F.DAT_STAKE_W7_FIRED k).addr] s t)) ∧
    (∀ v : Word, bitsOf v 30 1 = 1 →
      let off (t : State) : Prop := written v t ∧ t.flag (F.DAT_STAKE_W0_ARMED k) = false ∧ (t.stake k).mode = 0
      (bitsOf v 31 1 = 0 → Completes (.stakeDisarm .secure k v) s fun t => off t ∧ Only [.dat] [key] s t) ∧
      (bitsOf v 31 1 = 1 → Completes (.stakeDisarm .secure k v) s fun t => off t ∧ t.fld (F.DAT_STAKE_W0_ARM_STATUS k) = 2 ∧ Logged 0x329 k t ∧ Only (evts ++ [Machine.Part.dat]) (key :: evtKeys) s t)) ∧
    (∀ (c : BitVec 64) (need : Nat) (rest : List (BitVec 64 × Nat)), (s.fixStakes.stake k).fixed = (c, need) :: rest → (c - s.cyc).toInt ≤ 0 →
      let stopped : Prop := (need = 1 ∧ s.synced = false) ∨ (need = 2 ∧ s.merState < 2)
      (¬ stopped → Completes (.stakeFiring k) s fun t => (t.stake k).fixed = rest ∧ (t.stake k).on = some (s.cyc + BitVec.ofNat 64 ((3 * w + 1) / 2)) ∧
        t.count (C.DAT_STAKE_FIRED k) = s.count (C.DAT_STAKE_FIRED k) + 1 ∧ t.fld (F.DAT_STAKE_W7_FIRED k) = (s.fld (F.DAT_STAKE_W7_FIRED k) + 1) % 2 ^ (F.DAT_STAKE_W7_FIRED k).width ∧
        Only [.dat, .cnt] [key, (F.DAT_STAKE_W7_FIRED k).addr] s t) ∧
      (stopped → Completes (.stakeFiring k) s fun t => (t.stake k).fixed = rest ∧ (t.stake k).on = (s.stake k).on ∧ t.count (C.DAT_STAKE_SUPP k) = s.count (C.DAT_STAKE_SUPP k) + 1 ∧
        Only (evts ++ [Machine.Part.dat, .cnt, .holdOff]) (key :: evtKeys) s t)) ∧
    (∀ c : BitVec 64, (s.stake k).on = some c → (c - s.cyc).toInt ≤ 0 → Completes (.stakePulseEnd k) s fun t => (t.stake k).on = none ∧ (t.stake k).fixed = (s.stake k).fixed ∧
      (∀ j, j ≠ k.val → t.stake j = s.stake j) ∧ Only [.dat] [] s t)

/-! ## Hearth (spec/10_hearth_keys.md) -/

/-- R260, R261: a Hearth command that its rules refuse ends with its code in STATUS, and changes nothing else but what reports it: HRT_ERR, event 0x350, or for AUTH and
REPLAYED events 0x343 and 0x344 and their counters.  Where the HUK is not good, after RETIRE or a PURGE, every key command is refused with STATE.  The MKA commands, refused to a
ring, answer CLASS_DENIED.
The model's choices used: log entries 17, 22, 24. -/
def Obligations.HearthRefusesWithoutEffect : Prop :=
  ∀ (s : State) (v : Via) (idx arg : Nat) (words : List Word) (c : Instr) (op sel : Nat), (c, op, sel) ∈ hrtCommands v → Way hrtWay op (hrtClass op) [] s v idx arg words →
    let x := (s.setWords hrtWin words).hrtOp op sel (hrtReq v idx arg)
    (11 ≤ op ∧ op ≤ 14 → ∀ d, v = .ring d → Completes c s fun t => Answered d (0x1A00 + op) 0x83 t ∧ Only refusedParts evtKeys s t) ∧
    ((11 ≤ op ∧ op ≤ 14 → ∀ d, v ≠ .ring d) →
      (x.2.1 ≠ 0 → x.2.1 < 16 → Completes c s fun t => HrtTold op v x.2.1 0 t ∧ Only (wayParts v ++ evts ++ [Machine.Part.cnt, .holdOff, .free]) (F.HRT_ERR_VALID.addr :: hrtKeys v ++ evtKeys) s t) ∧
      (s.flag F.HRT_STATUS_HUK_OK = false ∨ s.otp.retired = true ∨ s.hrt.purged = true → s.otp.retired = false ∨ (∀ d, v ≠ .ring d) →
        Completes c s fun t => HrtTold op v 3 0 t ∧ Logged 0x350 idx t ∧ Only (wayParts v ++ evts) (F.HRT_ERR_VALID.addr :: hrtKeys v ++ evtKeys) s t))

/-- R234 to R240, R243, R247, R506: SLOT_ATTR shows a slot; SLOT_IMPORT opens a blob into an empty slot, or with REPLACE into a loaded one, whose GEN rises; SLOT_GENERATE and
SLOT_DERIVE make a child of a slot or of the parcel root; SLOT_EXPORT wraps an exportable slot.  What must be durable is in the store when they answer.
The model's choices used: log entries 17, 22, 23. -/
def Obligations.SlotsAreMade : Prop :=
  ∀ (s : State) (v : Via) (idx arg : Nat) (words : List Word), s.hrtServes = true →
    let u := s.setWords hrtWin words
    let r := hrtReq v idx arg
    let w := u.hrtBytes
    let a := arg % 65536
    let b : Blob := ⟨w⟩
    let made (p : Nat) : List Nat := slotKeys p ++ storeKeys 1 ++ hrtKeys v
    (Way hrtWay 1 .observe [] s v idx arg words → r.may (s.slot idx).parcel = true ∨ (s.slot idx).st = 0 → Completes (.slotAttr v) s fun t => HrtTold 1 v 0 (s.slot idx).gen t ∧
      t.words hrtWin 16 = s.slotWords idx ∧ Only (wayParts v) (winKeys hrtWin 512 ++ hrtKeys v) s t) ∧
    (Way hrtWay 2 .secure [] s v idx arg words → Completes (.slotImport v) s fun t => ∀ p : List Byte, u.openBlob r 0 2 = (0, p) →
        (b.mode = 0 → (s.slot b.wrapSlot).uses (leAt p 1 1 % 16) = true) → b.mode = 1 ∨ b.wrapSlot ≠ idx → (b.mode = 1 → s.storeRoom 0 1) →
      let typ := leAt p 0 1
      let persist := leAt p 1 1 / 32 % 2 == 1
      let new : Slot := { st := 1, gen := 1, typ := typ, usage := leAt p 1 1 % 16, exportable := leAt p 1 1 / 16 % 2 == 1, persist := persist, parcel := b.parcel,
                          rootParent := b.mode == 1, parent := if b.mode = 1 then 0 else b.wrapSlot, key := slice p 16 (slotKeyLen typ), ckn := p.drop (16 + slotKeyLen typ) }
      let taken : Prop := (if b.mode = 1 then t.fld (F.GLB_PARCEL_W3_XSEQ b.parcel) = b.seq else (t.slot b.wrapSlot).importSeq = b.seq) ∧
        (∀ m, m ≠ idx → m ≠ b.wrapSlot ∨ b.mode = 1 → t.slot m = s.slot m) ∧ slotDurable idx t ∧
        Only (wayParts v ++ storeParts ++ [Machine.Part.tie]) ((F.GLB_PARCEL_W3_XSEQ b.parcel).addr :: storeKeys 0 ++ made b.parcel) s t
      ((s.slot idx).st = 0 → s.slotPlace b.parcel persist → s.storeRoom 1 ((if persist then 1 else 0) + if b.mode = 0 ∧ (s.slot b.wrapSlot).persist = true then 1 else 0) →
        HrtTold 2 v 0 1 t ∧ t.slot idx = new ∧ taken) ∧
      ((s.slot idx).st = 1 → arg % 2 = 1 → new.typ = (s.slot idx).typ → new.parcel = (s.slot idx).parcel → new.rootParent = (s.slot idx).rootParent →
          new.parent = (s.slot idx).parent → new.usage = (s.slot idx).usage → s.hrt.retire.length < 64 → (s.slot idx).persist = false ∨ s.flag (F.HRT_STORE_AREA_W0_READ_ONLY 1) = false →
          s.storeRoom 1 ((if persist then 1 else 0) + if b.mode = 0 ∧ (s.slot b.wrapSlot).persist = true then 1 else 0) →
        HrtTold 2 v 0 ((s.slot idx).gen + 1) t ∧
          t.slot idx = { new with gen := (s.slot idx).gen + 1, importSeq := (s.slot idx).importSeq, exports := (s.slot idx).exports,
                                  exportable := new.exportable && (s.slot idx).exportable } ∧
          t.hrt.retire = s.hrt.retire ++ [idx] ∧ taken)) ∧
    (∀ (k : List Byte) (p : Nat) (root : Bool) (n g us : Nat), genForm a = true → Nat.land (a / 16 % 16) us = a / 16 % 16 → (s.slot idx).st = 0 →
      let typ := a / 1024 % 8
      let persist := a / 256 % 2 == 1
      let new : Slot := { st := 1, gen := 1, typ := typ, usage := a / 16 % 16, exportable := a / 512 % 2 == 1, persist := persist, parcel := p, rootParent := root, parent := n }
      s.slotPlace p persist → s.storeRoom 1 (if persist then 1 else 0) →
      (Way hrtWay 3 .secure [] s v idx arg words → u.parentOf r 0 = (0, k, p, root, n, g, us) → s.flag F.HRT_STATUS_TRNG_OK = true → Completes (.slotGenerate v) s fun t => HrtTold 3 v 0 1 t ∧
        { t.slot idx with exports := 0 } = { new with origin := 1, key := leBytes (slotKeyLen typ) s.randomVal } ∧ t.free = s.free + 1 ∧ slotsBut idx s t ∧ slotDurable idx t ∧
        Only (wayParts v ++ storeParts ++ [Machine.Part.free, .tie]) (made p) s t) ∧
      (Way hrtWay 4 .secure [] s v idx arg words → u.parentOf r 1 = (0, k, p, root, n, g, us) → typ ≠ 2 → 1 ≤ leAt w 0 1 → leAt w 0 1 ≤ 64 → leAt w 65 1 ≤ 32 → leAt w 65 1 = 0 ∨ 3 ≤ typ →
        Completes (.slotDerive v) s fun t => HrtTold 4 v 0 1 t ∧
          { t.slot idx with exports := 0 } = { new with origin := 2, ckn := slice w 66 (leAt w 65 1), key :=
            (Config.kdf k (slice w 1 (leAt w 0 1)) (leBytes 1 p ++ leBytes 2 (if root then 0xFFFF else n) ++ leBytes 2 g ++ leBytes 2 a)).take (slotKeyLen typ) } ∧
          slotsBut idx s t ∧ slotDurable idx t ∧ Only (wayParts v ++ storeParts ++ [Machine.Part.tie]) (made p) s t)) ∧
    (let wn := arg / 65536 % 65536
     let e := exportBlob (s.slot idx) wn ((s.slot wn).exports + 1) (s.slot wn).key
     Way hrtWay 5 .secure [] s v idx arg words → s.slotCheck r idx 0 = 0 → s.slotCheck r wn 2 = 0 → (s.slot idx).exportable = true → (s.slot idx).parcel = (s.slot wn).parcel →
        s.storeRoom 1 (if (s.slot wn).persist then 1 else 0) →
      Completes (.slotExport v) s fun t => HrtTold 5 v 0 0 t ∧ t.slot wn = { s.slot wn with exports := (s.slot wn).exports + 1 } ∧ (∀ m, m ≠ wn → t.slot m = s.slot m) ∧
        (e.length ≤ 2048 → t.hrtBytes.take e.length = e) ∧ Only (wayParts v ++ storeParts) (winKeys hrtWin 512 ++ storeKeys 1 ++ hrtKeys v) s t)

/-- R234, R244, R246, R254: SLOT_REVOKE makes the slot and all that descends from it REVOKED, marks the associations whose key came from them, and revokes their handoffs; SLOT_DELETE,
and QUENCH of scope SLOT, make a slot without children RETIRING and commit its tombstone; ATTR_SET clears EXPORTABLE.
The model's choices used: log entry 18. -/
def Obligations.SlotsAreRevokedAndDeleted : Prop :=
  ∀ (s : State) (v : Via) (idx arg : Nat) (words : List Word), s.hrtServes = true →
    let r := hrtReq v idx arg
    let tree := s.descend s.hrt.slots.length [idx]
    let of_ (m : KeyMat) : Prop := ∃ n ∈ tree, m.slot = some n
    (Way hrtWay 6 .secure [] s v idx arg words → (s.slot idx).st = 1 → r.may (s.slot idx).parcel = true → Completes (.slotRevoke v) s fun t => HrtTold 6 v 0 0 t ∧
      (∀ n ∈ tree, (s.slot n).st = 1 → t.slot n = { s.slot n with st := 2 }) ∧ (∀ n, n ∉ tree ∨ (s.slot n).st ≠ 1 → t.slot n = s.slot n) ∧
      (∀ (sa : Nat) (m : KeyMat), (s.ctx sa).key = some m → of_ m → t.ctx sa = { s.ctx sa with marked := true }) ∧
      (∀ sa, { t.ctx sa with marked := (s.ctx sa).marked } = s.ctx sa) ∧
      (∀ (i : Nat) (h : Handoff), (tabGet {} s.hrt.hands i).held = some h → of_ h.mat → (tabGet {} t.hrt.hands i).held = some { h with revoked := true }) ∧
      t.sec.sweeps.length = s.sec.sweeps.length + 1 ∧ Only (wayParts v ++ [Machine.Part.hrt, .sec, .tie]) (hrtKeys v) s t) ∧
    (∀ (c : Instr) (op : Nat), (c, op) ∈ [(Instr.slotDelete v, 7), (.quenchSlot v, 18)] → Way hrtWay op .secure [] s v idx arg words → (s.slot idx).st = 1 ∨ (s.slot idx).st = 2 →
        r.may (s.slot idx).parcel = true →
      (s.childSlots idx = 0 → Completes c s fun t => HrtTold op v 0 0 t ∧ t.slot idx = { s.slot idx with st := 3, hidden := none } ∧ (∀ m, m ≠ idx → t.slot m = s.slot m) ∧
        t.hrt.commits = s.hrt.commits ++ (if (s.slot idx).persist then [{ area := 1, id := idx, pay := .tombstone }] else []) ∧
        Only (wayParts v ++ [Machine.Part.hrt, .tie]) (hrtKeys v) s t) ∧
      (s.childSlots idx ≠ 0 → Completes c s fun t => HrtTold op v 3 0 t ∧ Logged 0x350 idx t ∧ Only (wayParts v ++ evts) (F.HRT_ERR_VALID.addr :: hrtKeys v ++ evtKeys) s t)) ∧
    (Way hrtWay 8 .secure [] s v idx arg words → s.slotCheck r idx 0 = 0 →
      (arg % 2 = 1 → s.storeRoom 1 (if (s.slot idx).persist then 1 else 0) → Completes (.attrSet v) s fun t => HrtTold 8 v 0 0 t ∧ t.slot idx = { s.slot idx with exportable := false } ∧
        (∀ m, m ≠ idx → t.slot m = s.slot m) ∧ slotDurable idx t ∧ Only (wayParts v ++ storeParts ++ [Machine.Part.tie]) (storeKeys 1 ++ hrtKeys v) s t) ∧
      (arg % 2 = 0 → Completes (.attrSet v) s fun t => HrtTold 8 v 0 0 t ∧ Only (wayParts v ++ [Machine.Part.tie]) (hrtKeys v) s t))

/-- R235, R239, R241, R242, R507: SAK_UNWRAP, SAK_FROM_SLOT, MKA_SAK_WRAP and MKA_SAK_UNWRAP place a SAK in a free handoff entry and answer its number; HANDOFF_DROP empties one; MKA_KDF
makes the slot's hidden keys; MKA_ICV, MAC_GEN and SIGN place an ICV, MAC or signature in HRT_DATA, and checks answer AUTH where it differs; IMPORT_PUBKEY shows a parcel's import keys.
The model's choices used: log entries 17, 23. -/
def Obligations.KeysAreUsed : Prop :=
  ∀ (s : State) (v : Via) (idx arg : Nat) (words : List Word), s.hrtServes = true →
    let u := s.setWords hrtWin words
    let r := hrtReq v idx arg
    let w := u.hrtBytes
    let x := s.slot idx
    let free : Prop := ∃ i, i < 64 ∧ (tabGet {} s.hrt.hands i).held = none
    let hand (op p : Nat) (m : KeyMat) (t : State) : Prop := ∃ h, HrtTold op v 0 h t ∧ handed s h p m t
    let put (b : List Byte) (t : State) : Prop := b.length ≤ 2048 → t.hrtBytes.take b.length = b
    let wkeys := winKeys hrtWin 512 ++ hrtKeys v
    let auth (op : Nat) (t : State) : Prop := HrtTold op v 7 0 t ∧ Only (wayParts v ++ evts ++ [Machine.Part.cnt, .holdOff]) (F.HRT_ERR_VALID.addr :: hrtKeys v ++ evtKeys) s t
    (Way hrtWay 9 .operate [] s v idx arg words → free → Completes (.sakUnwrap v) s fun t => ∀ p : List Byte, u.openBlob r 1 6 = (0, p) →
      let b : Blob := ⟨w⟩
      let n := slotKeyLen (leAt p 0 1)
      (b.mode = 1 → s.storeRoom 0 1) → (b.mode = 0 → s.storeRoom 1 (if (s.slot b.wrapSlot).persist then 1 else 0)) →
        hand 9 b.parcel { sak := slice p 16 n, salt := if leAt p 3 1 = 1 then some (slice p (16 + n) 12) else none, slot := if b.mode = 1 then none else some b.wrapSlot,
                          slotGen := if b.mode = 1 then 0 else (s.slot b.wrapSlot).gen } t ∧
        (if b.mode = 1 then t.fld (F.GLB_PARCEL_W3_XSEQ b.parcel) = b.seq else (t.slot b.wrapSlot).importSeq = b.seq) ∧
        Only (wayParts v ++ storeParts) (F.HRT_HANDOFF_IN_USE.addr :: (F.GLB_PARCEL_W3_XSEQ b.parcel).addr :: storeKeys 0 ++ storeKeys 1 ++ hrtKeys v) s t) ∧
    (Way hrtWay 10 .operate [] s v idx arg words → s.slotCheck r idx 4 = 0 → x.typ ≤ 1 → free → Completes (.sakFromSlot v) s fun t =>
      hand 10 x.parcel { sak := x.key, salt := if arg % 2 = 1 then some (w.take 12) else none, slot := some idx, slotGen := x.gen } t ∧
      Only (wayParts v ++ [Machine.Part.hrt]) (F.HRT_HANDOFF_IN_USE.addr :: hrtKeys v) s t) ∧
    ((∀ d, v ≠ .ring d) → 3 ≤ x.typ →
      (Way hrtWay 11 .operate [] s v idx arg words → s.slotCheck r idx 0 = 0 → Completes (.mkaKdf v) s fun t => HrtTold 11 v 0 0 t ∧
        t.slot idx = { x with hidden := some ((Config.mkaIck x.key x.ckn).take (slotKeyLen x.typ), (Config.mkaKek x.key x.ckn).take (slotKeyLen x.typ)) } ∧
        (∀ m, m ≠ idx → t.slot m = s.slot m) ∧ Only [.hrt] (hrtKeys v) s t) ∧
      (∀ ick kek : List Byte, x.hidden = some (ick, kek) →
        (Way hrtWay 12 .operate [] s v idx arg words → s.slotCheck r idx 0 = 0 → arg % 65536 ≤ 2032 →
          let icv := leBytes 16 (Config.aesCmac ick (w.take (arg % 65536)))
          (arg / 65536 % 2 = 0 → Completes (.mkaIcv v) s fun t => HrtTold 12 v 0 0 t ∧ put icv t ∧ Only [] wkeys s t) ∧
          (arg / 65536 % 2 = 1 → Completes (.mkaIcv v) s fun t => (slice w (arg % 65536) 16 = icv → HrtTold 12 v 0 0 t ∧ Only [] (hrtKeys v) s t) ∧
            (slice w (arg % 65536) 16 ≠ icv → auth 12 t))) ∧
        (Way hrtWay 13 .operate [] s v idx arg words → s.slotCheck r idx 4 = 0 → s.flag F.HRT_STATUS_TRNG_OK = true → free → Completes (.mkaSakWrap v) s fun t =>
          let sak := leBytes (slotKeyLen x.typ) s.randomVal
          hand 13 x.parcel { sak := sak, salt := if arg % 2 = 1 then some (Config.mkaSalt (w.take 16)) else none, slot := some idx, slotGen := x.gen } t ∧
          put (Config.keyWrap 1 kek sak) t ∧ t.free = s.free + 1 ∧ Only [.hrt, .free] (F.HRT_HANDOFF_IN_USE.addr :: wkeys) s t) ∧
        (Way hrtWay 14 .operate [] s v idx arg words → s.slotCheck r idx 4 = 0 → free →
          Completes (.mkaSakUnwrap v) s fun t => (∀ sak, Config.keyUnwrap 1 kek (slice w 16 (slotKeyLen x.typ + 8)) = some sak →
            hand 14 x.parcel { sak := sak, salt := if arg % 2 = 1 then some (Config.mkaSalt (w.take 16)) else none, slot := some idx, slotGen := x.gen } t ∧
            Only [.hrt] (F.HRT_HANDOFF_IN_USE.addr :: hrtKeys v) s t) ∧
          (Config.keyUnwrap 1 kek (slice w 16 (slotKeyLen x.typ + 8)) = none → auth 14 t)))) ∧
    (Way hrtWay 15 .operate [] s v idx arg words → s.slotCheck r idx 8 = 0 →
      let n := arg % 65536
      let mac := leBytes 16 (Config.aesCmac x.key (w.take n))
      (arg / 65536 % 4 = 0 → n ≤ 2048 → x.typ ≤ 1 → Completes (.macGen v) s fun t => HrtTold 15 v 0 0 t ∧ put mac t ∧ Only (wayParts v) wkeys s t) ∧
      (arg / 65536 % 4 = 1 → n ≤ 2032 → x.typ ≤ 1 → Completes (.macVerify v) s fun t => (slice w n 16 = mac → HrtTold 15 v 0 0 t ∧ Only (wayParts v) (hrtKeys v) s t) ∧
        (slice w n 16 ≠ mac → auth 15 t)) ∧
      (arg / 65536 % 4 = 2 → n ≤ 2048 → x.typ = 2 → Completes (.hrtSign v) s fun t => HrtTold 15 v 0 0 t ∧ put (Config.ecdsaSign x.key (Config.sha384 (w.take n))) t ∧
        Only (wayParts v) wkeys s t)) ∧
    (∀ h : Handoff, Way hrtWay 16 .operate [] s v idx arg words → s.handoff (arg % 65536) = some h → r.may h.parcel = true → Completes (.handoffDrop v) s fun t => HrtTold 16 v 0 0 t ∧
      (tabGet {} t.hrt.hands (arg % 64)).held = none ∧ (∀ i, i ≠ arg % 64 → tabGet {} t.hrt.hands i = tabGet {} s.hrt.hands i) ∧
      Only (wayParts v ++ [Machine.Part.hrt, .free]) (F.HRT_HANDOFF_IN_USE.addr :: F.HRT_QUENCH_LAST_SCOPE.addr :: hrtKeys v) s t) ∧
    (∀ seed : List Byte, Way hrtWay 17 .observe [] s v idx arg words → r.may (arg % 64) = true → s.importSeed (arg % 64) = some seed → Completes (.importPubkey v) s fun t =>
      HrtTold 17 v 0 0 t ∧ put (Config.importPub seed) t ∧ Only (wayParts v) wkeys s t)

/-- R236, R241, R244, R245, R254, R255, R414: QUENCH of a wider scope becomes a doubled decision and leaves HRT_CMD busy; a completed scope returns RETIRING slots to EMPTY, shows
LAST_SCOPE and raises event 0x34B, and where its readback fails twice sets FAIL and requests HOLD; a sweep's end leaves its marked associations REVOKED, with event 0x342; an unused handoff
ends after 1 s.
The model's choices used: log entries 7, 24, 66. -/
def Obligations.QuenchAndSweeps : Prop :=
  ∀ s : State,
    (∀ (v : Via) (idx arg : Nat) (words : List Word) (c : Instr) (scope : Nat), (c, scope) ∈ [(Instr.quenchParcel v, 3), (.quenchErase v, 4), (.quenchPurge v, 5)] → s.hrtServes = true →
        Way hrtWay 18 .secure [] s v idx arg words → (hrtReq v idx arg).may (if scope = 3 then arg % 64 else 0) = true →
      Completes c s fun t => t.flag F.HRT_CMD_BUSY = true ∧
        (∃ e : Dec, t.env.decs = s.env.decs ++ [e] ∧ e.scope = scope ∧ e.parcel = arg % 64 ∧ e.cmd = true ∧ e.start = s.cyc ∧ 16 ≤ e.delay ∧ e.delay < 256) ∧
        (∀ d, v = .ring d → t.waits = s.waits ++ [{ d := d, opcode := 0x1A12 }]) ∧ (∀ w word, v = .reg w word → t.waits = s.waits) ∧
        Only (wayParts v ++ [Machine.Part.env, .free, .tie, .waits]) (winKeys hrtWin 512 ++ hrtKeys v) s t) ∧
    (∀ (q : Quench) (rest : List Quench) (good : Bool), s.hrt.quench = q :: rest → s.waits = [] → s.sec.delWait = none →
      Completes (.quenchComplete good) s fun t => t.hrt.quench = rest ∧ t.fld F.HRT_QUENCH_LAST_SCOPE = q.scope % 8 ∧ (rest = [] → t.flag F.HRT_QUENCH_BUSY = false) ∧
        (∀ n, (s.slot n).st = 3 → t.slot n = {}) ∧ (∀ n, (s.slot n).st ≠ 3 → t.slot n = s.slot n) ∧ t.hrt.retire = [] ∧
        (q.cmd = true → s.flag F.HRT_STATUS_LOCKSTEP_FAULT = false → t.flag F.HRT_CMD_BUSY = false ∧ t.fld F.HRT_CMD_STATUS = 0) ∧
        (good = true → Logged 0x34B q.scope t ∧ t.requests = s.requests) ∧
        (good = false → t.flag F.HRT_QUENCH_FAIL = true ∧ LoggedSec 0x34C q.scope s t ∧ t.requests = s.requests ++ [{ source := 12, level := 2, event := 0x34C, value := q.scope }]) ∧
        Only (evts ++ [Machine.Part.block 0, .block 5, .block 10, .hrt, .sec, .free, .env, .tie, .requests]) evtKeys s t) ∧
    (∀ (w : Sweep) (rest : List Sweep), s.sec.sweeps = w :: rest → Completes .revocationSweepDone s fun t => t.sec.sweeps = rest ∧ Logged 0x342 w.slot t ∧
      (∀ sa ∈ w.assocs, (s.ctx sa).marked = true → (s.ctx sa).st ≠ .empty → (s.ctx sa).st ≠ .unusable → (t.ctx sa).st = .revoked ∧ ((s.ctx sa).st ≠ .revoked → (t.ctx sa).key = none)) ∧
      (∀ sa, sa ∉ w.assocs → t.ctx sa = s.ctx sa) ∧
      Only (evts ++ [Machine.Part.sec, .free, .cnt, .holdOff]) (F.HRT_QUENCH_LAST_SCOPE.addr :: F.SEC_STATUS_RETIRE_PEND.addr :: F.HRT_ERR_VALID.addr :: evtKeys) s t) ∧
    (∀ (e : BitVec 6) (h : Handoff), (tabGet {} s.hrt.hands e.toNat).held = some h → 1500000000 ≤ (s.cyc - h.made).toNat → Completes (.handoffExpiry e) s fun t =>
      (tabGet {} t.hrt.hands e.toNat).held = none ∧ (∀ i, i ≠ e.toNat → tabGet {} t.hrt.hands i = tabGet {} s.hrt.hands i) ∧
      t.count C.HRT_HANDOFF_EXP = s.count C.HRT_HANDOFF_EXP + 1 ∧
      Only (evts ++ [Machine.Part.hrt, .free, .cnt, .holdOff]) (F.HRT_HANDOFF_IN_USE.addr :: F.HRT_QUENCH_LAST_SCOPE.addr :: F.HRT_ERR_VALID.addr :: evtKeys) s t)

/-- R249 to R253, R257, R258: a queued commit is the record of its kind in force once it has read back, and is tried once more where it has not; HRT_RANDOM gives random bits to the secure world
while TRNG_OK; a failed health test ends that, until 1,024 samples pass; the DRBG is reseeded; a divergence of the cores stops Hearth, with HOLD requested and its commands BUSY.
The model's choices used: log entries 6, 52. -/
def Obligations.StoreAndRandomness : Prop :=
  ∀ s : State,
    (∀ (c : Commit) (rest : List Commit), s.hrt.commits = c :: rest → s.storeRoom c.area 1 →
      (Completes (.storeCommitDone true) s fun t => t.hrt.commits = rest ∧ (∃ r, t.current c.area c.id = some r ∧ r.pay = c.pay) ∧
        t.count (C.HRT_COMMITS c.area) = s.count (C.HRT_COMMITS c.area) + 1 ∧ Only storeParts (storeKeys c.area) s t) ∧
      (Completes (.storeCommitDone false) s fun t => t.hrt.commits = (if c.retry then rest else { c with retry := true } :: rest) ∧ t.current c.area c.id = s.current c.area c.id ∧
        Only storeParts (storeKeys c.area) s t)) ∧
    (∀ (c : Commit) (rest : List Commit) (good : Bool), s.hrt.commits = c :: rest → s.flag (F.HRT_STORE_AREA_W0_READ_ONLY c.area) = true → Completes (.storeCommitDone good) s fun t =>
      t.hrt = { s.hrt with commits := rest } ∧ Only [.hrt] [] s t) ∧
    (s.flag F.HRT_STATUS_TRNG_OK = true → Completes (.randomRead .secure) s fun t => t.fld F.HRT_RANDOM = s.randomVal % 2 ^ 32 ∧ t.free = s.free + 1 ∧ Only [.free, .hrt] [F.HRT_RANDOM.addr] s t) ∧
    (s.flag F.HRT_STATUS_TRNG_OK = false → Completes (.randomRead .secure) s fun t => t.fld F.HRT_RANDOM = 0 ∧ Only [] [F.HRT_RANDOM.addr] s t) ∧
    (Completes .trngHealthFail s fun t => t.flag F.HRT_STATUS_TRNG_OK = false ∧ t.count C.HRT_TRNG_FAIL = s.count C.HRT_TRNG_FAIL + 1 ∧ t.hrt.passes = 0 ∧ Logged 0x341 0 t ∧
      Only (evts ++ [Machine.Part.hrt, .cnt]) (F.HRT_STATUS_TRNG_OK.addr :: F.HRT_ERR_VALID.addr :: evtKeys) s t) ∧
    (∀ n : BitVec 16, Completes (.trngRecover n) s fun t => t.hrt = { s.hrt with passes := s.hrt.passes + n.toNat } ∧
      t.flag F.HRT_STATUS_TRNG_OK = (s.flag F.HRT_STATUS_TRNG_OK || decide (1024 ≤ s.hrt.passes + n.toNat)) ∧ Only [.hrt] [F.HRT_STATUS_TRNG_OK.addr] s t) ∧
    (s.flag F.HRT_STATUS_TRNG_OK = true → 1500000000 ≤ (s.cyc - s.hrt.reseed).toNat ∨ 2 ^ 20 ≤ s.hrt.draws → Completes .drbgReseed s fun t =>
      t.hrt = { s.hrt with draws := 0, reseed := s.cyc } ∧ t.free = s.free + 1 ∧ Only [.hrt, .free] [] s t) ∧
    (Completes .lockstepDivergence s fun t => t.flag F.HRT_STATUS_LOCKSTEP_FAULT = true ∧ t.flag F.HRT_CMD_BUSY = true ∧ LoggedSec 0x34F 0 s t ∧
      t.requests = s.requests ++ [{ source := 12, level := 2, event := 0x34F }] ∧
      Only (evts ++ [Machine.Part.requests, .tie]) (F.HRT_STATUS_LOCKSTEP_FAULT.addr :: F.HRT_CMD_BUSY.addr :: F.HRT_ERR_VALID.addr :: evtKeys) s t)

/-! ## Commits, boot and life cycle (spec/11_signed_control.md, spec/20_power_reset_bringup.md) -/

/-- R273, R275, R276, R279: IMAGE_STAGE programs bytes of the slot that the boot record does not name; IMAGE_VERIFY answers with measurement, IMAGE_SEQ and disruption of an image that passes, and with its code
of one that does not; COMMIT starts the commit of the verified image and is answered when it ends; COMMIT_AT schedules it, where its time lies far enough ahead and Datum is SYNC; COMMIT_CANCEL ends a
scheduled one; while one runs the first two are refused BUSY_COMMIT.
The model's choices used: log entries 55, 57. -/
def Obligations.CommitCommands : Prop :=
  ∀ (s : State) (d : Desc) (q : Session),
    let b := d.payload
    let refused (op code : Nat) (t : State) : Prop :=
      Answered d op code t ∧ t.fld F.GLB_COMMIT_LAST_CODE = code ∧ t.ctl = s.ctl ∧ Only refusedParts (F.GLB_COMMIT_STATE.addr :: evtKeys) s t
    let ready (i : Img) : Prop := s.ctl.run = none ∧ s.ctl.trial = none ∧ imgOf (s.cfgFlash s.stageSlot) = some i ∧
      ∃ v, s.ctl.verified = some v ∧ v.meas = b.take 48 ∧ (v.disrupt = true → i.disruptOk = true)
    (Sent s d 0x300 .operate q → 8 < b.length → b.length ≤ 65544 → leAt b 0 8 + (b.length - 8) ≤ 8388608 →
      (s.ctl.run = none → Completes (.imageStage d) s fun t => Answered d 0x300 0 t ∧ t.cfgFlash s.stageSlot = flashPut (s.cfgFlash s.stageSlot) (leAt b 0 8) (b.drop 8) ∧
        t.cfgFlash (1 - s.stageSlot) = s.cfgFlash (1 - s.stageSlot) ∧ t.ctl.verified = none ∧ t.fld F.GLB_COMMIT_STATE = 1 ∧
        { t.ctl with cfgA := s.ctl.cfgA, cfgB := s.ctl.cfgB, verified := s.ctl.verified } = s.ctl ∧ Only (hostParts ++ [Machine.Part.ctl, .tie]) [F.GLB_COMMIT_STATE.addr] s t) ∧
      (∀ r, s.ctl.run = some r → Completes (.imageStage d) s (refused 0x300 0x8E))) ∧
    (Sent s d 0x301 .operate q → b = [] → 56 ≤ d.rspLen.toNat → d.writeOk = true →
      (s.ctl.run = none → Completes (.imageVerify d) s fun t =>
        (∀ i, s.verifyImg (s.cfgFlash s.stageSlot) false d.agree = .ok i → Answered d 0x301 0 t ∧ t.fld F.GLB_COMMIT_STATE = 2 ∧ Logged 0x004 0 t ∧
          (t.fn d.fn).rspBuf = i.meas ++ leBytes 4 i.seq ++ leBytes 4 (b2n (s.someImage && s.disruptive i)) ∧
          t.ctl = { s.ctl with verified := some { meas := i.meas, seq := i.seq, disrupt := s.someImage && s.disruptive i } }) ∧
        (∀ c o, s.verifyImg (s.cfgFlash s.stageSlot) false d.agree = .refuse c o → 1 ≤ c → c < 256 → Answered d 0x301 c t ∧ t.fld F.GLB_COMMIT_LAST_CODE = c ∧
          t.fld F.GLB_COMMIT_STATE = 1 ∧ t.ctl = { s.ctl with verified := none }) ∧
        (s.verifyImg (s.cfgFlash s.stageSlot) false d.agree = .doubled → Answered d 0x301 0x85 t ∧ t.fld F.GLB_COMMIT_LAST_CODE = 0x85 ∧ t.ctl = { s.ctl with verified := none }) ∧
        Only (hostParts ++ [Machine.Part.ctl, .tie, .fbk, .cnt, .holdOff, .requests]) ([F.GLB_COMMIT_STATE.addr, F.ENV_DD_COUNT.addr] ++ evtKeys) s t) ∧
      (∀ r, s.ctl.run = some r → Completes (.imageVerify d) s (refused 0x301 0x8E))) ∧
    (∀ i, Sent s d 0x302 .operate q → b.length = 48 ∨ b.length = 52 → drainMs b 48 ≤ 60000 → ready i → Completes (.commit d) s fun t =>
      t.ctl = { s.ctl with run := some { meas := b.take 48, at_ := none, drain := drainMs b 48, replaces := s.someImage } } ∧ t.fld F.GLB_COMMIT_STATE = 4 ∧
      t.waits = s.waits ++ [{ d := d, opcode := 0x302 }] ∧ t.fld (F.R2_RING_STATUS_OUTSTANDING d.fn) = s.fld (F.R2_RING_STATUS_OUTSTANDING d.fn) + 1 ∧
      Only (hostParts ++ [Machine.Part.ctl, .waits, .tie]) [F.GLB_COMMIT_STATE.addr] s t) ∧
    (∀ i, Sent s d 0x303 .operate q → b.length = 56 ∨ b.length = 60 → drainMs b 56 ≤ 60000 → ready i →
      let at_ := BitVec.ofNat 64 (leAt b 48 8)
      let sync := s.synced || s.flag F.DAT_CFG_COMMIT_UNSYNC
      (sync = true → (((s.prestageMs + 10) * 1000000 : Nat) : Int) ≤ s.until_ at_ → Completes (.commitAt d) s fun t => Answered d 0x303 0 t ∧
        t.ctl = { s.ctl with run := some { meas := b.take 48, at_ := some at_, drain := drainMs b 56, replaces := s.someImage } } ∧ t.fld F.GLB_COMMIT_STATE = 3 ∧
        t.fld F.GLB_COMMIT_AT_LO + 2 ^ 32 * t.fld F.GLB_COMMIT_AT_HI = at_.toNat ∧ Only (hostParts ++ [Machine.Part.ctl, .tie]) commitKeys s t) ∧
      (sync = true → s.until_ at_ < (((s.prestageMs + 10) * 1000000 : Nat) : Int) → Completes (.commitAt d) s (refused 0x303 0x8F)) ∧
      (sync = false → Completes (.commitAt d) s (refused 0x303 0x90))) ∧
    (Sent s d 0x304 .operate q → b = [] →
      (s.ctl.run = none → Completes (.commitCancel d) s fun t => Answered d 0x304 0 t ∧ Only (hostParts ++ [Machine.Part.tie]) [] s t) ∧
      (∀ r, s.ctl.run = some r → r.at_.isSome = true → s.fld F.GLB_COMMIT_STATE = 3 → Completes (.commitCancel d) s fun t => Answered d 0x304 0 t ∧
        t.ctl = { s.ctl with run := none } ∧ t.fld F.GLB_COMMIT_STATE = 2 ∧ t.fld F.GLB_COMMIT_AT_LO = 0 ∧ t.fld F.GLB_COMMIT_AT_HI = 0 ∧ Only (hostParts ++ [Machine.Part.ctl, .tie]) commitKeys s t) ∧
      (∀ r, s.ctl.run = some r → r.at_ = none ∨ s.fld F.GLB_COMMIT_STATE ≠ 3 → Completes (.commitCancel d) s (refused 0x304 0x8E)))

/-- R226, R276 to R279: PRESTAGE fills what the new image needs without changing what is in force, or ends the commit with event 0x006, LATE while HOLD is in force; SWITCH puts the image in force, or ends the
commit: LATE where it comes unprestaged or under HOLD, UNSYNC with event 0x305 where Datum is not SYNC; 1 ms later POSTSTAGE names the new slot in the boot record, and ends with the floor of IMAGE_SEQ raised and
event 0x005, and COMMIT answered.
The model's choices used: log entries 56, 57, 66. -/
def Obligations.CommitStages : Prop :=
  ∀ (s : State) (r : Run), s.ctl.run = some r →
    (r.prestaged = false → r.switched = none → (∀ t, r.at_ = some t → s.until_ t ≤ ((s.prestageMs * 1000000 : Nat) : Int)) → s.blocksBusy = false →
      (s.held = true → Completes .prestage s fun t => CommitEnded 0x93 s t ∧ Logged 0x006 0 t ∧
        Only (evts ++ [Machine.Part.ctl, .waits, .block 16]) (commitKeys ++ evtKeys) s t) ∧
      (s.held = false → Completes .prestage s fun t =>
        ((t.ctl = { s.ctl with run := t.ctl.run } ∧ (∃ u, t.ctl.run = some { r with undo := u, prestaged := true }) ∧ t.fld F.GLB_COMMIT_STATE = 4) ∨
          ((∃ c, c ≠ 0 ∧ CommitEnded (c % 256) s t) ∧ Logged 0x006 0 t)) ∧
        t.words (F.GLB_CFG_MEASURE 0).addr 12 = s.words (F.GLB_CFG_MEASURE 0).addr 12 ∧ t.fld F.GLB_IMAGE_SEQ = s.fld F.GLB_IMAGE_SEQ ∧ t.fld F.TRV_GEN_ACTIVE = s.fld F.TRV_GEN_ACTIVE ∧
        Only prestageParts (commitKeys ++ (List.range 64).map (fun p => (F.GLB_PARCEL_USE_W0_SCS p).addr) ++ (List.range 64).map (fun p => (F.GLB_PARCEL_USE_W1_SLOTS p).addr) ++
          (List.range 64).map (fun p => (F.GLB_PARCEL_W3_XSEQ p).addr) ++ evtKeys) s t)) ∧
    (r.switched = none →
      (r.prestaged = true → (∀ t, r.at_ = some t → s.until_ t ≤ 0 ∧ s.unsyncNow = false) → s.held = false → ∀ new, s.newImg r = some new → ∀ caps : BitVec 256,
        Completes (.commitSwitch caps) s fun t => t.words (F.GLB_CFG_MEASURE 0).addr 12 = leWords 12 new.meas ∧ t.fld F.GLB_IMAGE_SEQ = new.seq % 2 ^ 32 ∧
          t.fld F.GLB_BOOT_CFG_SLOT = s.newSlot r % 2 ∧ t.fld F.GLB_COMMIT_STATE = 5 ∧ t.ctl = { s.ctl with run := some { r with undo := [], switched := some s.cyc }, verified := none } ∧
          ((∀ e ∈ new.cells, e.1 ≠ F.TRV_GEN_SWAP.addr) → t.fld F.TRV_GEN_ACTIVE = 1 - s.fld F.TRV_GEN_ACTIVE) ∧ t.pending = s.pending ∧ t.cyc = s.cyc ∧ t.otp = s.otp) ∧
      (∀ (a : BitVec 64) (caps : BitVec 256), r.at_ = some a → s.until_ a ≤ 0 → s.unsyncNow = false → s.held = true ∨ r.prestaged = false → Completes (.commitSwitch caps) s fun t =>
        CommitEnded 0x93 s t ∧ Logged 0x006 0 t ∧ t.cyc = s.cyc ∧ t.otp = s.otp) ∧
      (∀ (a : BitVec 64) (caps : BitVec 256) (c : Instr), c = .commitSwitch caps ∨ c = .scheduledCommitUnsync → r.at_ = some a → s.until_ a ≤ 0 → s.unsyncNow = true → Completes c s fun t =>
        CommitEnded 0x90 s t ∧ Logged 0x305 0 t ∧ t.cyc = s.cyc ∧ t.otp = s.otp)) ∧
    (∀ (u : BitVec 64) (new : Img), r.switched = some u → s.newImg r = some new → 1500000 ≤ (s.cyc - u).toNat →
      (r.recorded = false → Completes .poststage s fun t => t.bootRec = { seq := s.bootRec.seq + 1, fw := s.bootRec.fw, cfg := 1 - s.bootRec.cfg } ∧
        (∃ l, t.ctl.run = some { r with recorded := true, draining := l }) ∧ (r.replaces = false → t.ctl.run = some { r with recorded := true } ∧ Only [.ctl] [] s t) ∧
        t.cfgFlash 0 = s.cfgFlash 0 ∧ t.cfgFlash 1 = s.cfgFlash 1 ∧ t.pending = s.pending ∧ t.cyc = s.cyc ∧ t.otp = s.otp) ∧
      (r.recorded = true → (∀ sa ∈ r.draining, (s.ctx sa).st ≠ .draining) → s.blocksBusy = false → Completes .poststage s fun t =>
        t.ctl.run = none ∧ t.fld F.GLB_COMMIT_STATE = 0 ∧ t.fld F.GLB_COMMIT_AT_LO = 0 ∧ t.fld F.GLB_COMMIT_AT_HI = 0 ∧ Logged 0x005 0 t ∧
        tabGet 0 t.hrt.seqs 64 = max new.seq (tabGet 0 s.hrt.seqs 64) ∧ t.bootRec = s.bootRec ∧
        (∀ w, s.waits = [w] → w.opcode = 0x302 → r.at_ = none → w.mute = false → s.flag (F.R2_RING_CTL_MSG_EN w.d.fn) = true → (s.fn w.d.fn).stopped = false →
          t.waits = [] ∧ Answered w.d 0x302 0 t) ∧ t.pending = s.pending ∧ t.cyc = s.cyc ∧ t.otp = s.otp))

/-- R266, R268, R287, R288, R297: FW_STAGE programs bytes of the firmware slot that is not running; a signed FW_UPDATE of a staged image that passes the checks of R266 and is the one named hands over to it, in TRIAL, sessions
closed; FW_CONFIRM names it in the boot record and raises the SVN floor as its FLAGS say; at the end of CONFIRM_S, and when the service firmware fails in TRIAL, the former image takes over again; in NO_FW the recovery
port erases, writes and boots slot A.
The model's choices used: log entries 51, 59, 66. -/
def Obligations.FirmwareUpdateAndRecovery : Prop :=
  ∀ (s : State) (d : Desc) (q : Session),
    let reverted (t : State) : Prop := (∀ f : Fin 64, (t.fn f).session = none) ∧ t.fld F.GLB_BOOT_FW_SLOT = (1 - s.fld F.GLB_BOOT_FW_SLOT) ∧ t.fld F.GLB_BOOT_FW_SVN = s.ctl.before.2.1 % 256 ∧
      t.words (F.GLB_FW_MEASURE 0).addr 12 = leWords 12 s.ctl.before.1 ∧ t.ctl = { s.ctl with trial := none, fwVersion := s.ctl.before.2.2 } ∧ t.fld F.GLB_BOOT_TRIAL = 0 ∧
      Logged 0x009 s.idleFw t ∧ Only (evts ++ [Machine.Part.ctl]) ([F.GLB_BOOT_STAGE.addr, F.GLB_SESSION_OPEN.addr] ++ winKeys (F.GLB_FW_MEASURE 0).addr 12 ++ evtKeys) s t
    (Sent s d 0x310 .operate q → 8 < d.payload.length → d.payload.length ≤ 65544 → leAt d.payload 0 8 + (d.payload.length - 8) ≤ 16777216 → Completes (.fwStage d) s fun t =>
      Answered d 0x310 0 t ∧ t.fwFlash s.idleFw = flashPut (s.fwFlash s.idleFw) (leAt d.payload 0 8) (d.payload.drop 8) ∧ t.fwFlash (1 - s.idleFw) = s.fwFlash (1 - s.idleFw) ∧
      { t.ctl with fwA := s.ctl.fwA, fwB := s.ctl.fwB } = s.ctl ∧ Only (hostParts ++ [Machine.Part.ctl]) [] s t) ∧
    (∀ n : Nonce, SentSigned s d 0x311 q n → d.agree = true → (descBody d).length = 48 → s.ctl.run = none → s.ctl.trial = none →
      CompletesSigned (.fwUpdate d true) s d 0x311 (refusedParts ++ [Machine.Part.ctl]) ([F.GLB_BOOT_STAGE.addr, F.GLB_SESSION_OPEN.addr] ++ winKeys (F.GLB_FW_MEASURE 0).addr 12 ++ evtKeys) fun t =>
        (∀ i, fwCheck s.otp (s.fwFlash s.idleFw) = .inl i → i.measure = descBody d → Answered d 0x311 0 t ∧ (∀ f : Fin 64, (t.fn f).session = none) ∧ t.fld F.GLB_BOOT_FW_SLOT = s.idleFw ∧
          t.fld F.GLB_BOOT_FW_SVN = i.svn % 256 ∧ t.words (F.GLB_FW_MEASURE 0).addr 12 = leWords 12 i.measure ∧ t.fld F.GLB_BOOT_TRIAL = 1 ∧ t.ctl.trial = some s.cyc ∧
          t.ctl.before = (wordBytes (s.words (F.GLB_FW_MEASURE 0).addr 12), s.fld F.GLB_BOOT_FW_SVN, s.ctl.fwVersion) ∧ Logged 0x007 s.idleFw t) ∧
        (∀ i, fwCheck s.otp (s.fwFlash s.idleFw) = .inl i → i.measure ≠ descBody d → Answered d 0x311 0x8A t ∧ t.ctl = s.ctl) ∧
        (∀ c, fwCheck s.otp (s.fwFlash s.idleFw) = .inr c → Answered d 0x311 c t ∧ t.ctl = s.ctl)) ∧
    (∀ t0, Sent s d 0x312 .operate q → d.payload = [] → s.ctl.trial = some t0 → Completes (.fwConfirm d) s fun t => Answered d 0x312 0 t ∧
      let k := s.fld F.GLB_BOOT_FW_SLOT
      let flags := leNat (flashGet (s.fwFlash k) 7 1)
      t.bootRec = { seq := s.bootRec.seq + 1, fw := k, cfg := s.bootRec.cfg } ∧ t.ctl.trial = none ∧ t.fld F.GLB_BOOT_TRIAL = 0 ∧
      t.otp = { s.otp with svnFloor := if flags % 2 = 1 then max s.otp.svnFloor (min 128 (s.fld F.GLB_BOOT_FW_SVN)) else s.otp.svnFloor, fwRevoked := s.otp.fwRevoked ||| BitVec.ofNat 4 (flags / 2) } ∧
      t.fld F.GLB_BOOT_SVN_FLOOR = t.otp.svnFloor % 256 ∧ Logged 0x008 k t ∧ Only (hostParts ++ [Machine.Part.fbk, .ctl, .otp]) (F.GLB_BOOT_STAGE.addr :: evtKeys) s t) ∧
    (∀ t0, s.ctl.trial = some t0 → (1500000000 * max 1 (s.fld F.GLB_FW_CONFIRM_S) ≤ (s.cyc - t0).toNat → Completes .trialExpiry s reverted) ∧
      (s.hostUp = true → Completes .serviceWatchdogExpiry s reverted)) ∧
    (s.ctl.trial = none → s.hostUp = true → (∀ w ∈ s.waits, w.opcode ≠ 0x302) → Completes .serviceWatchdogExpiry s fun t => t.waits = [] ∧ (∀ f : Fin 64, (t.fn f).session = none) ∧
      Logged 0x00F 0 t ∧ Only (evts ++ [Machine.Part.block 16, .waits, .sec]) ([F.GLB_SESSION_OPEN.addr, F.SEC_CMD_BUSY.addr] ++ evtKeys) s t) ∧
    (s.fld F.GLB_BOOT_STAGE = 8 →
      let o := s.fld F.GLB_RECOVERY_OFS
      let n := s.fld F.GLB_RECOVERY_LEN
      let ctl := F.GLB_RECOVERY_CTL_STATUS.addr
      Completes (.recoveryErase true) s (fun t => t.ctl = { s.ctl with fwA := [] } ∧ t.fld F.GLB_RECOVERY_CTL_STATUS = 0 ∧ Only [.ctl] [ctl] s t) ∧
      Completes (.recoveryErase false) s (fun t => t.ctl = { s.ctl with fwA := t.ctl.fwA } ∧ t.fld F.GLB_RECOVERY_CTL_STATUS = 2 ∧ Only [.ctl, .free] [ctl] s t) ∧
      (o % 4096 = 0 → o < 16777216 → n % 4 = 0 → 4 ≤ n → n ≤ 4096 →
        Completes (.recoveryWrite true) s (fun t => t.ctl = { s.ctl with fwA := flashPut s.ctl.fwA o (wordBytes (s.words (F.GLB_RECOVERY_DATA 0).addr (n / 4))) } ∧
          t.fld F.GLB_RECOVERY_CTL_STATUS = 0 ∧ Only [.ctl] [ctl] s t) ∧
        Completes (.recoveryWrite false) s (fun t => t.ctl = { s.ctl with fwA := t.ctl.fwA } ∧ t.fld F.GLB_RECOVERY_CTL_STATUS = 2 ∧ Only [.ctl, .free] [ctl] s t)) ∧
      (∀ good, o % 4096 ≠ 0 ∨ 16777216 ≤ o ∨ n % 4 ≠ 0 ∨ n < 4 ∨ 4096 < n → Completes (.recoveryWrite good) s fun t => t.fld F.GLB_RECOVERY_CTL_STATUS = 1 ∧ Only [] [ctl] s t) ∧
      Completes (.recoveryBoot true) s (fun t =>
        (∀ i, fwCheck s.otp s.ctl.fwA = .inl i → Booted 0 i t ∧ t.fld F.GLB_RECOVERY_CTL_STATUS = 0 ∧ t.bootRec = { seq := s.bootRec.seq + 1, fw := 0, cfg := s.bootRec.cfg } ∧
          Only [.ctl] ([F.GLB_BOOT_STAGE.addr, ctl] ++ winKeys (F.GLB_FW_MEASURE 0).addr 12) s t) ∧
        (∀ c, fwCheck s.otp s.ctl.fwA = .inr c → t.fld F.GLB_RECOVERY_CTL_STATUS = 3 ∧ Only [] [ctl] s t)))

/-- R264, R284, R289, R290, R415: TAKE_OWNERSHIP, TRANSFER, SEAL and RETIRE, each with its signatures and doubled verdict, program their OTP, purge and reset the device; without their signatures they have no effect but the
refusal; REVOKE_AUTH_KEY revokes an owner key that is not the last.
The model's choices used: log entries 7, 59. -/
def Obligations.LifeCycleCommands : Prop :=
  ∀ (s : State) (d : Desc) (q : Session) (n : Nonce) (b : BootIn), d.agree = true → s.ctl.lcsNew = false → s.ctl.run = none → s.ctl.trial = none →
    let p := descBody d
    let signed (op : Nat) : Prop := s.otp.verify s.otp.ownerAuthority (label "ZGD lcs") (descHeader d s.otp op) (descSigBlock d) = .ok
    let performed (c : Instr) (op : Nat) (good : Prop) (o : Otp → Prop) : Prop := Completes c s fun t =>
      (good → Transitioned o b s t) ∧ (¬ good → (Answered d op 0x85 t ∨ Answered d op 0x87 t) ∧ Only refusedParts evtKeys s t)
    let same (o : Otp) : Prop := o.svnFloor = s.otp.svnFloor ∧ o.fwRevoked = s.otp.fwRevoked ∧ o.storeLoss = s.otp.storeLoss ∧ s.otp.evidence ≤ o.evidence
    (∀ k, 1 ≤ k → k ≤ 4 → p.length = 48 * k + 7424 * (k - 1) → SentSigned s d 0x400 q n → s.otp.lcs = 0 →
      let hs := proposed k p
      performed (.takeOwnership d true b) 0x400 (newKeysOk hs (lcsHeader d s.otp 0x400 hs) (blocksOf (k - 1) (p.drop (48 * k)) ++ [descSigBlock d]) = true)
        fun o => o.owned = true ∧ o.isSealed = s.otp.isSealed ∧ o.retired = false ∧ o.owners = [{ hashes := hs }] ∧ same o) ∧
    (∀ k, 1 ≤ k → k ≤ 4 → p.length = 7472 * k → SentSigned s d 0x401 q n → s.otp.lcs = 1 → s.otp.epoch < 4 →
      let hs := proposed k p
      let head := lcsHeader d s.otp 0x401 hs
      performed (.transferOwner d true b) 0x401 (s.otp.verify 2 (label "ZGD lcs") head (descSigBlock d) = .ok ∧ newKeysOk hs head (blocksOf k (p.drop (48 * k))) = true)
        fun o => o.owned = s.otp.owned ∧ o.isSealed = s.otp.isSealed ∧ o.retired = false ∧ o.owners = s.otp.owners ++ [{ hashes := hs }] ∧ same o) ∧
    (p = [] → SentSigned s d 0x402 q n → s.otp.lcs = 1 →
      performed (.sealDevice d true b) 0x402 (signed 0x402) fun o => o.isSealed = true ∧ o.owned = s.otp.owned ∧ o.retired = false ∧ o.owners = s.otp.owners ∧ same o) ∧
    (p = [] → SentSigned s d 0x403 q n →
      performed (.retireDevice d true b) 0x403 (signed 0x403) fun o => o.retired = true ∧ o.owned = s.otp.owned ∧ o.isSealed = s.otp.isSealed ∧ o.owners = s.otp.owners ∧ same o) ∧
    (p.length = 4 → leAt p 0 4 ≤ 3 → SentSigned s d 0x404 q n → s.otp.lcs ≠ 0 → s.otp.lastKey (leAt p 0 4) = false →
      CompletesSigned (.revokeAuthKey d) s d 0x404 (refusedParts ++ [Machine.Part.otp]) evtKeys fun t => Answered d 0x404 0 t ∧
        ∃ r, s.otp.owners.getLast? = some r ∧ t.otp = { s.otp with owners := s.otp.owners.dropLast ++ [{ r with revoked := r.revoked ||| (1#4 <<< leAt p 0 4) }] })

/-- R291, R292, R296, R409: a debug token of the owner's, for this device, its epoch and its count of power-on resets, opens debug, FULL after ERASE and HOLD; BYPASS, IDCODE and SAMPLE/PRELOAD do nothing, and the other JTAG
instructions put HOLD in force; a write that the call gate performs has the effect of the secure world's, and any other is refused with event 0x010.
The model's choices used: log entry 59. -/
def Obligations.DebugAndCallGate : Prop :=
  ∀ s : State,
    (∀ (d : Desc) (q : Session) (n : Nonce), Sent s d 0x405 .operate q → d.agree = true → tokenForm d.payload = true → s.otp.lcs = 1 →
        n ∈ (s.fn d.fn).nonces → n.bytes = slice d.payload 24 32 → s.elapsed n.at_ < 300 * cycS →
      let scope := leAt d.payload 4 1
      let mine : Prop := leAt d.payload 8 8 = Config.serial.toNat ∧ leAt d.payload 16 4 = s.otp.epoch ∧ leAt d.payload 20 4 = s.powerCycles
      let good : Prop := s.otp.verify 2 (label "ZGD dbg") (d.payload.take 56) (d.payload.drop 56) = .ok
      Completes (.debugUnlock d) s fun t =>
        (good → mine → Answered d 0x405 0 t ∧ t.fld F.GLB_BOOT_DEBUG = max scope (s.fld F.GLB_BOOT_DEBUG) ∧ Logged 0x00E 0 t ∧
          (scope = 1 → Only (.fbk :: hostParts) (F.GLB_BOOT_STAGE.addr :: evtKeys) s t) ∧
          (scope = 2 → 3 ≤ t.fld F.ENV_STATUS_LEVEL ∧ (s.hrt.quench = [] → t.hrt.closed = true) ∧ (∀ f : Nat, s.fld F.ENV_STATUS_LEVEL < 2 → f < 64 → t.portOpen f = false) ∧ LoggedSec 0x00E 12 s t)) ∧
        (good → ¬ mine → Answered d 0x405 0x88 t ∧ Only refusedParts evtKeys s t) ∧
        (¬ good → (Answered d 0x405 0x85 t ∨ Answered d 0x405 0x87 t) ∧ Only refusedParts evtKeys s t)) ∧
    (∀ i : Jtag, i ∈ [Jtag.bypass, .idcode, .samplePreload] → Completes (.jtagInstruction i) s fun t => t = s) ∧
    (∀ i : Jtag, i ∈ [Jtag.extest, .intest, .clamp] → s.env.held = false →
      (s.fld F.ENV_STATUS_LEVEL < 2 → Completes (.jtagInstruction i) s fun t => t.fld F.ENV_STATUS_LEVEL = 2 ∧ t.flag F.ENV_STATUS_ALERT = true ∧ (∀ n, n < 64 → t.portOpen n = false) ∧
        LoggedSec 0 12 s t ∧ t.otp = s.otp ∧ t.pending = s.pending ∧ t.cyc = s.cyc ∧ t.rules = s.rules ∧ t.plat = s.plat) ∧
      (2 ≤ s.fld F.ENV_STATUS_LEVEL → Completes (.jtagInstruction i) s fun t => LoggedSec 0 12 s t ∧ Only evts (F.ENV_LAST_VALID.addr :: evtKeys) s t)) ∧
    (∀ (a : BitVec 24) (v : Word),
      (s.gateOpens a.toNat v = true → Completes (.callGateRequest a v) s fun t =>
        (∀ (b : BootIn) (good : Bool), exec (.registerWrite .secure (a.zeroExtend 32) v b good) s = .next t) ∧
        (∀ i, i < 512 → a.toNat = hrtWin + 4 * i → t.word a.toNat = v ∧ Only [] [a.toNat] s t)) ∧
      (s.gateOpens a.toNat v = false → Completes (.callGateRequest a v) s fun t => LoggedSec 0x010 (a.toNat / 0x100000) s t ∧ Only evts evtKeys s t))

/-- R18, R266, R269, R472 to R478: a power-on reset restores every domain but BATTERY, a CHIP reset, by command or watchdog, keeps the POWER domain and time and records its cause; from PORST_N's release, with the reference clock, the PLL
locks and the ROM starts the firmware, which mounts the store, counts the boot and applies the configuration of the boot record's slot, or applies none.
The model's choices used: log entries 4, 52, 53, 54. -/
def Obligations.ResetsAndBoot : Prop :=
  ∀ s : State,
    (∀ (k : Fin 33) (torn : Bool), s.env.held = false → Completes (.powerOnReset k torn) s fun t =>
      ResetLeaves true [0, 1, 2, 3, 4, 5, 6, 7, 8, 9, 10, 11, 12, 14, 16] s t ∧ t.env = {} ∧ t.linkUp = false ∧
      ∀ (a : Nat) (d : RegD) (x : FieldD), regDesc a = some d → x ∈ d.fields → x.dom = .battery → t.fld ⟨a, x.lo, x.width⟩ = s.fld ⟨a, x.lo, x.width⟩) ∧
    (∀ (strap : Bool) (b : BootIn), s.env.held = true →
      (Completes (.porstNRelease strap false b) s fun t => t.env = { s.env with held := false } ∧ t.flag F.TIE_STATUS_STRAP = strap ∧ Only [.env] [F.TIE_STATUS_STRAP.addr] s t) ∧
      (Completes (.porstNRelease strap true b) s fun t => t.env.held = false ∧ t.env.pll = true ∧ t.flag F.TIE_STATUS_STRAP = strap ∧ t.flag F.HRT_STATUS_HUK_OK = b.huk ∧
        t.flag F.HRT_STATUS_TRNG_OK = true ∧ t.fld F.HRT_STATUS_LCS = s.otp.lcs ∧ RomOutcome b.agree t ∧ Only romParts [] s t)) ∧
    (∀ b : BootIn, s.env.held = false → s.env.pll = false → Completes (.corePllLock b) s fun t => t.env.pll = true ∧ t.flag F.HRT_STATUS_HUK_OK = b.huk ∧ RomOutcome b.agree t ∧
      Only romParts [] s t) ∧
    (∀ (b : BootIn) (c : Instr) (cause : Fld), (c, cause) ∈ [(Instr.chipReset .secure b, F.GLB_RST_CAUSE_CHIP_CMD), (.watchdogReset b, F.GLB_RST_CAUSE_WATCHDOG)] →
        s.env.held = false → s.env.pll = true →
      Completes c s fun t => t.flag cause = true ∧ ResetLeaves false [1, 2, 3, 4, 5, 6, 8, 9] s t ∧ t.flag F.HRT_STATUS_HUK_OK = b.huk ∧ RomOutcome b.agree t ∧
        t.linkUp = s.linkUp ∧ t.tmp.plain = s.tmp.plain) ∧
    (∀ x : FwIn, s.env.held = false → s.fld F.GLB_BOOT_STAGE = 1 → Completes (.firmwareBoot x) s fun t =>
      t.powerCycles = s.powerCycles + s.ctl.owedPower ∧ t.boots = s.boots + s.ctl.owedBoots ∧ t.ctl.owedPower = 0 ∧ t.ctl.owedBoots = 0 ∧
      (t.fld F.GLB_BOOT_STAGE = 9 ∨
        (t.fld F.GLB_BOOT_STAGE = 4 ∧ Logged 0x001 (s.fld F.GLB_BOOT_FW_SLOT) t ∧ s.flag F.HRT_STATUS_HUK_OK = true ∧ t.fld F.GLB_BOOT_CFG_SLOT = s.bootRec.cfg % 2 ∧
          ∃ i, imgOf (s.cfgFlash s.bootRec.cfg) = some i ∧ t.words (F.GLB_CFG_MEASURE 0).addr 12 = leWords 12 i.meas ∧ t.fld F.GLB_IMAGE_SEQ = i.seq % 2 ^ 32)) ∧
      (s.flag F.HRT_STATUS_HUK_OK = false → t.fld F.GLB_BOOT_STAGE = 9 ∧ t.fld F.GLB_IMAGE_SEQ = s.fld F.GLB_IMAGE_SEQ) ∧
      (s.flag F.HRT_STATUS_HUK_OK = true → imgOf (s.cfgFlash s.bootRec.cfg) = none → t.fld F.GLB_BOOT_STAGE = 9 ∧ Logged 0x003 0 t) ∧
      t.pending = s.pending ∧ t.cyc = s.cyc ∧ t.opMin = s.opMin ∧ { t.ctl with owedPower := s.ctl.owedPower, owedBoots := s.ctl.owedBoots, lcsNew := s.ctl.lcsNew } = s.ctl)

/-! ## Parcels (spec/12_parcels.md) -/

/-- R304, R306, R308 to R311, R314 to R320: ASSIGN gives an UNASSIGNED parcel its tenant, its limits and a new epoch, and it runs; RELEASE begins a HARD reset that releases the parcel; RESET begins a reset of its kind,
FREEZE a freeze, each in progress until it is done; THAW lets a FROZEN parcel run; SAVE writes the image of a FROZEN parcel, RESTORE loads one that passes its checks; a parcel in another state refuses them with
PARCEL_STATE.
The model's choices used: log entries 61, 63. -/
def Obligations.ParcelCommands : Prop :=
  ∀ (s : State) (d : Desc) (q : Session), d.fn = 0 →
    let p := parNum (descBody d)
    let b := descBody d
    let st := s.parState p
    let w0 := (F.GLB_PARCEL_W0_STATE p).addr
    let waits (op : Nat) (t : State) : Prop := t.waits = s.waits ++ [{ d := d, opcode := op }]
    let signed (op len : Nat) : Prop := (∃ n, SentSigned s d op q n) ∧ d.agree = true ∧ b.length = len
    let sent (op len : Nat) : Prop := Sent s d op .operate q ∧ b.length = len
    p < 64 → q.parcels.getLsbD p = true →
    (signed 0x500 16 → p ≠ 0 → st = Ps.unassigned → leAt b 4 4 ≠ 0 → s.storeRoom 0 1 →
      CompletesSigned (.parcelAssign d) s d 0x500 (refusedParts ++ storeParts ++ [Machine.Part.tie])
        ([w0, (F.GLB_PARCEL_W1_TENANT p).addr, (F.GLB_PARCEL_W2_EPOCH p).addr, (F.GLB_PARCEL_LIM_W0_SC_MAX p).addr, (F.GLB_PARCEL_LIM_W1_SLOT_MAX p).addr] ++ storeKeys 0 ++ evtKeys) fun t =>
        Answered d 0x500 0 t ∧ t.parState p = Ps.running ∧ t.fld (F.GLB_PARCEL_W1_TENANT p) = leAt b 4 4 ∧ tabGet 0 t.hrt.tenants p = leAt b 4 4 ∧ t.parcelEpoch p = s.parcelEpoch p + 1 ∧
        t.fld (F.GLB_PARCEL_W2_EPOCH p) = (s.parcelEpoch p + 1) % 2 ^ 32 ∧ t.fld (F.GLB_PARCEL_LIM_W0_SC_MAX p) = min 65536 (leAt b 8 4) ∧
        t.fld (F.GLB_PARCEL_LIM_W1_SLOT_MAX p) = min 4096 (leAt b 12 4 / 65536 % 8192) ∧ t.fld (F.GLB_PARCEL_LIM_W1_PIN_MAX p) = min 4096 (leAt b 12 4 % 8192) ∧ Logged 0x021 p t) ∧
    (signed 0x501 4 → p ≠ 0 → st ≠ Ps.unassigned → (s.parOf p).reset = none → s.sec.delWait = none → tabWf (fun _ => none) s.frames = true → CompletesSigned (.parcelRelease d) s d 0x501 (pathParts ++ [Machine.Part.par, .block 4]) [] fun t =>
      waits 0x501 t ∧ t.parState p = Ps.resetting ∧ t.flag (F.GLB_PARCEL_W0_HARD p) = true ∧ t.parFrames p s.nextFrame (fun f => f.ended.isNone) = [] ∧
      ∃ r, (t.parOf p).reset = some r ∧ r.hard = true ∧ r.release = true ∧ r.bound = s.nextFrame ∧ r.at_ = s.cyc) ∧
    (sent 0x502 8 → leAt b 4 4 ≠ 1 → st = Ps.running → (s.parOf p).reset = none → Completes (.parcelReset d) s fun t => waits 0x502 t ∧ t.parState p = Ps.resetting ∧ Logged 0x021 p t ∧
      (t.parOf p).reset = some { hard := false, at_ := s.cyc, bound := s.nextFrame, frozen := false } ∧ (∀ o, o < ctlQueue → o % 64 = p → (t.queue o).maxDepth = 0 ∧ (t.queue o).maxDelay = 0) ∧
      (∀ o, ctlQueue ≤ o ∨ o % 64 ≠ p → t.queue o = s.queue o) ∧ Only (hostParts ++ [Machine.Part.fbk, .par, .blw, .waits, .tie]) (w0 :: evtKeys) s t) ∧
    (sent 0x502 8 → leAt b 4 4 = 1 → st = Ps.running ∨ st = Ps.freezing ∨ st = Ps.frozen → (s.parOf p).reset = none → s.sec.delWait = none → tabWf (fun _ => none) s.frames = true →
      Completes (.parcelReset d) s fun t => waits 0x502 t ∧ t.parState p = Ps.resetting ∧ t.flag (F.GLB_PARCEL_W0_HARD p) = true ∧ t.parFrames p s.nextFrame (fun f => f.ended.isNone) = [] ∧
      (∃ r, (t.parOf p).reset = some r ∧ r.hard = true ∧ r.release = false ∧ r.bound = s.nextFrame ∧ r.at_ = s.cyc ∧ (r.frozen = true ↔ st ≠ Ps.running)) ∧
      Only (pathParts ++ [Machine.Part.par, .block 4]) [] s t) ∧
    (sent 0x503 4 → p ≠ 0 → st = Ps.running → Completes (.parcelFreeze d) s fun t => waits 0x503 t ∧ t.parState p = Ps.freezing ∧ (t.parOf p).freeze = some s.cyc ∧ Logged 0x021 p t ∧
      Only (hostParts ++ [Machine.Part.fbk, .par, .waits, .tie]) (w0 :: evtKeys) s t) ∧
    (sent 0x504 4 → st = Ps.frozen → Completes (.parcelThaw d) s fun t => Answered d 0x504 0 t ∧ t.parState p = Ps.running ∧ t.flag (F.GLB_PARCEL_W0_SAVED p) = false ∧
      t.flag (F.GLB_PARCEL_W0_RESTORED p) = false ∧ Logged 0x021 p t ∧ Only (hostParts ++ [Machine.Part.fbk, .tie]) (w0 :: evtKeys) s t) ∧
    (signed 0x505 1693 → p ≠ 0 → st = Ps.frozen → d.writeOk = true →
      let img := s.image p (leAt b 4 8) (leAt b 12 4 % 256) (leAt b 1681 4) (slice b 16 1665)
      CompletesSigned (.parcelSave d) s d 0x505 (refusedParts ++ storeParts ++ [Machine.Part.sec, .free, .tie, .block 10, .block 5, .block 13]) (w0 :: storeKeys 2 ++ evtKeys) fun t =>
        (s.imageRoom img.length = true → Answered d 0x505 0 t ∧ t.flag (F.GLB_PARCEL_W0_SAVED p) = true ∧ (t.fn 0).rspBuf = img ∧ Logged 0x024 p t) ∧
        (s.imageRoom img.length = false → Answered d 0x505 0x92 t ∧ t.flag (F.GLB_PARCEL_W0_SAVED p) = s.flag (F.GLB_PARCEL_W0_SAVED p))) ∧
    (∀ img : List Byte, signed 0x506 128 → st = Ps.frozen → (s.sec.chans.any fun e => e.2.valid && e.2.parcel == p) = false → (s.hrt.slots.any fun e => e.2.st != 0 && e.2.parcel == p) = false →
        s.imageRoom img.length = true → s.storeRoom 0 1 →
      CompletesSigned (.parcelRestore d img true) s d 0x506 (refusedParts ++ storeParts ++ [Machine.Part.rules, .plat, .sec, .saStat, .blw, .tie, .free, .block 0, .block 3, .block 4, .block 5, .block 7, .block 10, .block 13])
          evtKeys fun t =>
        (∀ r, s.restoreCheck p (slice b 4 48) (slice b 64 64) img = .inr r → Answered d 0x506 0 t ∧ t.flag (F.GLB_PARCEL_W0_RESTORED p) = true ∧ tabGet 0 t.hrt.seqs p = leAt img 32 4 ∧
          Logged 0x025 p t) ∧
        (∀ c, s.restoreCheck p (slice b 4 48) (slice b 64 64) img = .inl c → Answered d 0x506 c t ∧ t.hrt = s.hrt ∧ t.sec = s.sec ∧ t.rules = s.rules ∧ t.plat = s.plat ∧ t.blw = s.blw)) ∧
    (∀ (c : Instr) (op : Nat), (c, op) ∈ [(Instr.parcelFreeze d, 0x503), (.parcelThaw d, 0x504)] → sent op 4 → st = Ps.unassigned → Completes c s fun t =>
      Answered d op 0x94 t ∧ Only refusedParts evtKeys s t)

/-- R306, R312, R314, R315, R322, R323: a reset whose frames are gone lets its parcel run, or stay frozen, and completes its release; 10 µs after the boundary of a SOFT reset or of a freeze the frames that hold heats are squashed;
a freeze ends, with event 0x023, once no frame remains, or at FREEZE_MS; the parcel window's mirrors take writes from a function whose session is OPERATE, other writes are refused.
The model's choices used: log entries 63, 66. -/
def Obligations.ParcelsComplete : Prop :=
  ∀ (s : State) (p : Fin 64),
    let w0 := (F.GLB_PARCEL_W0_STATE p).addr
    let waitsFor (op : Nat) (w : Wait) : Bool := w.opcode == op && parNum (descBody w.d) == p.val
    (∀ r, (s.parOf p).reset = some r → s.parHolders p r = [] → s.parState p = Ps.resetting →
      (r.release = false → Completes (.parcelResetDone p) s fun t => t.parOf p = {} ∧ t.parState p = (if r.frozen then Ps.frozen else Ps.running) ∧ t.flag (F.GLB_PARCEL_W0_HARD p) = false ∧
        Logged 0x021 p t ∧ t.waits.all (fun w => !waitsFor 0x502 w) = true ∧ Only (evts ++ [Machine.Part.par, .waits, .block 16]) (w0 :: evtKeys) s t) ∧
      (r.release = true → p ≠ 0 → Completes (.parcelResetDone p) s fun t => t.parOf p = {} ∧ t.parState p = Ps.unassigned ∧ t.flag (F.GLB_PARCEL_W0_HARD p) = false ∧
        t.fld (F.GLB_PARCEL_W1_TENANT p) = 0 ∧ tabGet 0 t.hrt.tenants p = 0 ∧ t.fld (F.GLB_PARCEL_LIM_W0_SC_MAX p) = 0 ∧ t.fld (F.GLB_PARCEL_LIM_W1_SLOT_MAX p) = 0 ∧ (t.fn p).session = none ∧
        (∃ e, t.env.decs = s.env.decs ++ [e] ∧ e.scope = 3 ∧ e.parcel = p.val) ∧ (∀ k, (s.rule k).owner = p → t.rule k = {}) ∧ t.waits.all (fun w => !waitsFor 0x502 w && !waitsFor 0x501 w) = true ∧
        t.frames = s.frames ∧ t.par = tabSet {} s.par p {} ∧ t.otp = s.otp)) ∧
    (∀ r, (s.parOf p).reset = some r → r.hard = false → 15000 ≤ (s.cyc - r.at_).toNat → Completes (.parcelResetTimeout p) s fun t =>
      let n := (s.parFrames p r.bound fun f => f.inside && f.ended.isNone).length
      t.parOf p = { s.parOf p with reset := some { r with gone := r.gone + n, late := r.late + n } } ∧ (∀ o : Nat, o ≠ p → t.parOf o = s.parOf o) ∧ Only (pathParts ++ [Machine.Part.par]) [] s t) ∧
    (∀ t0, (s.parOf p).freeze = some t0 →
      ((s.parOf p).reset = none → 15000 ≤ (s.cyc - t0).toNat → Completes (.parcelResetTimeout p) s fun t =>
        t.parOf p = { s.parOf p with gone := (s.parOf p).gone + (s.parFrames p s.nextFrame fun f => f.inside && f.ended.isNone).length } ∧ Only (pathParts ++ [Machine.Part.par]) [] s t) ∧
      (max 1 (s.fld F.GLB_PARCEL_CTL_FREEZE_MS) * 1500000 ≤ (s.cyc - t0).toNat → tabWf (fun _ => none) s.frames = true → Completes (.freezeTimeout p) s fun t => t.parState p = Ps.frozen ∧ t.parOf p = {} ∧
        Logged 0x023 p t ∧ t.parFrames p s.nextFrame (fun f => f.ended.isNone) = [] ∧ t.waits.all (fun w => !waitsFor 0x503 w) = true ∧ Only (pathParts ++ [Machine.Part.par]) [] s t)) ∧
    (s.parState p = Ps.freezing → s.parFrames p s.nextFrame (fun _ => true) = [] → Completes (.parcelFrozen p) s fun t => t.parState p = Ps.frozen ∧ t.parOf p = {} ∧ Logged 0x023 p t ∧
      t.waits.all (fun w => !waitsFor 0x503 w) = true ∧ Only (evts ++ [Machine.Part.par, .waits, .block 16]) (w0 :: evtKeys) s t) ∧
    (∀ (off : BitVec 16) (v : Word), p ≠ 0 →
      let may : Prop := ∃ q, (s.fn p).session = some q ∧ q.cls = 1
      (∀ k, k < 4 → off = BitVec.ofNat 16 (0x110 + 4 * k) → may → Completes (.parcelWindowWrite p off v) s fun t => t.word (pltWin + 4 * k) = v ∧ Only [] [pltWin + 4 * k] s t) ∧
      (∀ r, off = 0x104 → may → regDesc F.PLT_FLUSH_MODE.addr = some r → Completes (.parcelWindowWrite p off v) s fun t =>
        t.word F.PLT_FLUSH_MODE.addr = r.writeWord false (s.word F.PLT_FLUSH_MODE.addr) v ∧ Only [] [F.PLT_FLUSH_MODE.addr] s t) ∧
      (¬ may ∨ off.toNat ∉ [0x100, 0x104, 0x110, 0x114, 0x118, 0x11C, 0x200] → Completes (.parcelWindowWrite p off v) s fun t =>
        t.count (C.GLB_CMD_REFUSED p) = s.count (C.GLB_CMD_REFUSED p) + 1 ∧ (∀ i, i ≠ C.GLB_CMD_REFUSED p → t.count i = s.count i) ∧ Only (evts ++ [Machine.Part.cnt, .holdOff]) evtKeys s t))

/-! ## Field book, counters and telemetry (spec/18_field_book_and_counters.md, spec/21_electrical_package.md) -/

/-- R434, R437 to R439, R445: COUNTER_READ answers with the cycle before and after and the counters asked for; COUNTER_CLEAR zeroes them, with event 0x3F2; a read of a low word latches the high one for its master;
FB_READ answers with the part of the field book asked for; a signed FB_CLEAR clears the parts selected, and its record stands first in a cleared security log.
The model's choices used: log entry 38. -/
def Obligations.CountersAndFieldBookCommands : Prop :=
  ∀ (s : State) (d : Desc) (q : Session), d.fn = 0 →
    let b := descBody d
    let first := leAt b 0 2
    let n := leAt b 2 2
    let range : Prop := b.length = 4 ∧ 1 ≤ n ∧ n ≤ 1024 ∧ first + n ≤ 8192
    (Sent s d 0x0202 .observe q → range → 16 + 8 * n ≤ d.rspLen.toNat → d.writeOk = true → Completes (.counterRead d) s fun t => Answered d 0x0202 0 t ∧
      (let r := (t.fn 0).rspBuf
       r.length = 16 + 8 * n ∧ leAt r 0 8 = s.cyc.toNat ∧ (∃ k, k ≤ 4 * (n - 1) ∧ leAt r 8 8 = (s.cyc.toNat + k) % 2 ^ 64) ∧
       ∀ k, k < n → leAt r (16 + 8 * k) 8 = (s.count (first + k)).toNat) ∧ t.free = s.free + 1 ∧ Only (.free :: hostParts) [] s t) ∧
    (Sent s d 0x0203 .operate q → range → Completes (.counterClear d) s fun t => Answered d 0x0203 0 t ∧ (∀ i, first ≤ i → i < first + n → t.count i = 0) ∧
      (∀ i, i < first ∨ first + n ≤ i → t.count i = s.count i) ∧ Logged 0x3F2 first t ∧ Only (hostParts ++ [Machine.Part.cnt, .fbk]) evtKeys s t) ∧
    (∀ (m : Fin 66) (i : BitVec 13), Completes (.counterLowRead m i) s fun t =>
      t.fbk = { s.fbk with cntLatch := tabSet (0, 0) s.fbk.cntLatch m (i.toNat, (s.count i.toNat).extractLsb' 32 32) } ∧ Only [.fbk] [] s t) ∧
    (∀ kind start count : Nat, kind ≤ 5 → b.length = 12 → leAt b 0 1 = kind → leAt b 1 3 = 0 → start = leAt b 4 4 → count = leAt b 8 4 →
        Sent s d 0x0204 .observe q → (kind ∈ [2, 3, 4] ∨ (1 ≤ count ∧ count ≤ 4096)) → (if kind ∈ [2, 3, 4] then 49168 else 16 + 32 * count) ≤ d.rspLen.toNat → d.writeOk = true →
      Completes (.fbRead d) s fun t => Answered d 0x0204 0 t ∧
        (t.fn 0).rspBuf = (match kind with
          | 0 => s.fbRecords (s.fbk.secLog.map fun (r : LogRec) => (r.seq, r.bytes)) start count
          | 1 => s.fbRecords (s.fbk.opLog.map fun (r : LogRec) => (r.seq, r.bytes)) start count
          | 2 => s.fbBlock (some s.fbk.life)
          | 3 => s.fbBlock (some { opMin := s.opMin, pwr := s.powerCycles, secOverflow := s.fld F.FBK_SEC_OVF_OVERFLOW, clears := s.fbk.life.clears, hist := s.fbk.hist })
          | 4 => s.fbBlock s.fbk.archive[start]?
          | _ => s.fbRecords (s.smpNow.fbSamples 0) start count).take d.rspLen.toNat ∧
        Only (hostParts ++ [Machine.Part.fbk, .cnt]) [] s t ∧ t.fbk.secLog = s.fbk.secLog ∧ t.fbk.opLog = s.fbk.opLog ∧ t.fbk.hist = s.fbk.hist ∧ t.fbk.life = s.fbk.life) ∧
    (∀ nc : Nonce, SentSigned s d 0x0205 q nc → d.agree = true → b.length = 4 → CompletesSigned (.fbClear d) s d 0x0205 refusedParts evtKeys fun t => Answered d 0x0205 0 t ∧
      let bit (i : Nat) : Bool := leAt b 0 4 / 2 ^ i % 2 == 1
      (if bit 0 = true then ∃ r, t.fbk.secLog.head? = some r ∧ r.num = 0x3F2 ∧ r.scope = leAt b 0 4 else s.fbk.secLog <+: t.fbk.secLog) ∧ (bit 1 = true → t.fbk.opLog = []) ∧
      t.fbk.life = (if bit 2 then { generation := s.fbk.life.generation, opMin := s.opMin, pwr := s.powerCycles, clears := s.fbk.life.clears + 1 } else s.fbk.life) ∧
      t.fbk.hist = (if bit 3 then {} else s.fbk.hist) ∧ t.fbk.archive = (if bit 4 then [] else s.fbk.archive))

/-- R423, R424, R427, R428, R432, R493: FBK_HSEL takes what is written and its histogram begins anew; the environment's samples show in ENV_MEAS and once per second enter their histograms; an operating minute is counted
and committed; at a whole operating hour the increments join the life block, and the archive where there is one, or event 0x3F5 tells of a failed commit; SMBus reads answer.
The model's choices used: log entries 38, 50. -/
def Obligations.HistogramsAndLifeBlock : Prop :=
  ∀ s : State,
    (∀ (h : Fin 32) (v : Word) (d : RegD), regDesc (F.FBK_HSEL_VALID h).addr = some d → Completes (.hselWrite .secure h v) s fun t =>
      t.word (F.FBK_HSEL_VALID h).addr = d.writeWord true (s.word (F.FBK_HSEL_VALID h).addr) v ∧ (∀ i, i / 64 = h → tabGet 0 t.fbk.hist.latency i = 0) ∧
      (∀ i, i / 64 ≠ h → tabGet 0 t.fbk.hist.latency i = tabGet 0 s.fbk.hist.latency i) ∧ tabGet (0, 0) t.fbk.hist.latMax h = (0, 0) ∧
      t.fbk = { s.fbk with hist := { s.fbk.hist with latency := t.fbk.hist.latency, latMax := t.fbk.hist.latMax } } ∧ Only [.fbk] [(F.FBK_HSEL_VALID h).addr] s t) ∧
    (∀ m : Meas, Completes (.environmentSample m) s fun t =>
      ([0, 1, 2, 3, 4, 5, 6, 7].map fun i => t.fld (F.ENV_MEAS_VALUE i)) = [m.vddCore, m.vddIo, m.refDev, m.temp0, m.temp1, m.temp2, m.temp3, m.vbat].map BitVec.toNat ∧
      ((s.cyc - s.fbk.envAt).toNat < 1500000000 → t.fbk = s.fbk) ∧
      (1500000000 ≤ (s.cyc - s.fbk.envAt).toNat → t.fbk.envAt = s.cyc ∧
        (s.flag F.FBK_CFG_HIST_EN = true → (∀ p, p ∈ [(0, m.temp0), (1, m.temp1), (2, m.temp2), (3, m.temp3)] →
            tabGet 0 t.fbk.hist.temp (64 * p.1 + stepBin (-160) 10 63 p.2.toInt) = tabGet 0 s.fbk.hist.temp (64 * p.1 + stepBin (-160) 10 63 p.2.toInt) + 1) ∧
          tabGet 0 t.fbk.hist.supply (stepBin 670 5 31 m.vddCore.toNat) = tabGet 0 s.fbk.hist.supply (stepBin 670 5 31 m.vddCore.toNat) + 1) ∧
        (s.flag F.FBK_CFG_HIST_EN = false → t.fbk.hist = s.fbk.hist)) ∧ Only [.fbk] (winKeys (F.ENV_MEAS_VALUE 0).addr 8) s t) ∧
    (90000000000 ≤ (s.cyc - s.fbk.minAt).toNat → Completes .operatingMinute s fun t => t.opMin = s.opMin + 1 ∧ t.powerCycles = s.powerCycles ∧ t.boots = s.boots ∧
      t.fbk = { s.fbk with minAt := s.fbk.minAt + 90000000000, opPend := 0 } ∧
      t.hrt = { s.hrt with commits := s.hrt.commits ++ [{ area := 3, id := 0, pay := .counters (s.opMin + 1) s.powerCycles s.boots }] } ∧ Only [.life, .fbk, .hrt] [] s t) ∧
    (s.fbk.hourAt + 60 ≤ s.opMin →
      (Completes (.hourlyCommit true) s fun t => t.fbk.hourAt = s.opMin ∧ t.fbk.hour = {} ∧ t.fbk.life.generation = s.fbk.life.generation + 1 ∧ t.fbk.life.opMin = s.opMin ∧
        t.fbk.life.pwr = s.powerCycles ∧ t.fbk.life.clears = s.fbk.life.clears ∧
        (s.flag F.FBK_STATUS_ARCHIVE = true → s.flag F.FBK_CFG_ARCHIVE_EN = true → 1 ≤ s.fld (F.TMP_REGION_W1_SIZE_MIB 2) →
          ∃ r, t.fbk.archive.head? = some r ∧ r.period = true ∧ r.generation = s.fbk.archiveGen + 1 ∧ t.fbk.archiveGen = s.fbk.archiveGen + 1) ∧
        (s.flag F.FBK_STATUS_ARCHIVE = false → t.fbk.archive = s.fbk.archive) ∧ Only [.fbk] [] s t) ∧
      (Completes (.hourlyCommit false) s fun t => t.fbk.hourAt = s.opMin ∧ t.fbk.life = s.fbk.life ∧ t.fbk.archive = s.fbk.archive ∧ LoggedSec 0x3F5 0 s t ∧ Only evts evtKeys s t)) ∧
    (∀ (cmd : Byte) (word : Bool), Completes (.smbusRead cmd word true) s (fun t => t.smbus = none ∧ Only [.smbus] [] s t) ∧
      Completes (.smbusRead cmd word false) s (fun t => Only [.smbus] [] s t ∧
        (s.env.held = true ∨ s.env.pll = false → t.smbus = some (List.replicate (if word then 2 else 1) 0xFF)) ∧
        (s.env.held = false → s.env.pll = true → (∀ v w, s.smbusValue cmd.toNat = some (v, w) →
            t.smbus = some (if word then (if w = 2 then leBytes 2 v else leBytes 1 v ++ [0xFF]) else leBytes 1 v)) ∧
          (s.smbusValue cmd.toNat = none → t.smbus = some (List.replicate (if word then 2 else 1) 0xFF)))))

/-- R441, R443, R444, R446: FBK_SMP_ONE takes what is written; RESTART empties the sample store; a sample record that has waited 1 µs for the other half of its line is written alone; a bandwidth window's counts are latched at its
end, and begin anew where WINDOW_US is changed; a read of a port's word 0 latches its other words.
The model's choices used: log entries 38, 66. -/
def Obligations.SamplerAndBandwidth : Prop :=
  ∀ s : State,
    (∀ (w : World) (v : Word) (d : RegD), regDesc F.FBK_SMP_ONE_ARM.addr = some d → Completes (.oneShotArm w v) s fun t =>
      t.word F.FBK_SMP_ONE_ARM.addr = d.writeWord w.isSecure (s.word F.FBK_SMP_ONE_ARM.addr) v ∧ Only [] [F.FBK_SMP_ONE_ARM.addr] s t) ∧
    (∀ (v : Word) (d : RegD), regDesc F.FBK_SMP_CFG_EN.addr = some d → s.flag F.FBK_SMP_CFG_RESTART = false →
      let new := d.writeWord true (s.word F.FBK_SMP_CFG_EN.addr) v
      (bitsOf v F.FBK_SMP_CFG_RESTART.lo 1 = 0 → Completes (.samplerRestart .secure v) s fun t => t.word F.FBK_SMP_CFG_EN.addr = new ∧ Only [] [F.FBK_SMP_CFG_EN.addr] s t) ∧
      (bitsOf v F.FBK_SMP_CFG_RESTART.lo 1 = 1 → Completes (.samplerRestart .secure v) s fun t => t.word F.FBK_SMP_CFG_EN.addr = putBits new F.FBK_SMP_CFG_RESTART.lo 1 0 ∧
        t.flag F.FBK_STATUS_SMP_STOPPED = false ∧ t.fbk = { s.fbk with samples := [], regionSamples := [], buffer := [], written := 0 } ∧
        Only [.fbk] [F.FBK_SMP_CFG_EN.addr, F.FBK_STATUS_SMP_STOPPED.addr] s t)) ∧
    (∀ (x : Sample) (at_ : BitVec 64), s.fbk.buffer = [(x, at_)] → x.seq % 2 = 1 → 1500 ≤ (s.cyc - at_).toNat → 30 ≤ (s.cyc - s.fbk.bufAt).toNat → s.smpRegion = false →
      let i := (x.seq + 2 ^ 32 - 1) % 2 ^ 32 % 4096
      Completes .samplePairTimeout s fun t => t.fbk.buffer = [] ∧ tabGet none t.fbk.samples i = some x ∧ tabGet none t.fbk.samples (i + 1) = none ∧
        (∀ k, k ≠ i → k ≠ i + 1 → tabGet none t.fbk.samples k = tabGet none s.fbk.samples k) ∧ t.count C.FBK_SMP_RECORDS = s.count C.FBK_SMP_RECORDS + 1 ∧ Only [.fbk, .cnt] [] s t) ∧
    (1500 * s.windowUs ≤ (s.cyc - s.fbk.winAt).toNat → Completes .bandwidthWindowEnd s fun t => t.fbk.window = [] ∧ t.fbk.winAt = s.fbk.winAt + BitVec.ofNat 64 (1500 * s.windowUs) ∧
      (∀ n k, n < 64 → k < 4 → (tabGet 0 t.fbk.latched (8 * n + 2 * k)).toNat + 2 ^ 32 * (tabGet 0 t.fbk.latched (8 * n + 2 * k + 1)).toNat = tabGet 0 s.fbk.window (4 * n + k) % 2 ^ 64) ∧
      (∀ n, n < 64 → t.word (F.FBK_BW (8 * n)).addr = tabGet 0 t.fbk.latched (8 * n)) ∧ Only [.fbk] ((List.range 64).map fun n => (F.FBK_BW (8 * n)).addr) s t) ∧
    (∀ (v : Word) (d : RegD), regDesc F.FBK_BW_CFG_WINDOW_US.addr = some d → Completes (.windowUsWrite .secure v) s fun t =>
      t.word F.FBK_BW_CFG_WINDOW_US.addr = d.writeWord true (s.word F.FBK_BW_CFG_WINDOW_US.addr) v ∧
      t.fbk = (if t.windowUs = s.windowUs then s.fbk else { s.fbk with window := [], winAt := s.cyc }) ∧ Only [.fbk] [F.FBK_BW_CFG_WINDOW_US.addr] s t) ∧
    (∀ n : Fin 64, Completes (.bandwidthRead n) s fun t => (∀ k, 1 ≤ k → k < 8 → t.word (F.FBK_BW (8 * n + k)).addr = tabGet 0 s.fbk.latched (8 * n + k)) ∧
      Only [] (winKeys (F.FBK_BW (8 * n + 1)).addr 7) s t)

/-! ## External memory and stored data (spec/14_temper_external_memory.md, spec/15_stored_data_protection.md) -/

/-- R356, R357, R359, R364: an allowed read of a sound line gives its bytes; a corrected one counts a CE; an uncorrectable one gives the poison mark and counts a UE; one whose MAC or tree fails gives zeros, the mark and a bus error, is
counted and recorded, and is answered as INTEG_RESP says; one that is not allowed gives zeros and a bus error and is counted; after HALT every access is refused.
The model's choices used: log entries 60, 65. -/
def Obligations.TemperReads : Prop :=
  ∀ (s : State) (m : TMaster) (line : BitVec 32),
    let a := line.toNat
    let code := masterCode m
    let ch := ddrChannel a
    let given (l : Line) (err : Bool) (t : State) : Prop := t.tmp.last = some l ∧ t.tmp.err = err ∧ t.count (C.TMP_POISON_READ code) = s.count (C.TMP_POISON_READ code) + (if l.poison then 1 else 0)
    let storeSame (t : State) : Prop := t.tmp.lines = s.tmp.lines ∧ t.tmp.plain = s.tmp.plain ∧ t.tmp.minors = s.tmp.minors ∧ t.tmp.majors = s.tmp.majors
    let answered (event : Nat) (t : State) : Prop := if s.flag F.TMP_CFG_INTEG_RESP then t.flag F.TMP_STATUS_HALTED = true else
      t.requests = s.requests ++ [{ source := 12, level := 1, event := event }]
    let failParts : List Part := evts ++ [Machine.Part.tmp, .cnt, .holdOff, .requests, .sec, .free, .tie, .block 0, .block 5, .block 10, .block 11, .block 13]
    (s.flag F.TMP_STATUS_HALTED = true → ∀ dram, Completes (.temperRead m line dram) s fun t => t.tmp = { s.tmp with last := some { bytes := zeroLine }, err := true } ∧
      LoggedSec 0x388 code s t ∧ Only (evts ++ [Machine.Part.tmp]) evtKeys s t) ∧
    (s.flag F.TMP_STATUS_HALTED = false →
      (s.tmpCheck m a 1 = none → ∀ dram, Completes (.temperRead m line dram) s fun t => t.tmp = { s.tmp with last := some { bytes := zeroLine }, err := true } ∧
        t.count (C.TMP_ACCESS_DENY code) = s.count (C.TMP_ACCESS_DENY code) + 1 ∧ LoggedSec 0x387 code s t ∧
        Only (evts ++ [Machine.Part.tmp, .cnt, .holdOff]) ([F.TMP_FAIL_LAST_W0_VALID.addr, F.TMP_FAIL_LAST_W1_LINE.addr] ++ evtKeys) s t) ∧
      (∀ (r : Nat) (x : Region), s.tmpCheck m a 1 = some (r, x) →
        (x.prot = false → ∀ l, tabGet none s.tmp.plain a = some l → Completes (.temperRead m line .clean) s fun t => given l false t ∧ storeSame t ∧ Only [.tmp, .cnt] [] s t) ∧
        (x.prot = false → tabGet none s.tmp.plain a = none → Completes (.temperRead m line .clean) s fun t => (∃ b : List Byte, b.length = 64 ∧ given { bytes := b } false t) ∧ storeSame t ∧
          t.free = s.free + 1 ∧ Only [.tmp, .cnt, .free] [] s t) ∧
        (x.prot = true → s.flag F.TMP_STATUS_KEYS_VALID = true → s.beneath a = false →
          (Completes (.temperRead m line .clean) s fun t => given (s.tmpLine a) false t ∧ storeSame t ∧ Only [.tmp, .cnt] [] s t) ∧
          (Completes (.temperRead m line .corrected) s fun t => given (s.tmpLine a) false t ∧ storeSame t ∧ t.count (C.TMP_CE ch) = s.count (C.TMP_CE ch) + 1 ∧
            Only (evts ++ [Machine.Part.tmp, .cnt, .holdOff, .block 12]) evtKeys s t) ∧
          (Completes (.temperRead m line .uncorrectable) s fun t => given poisonLine false t ∧ t.count (C.TMP_UE ch) = s.count (C.TMP_UE ch) + 1 ∧
            (s.readOnly a = false → s.tmpMinor a < 127 → t.tmpLine a = poisonLine) ∧ (∀ k, k ≠ a → tabGet none t.tmp.lines k = tabGet none s.tmp.lines k) ∧
            Only (evts ++ [Machine.Part.tmp, .cnt, .holdOff, .requests, .block 11, .block 12]) evtKeys s t) ∧
          (s.tmpWritten a = true → Completes (.temperRead m line .forged) s fun t => given poisonLine true t ∧ t.count C.TMP_MAC_FAIL = s.count C.TMP_MAC_FAIL + 1 ∧
            LoggedSec 0x380 code s t ∧ (s.readOnly a = false → s.tmpMinor a < 127 → answered 0x380 t) ∧ Only failParts evtKeys s t) ∧
          (s.tmpWritten a = false → Completes (.temperRead m line .forged) s fun t => given { bytes := zeroLine } false t ∧ Only [.tmp] [] s t) ∧
          (∀ k : Fin 4, Completes (.temperRead m line (.badNode k)) s fun t => given poisonLine true t ∧ t.count C.TMP_META_FAIL = s.count C.TMP_META_FAIL + 1 ∧
            LoggedSec 0x382 k s t ∧ storeSame t ∧ Only failParts evtKeys s t))))

/-- R355, R358, R361, R362, R364: a whole-line write to a protected line stores it under its next counters; at minor 127 its page is first re-encrypted under its next M; a partial write merges its bytes; one beyond the protected part
writes plainly; a write to a read-only page, one not allowed and one after HALT store nothing.
The model's choices used: log entry 65. -/
def Obligations.TemperWrites : Prop :=
  ∀ (s : State) (m : TMaster) (line : BitVec 32) (off : Fin 64) (b : List Byte), off.val + b.length ≤ 64 →
    let a := line.toNat
    let code := masterCode m
    let c (dram : Dram) := Instr.temperWrite m line off b dram
    let denied (t : State) : Prop := t.tmp.err = true ∧ t.tmp.lines = s.tmp.lines ∧ t.tmp.plain = s.tmp.plain ∧ t.tmp.minors = s.tmp.minors ∧ t.tmp.majors = s.tmp.majors
    let stored (l : Line) (t : State) : Prop := t.tmp.last = none ∧ t.tmp.err = false ∧ t.tmpLine a = l ∧ t.tmpMinor a = s.tmpMinor a + 1 ∧
      t.tmp = { s.tmp with lines := tabSet none s.tmp.lines a (some l), minors := tabSet 0 s.tmp.minors a (s.tmpMinor a + 1), last := none, err := false }
    (s.flag F.TMP_STATUS_HALTED = true → Completes (c .clean) s fun t => denied t ∧ LoggedSec 0x388 code s t ∧ Only (evts ++ [Machine.Part.tmp]) evtKeys s t) ∧
    (s.flag F.TMP_STATUS_HALTED = false → s.tmpCheck m a 2 = none → Completes (c .clean) s fun t => denied t ∧
      t.count (C.TMP_ACCESS_DENY code) = s.count (C.TMP_ACCESS_DENY code) + 1 ∧ LoggedSec 0x387 code s t ∧
      Only (evts ++ [Machine.Part.tmp, .cnt, .holdOff]) ([F.TMP_FAIL_LAST_W0_VALID.addr, F.TMP_FAIL_LAST_W1_LINE.addr] ++ evtKeys) s t) ∧
    (∀ (r : Nat) (x : Region), s.flag F.TMP_STATUS_HALTED = false → s.tmpCheck m a 2 = some (r, x) →
      (x.prot = false → b.length = 64 → Completes (c .clean) s fun t => tabGet none t.tmp.plain a = some { bytes := b } ∧ (∀ k, k ≠ a → tabGet none t.tmp.plain k = tabGet none s.tmp.plain k) ∧
        t.tmp.lines = s.tmp.lines ∧ t.tmp.err = false ∧ Only [.tmp] [] s t) ∧
      (∀ l, x.prot = false → b.length ≠ 64 → tabGet none s.tmp.plain a = some l → Completes (c .clean) s fun t =>
        tabGet none t.tmp.plain a = some { l with bytes := l.bytes.take off ++ b ++ l.bytes.drop (off + b.length) } ∧
        (∀ k, k ≠ a → tabGet none t.tmp.plain k = tabGet none s.tmp.plain k) ∧ t.tmp.lines = s.tmp.lines ∧ t.tmp.err = false ∧ Only [.tmp] [] s t) ∧
      (x.prot = true → s.readOnly a = true → Completes (c .clean) s fun t => denied t ∧ t.count C.TMP_RO_WRITE = s.count C.TMP_RO_WRITE + 1 ∧
        Only (evts ++ [Machine.Part.tmp, .cnt, .holdOff, .sec, .free, .tie, .block 0, .block 5, .block 10, .block 11, .block 13]) evtKeys s t) ∧
      (x.prot = true → s.readOnly a = false → s.flag F.TMP_STATUS_KEYS_VALID = true → s.beneath a = false →
        (b.length = 64 → s.tmpMinor a ≠ 127 → Completes (c .clean) s fun t => stored { bytes := b } t ∧ Only [.tmp] [] s t) ∧
        (b.length ≠ 64 → s.tmpMinor a ≠ 127 → (s.tmpLine a).poison = false → Completes (c .clean) s fun t =>
          stored { bytes := (s.tmpLine a).bytes.take off ++ b ++ (s.tmpLine a).bytes.drop (off + b.length) } t ∧ Only [.tmp] [] s t) ∧
        (b.length ≠ 64 → (s.tmpLine a).poison = true → Completes (c .clean) s fun t => t.tmp.err = true ∧ t.count (C.TMP_PART_REFUSED code) = s.count (C.TMP_PART_REFUSED code) + 1 ∧
          (∀ k, k ≠ a → tabGet none t.tmp.lines k = tabGet none s.tmp.lines k)) ∧
        (b.length = 64 → s.tmpMinor a = 127 → s.tmpMajor (a / 64) + 1 ≠ BitVec.allOnes 64 → Completes (c .clean) s fun t => t.tmp.err = false ∧ t.tmpLine a = { bytes := b } ∧
          t.tmpMajor (a / 64) = s.tmpMajor (a / 64) + 1 ∧ t.tmpMinor a = 1 ∧ (∀ k, k ≠ a → k / 64 = a / 64 → t.tmpMinor k = 0) ∧ (∀ k, k / 64 ≠ a / 64 → t.tmpMinor k = s.tmpMinor k) ∧
          (∀ k, k ≠ a → t.tmpLine k = s.tmpLine k) ∧ t.count C.TMP_REENC = s.count C.TMP_REENC + 1 ∧ Only (evts ++ [Machine.Part.tmp, .cnt, .holdOff]) evtKeys s t)))

/-- R365, R370 to R375, R379: the patrol of DDR5 and the on-chip scrubber count each line and word they read, with events 0x38A and 0x3A7 at the end of a pass, and count and record what they find wrong; poison acts where it is consumed;
TMP_SCRUB and ECC_SCRUB begin a pass; CLEAR empties the error table; ECC_INJECT is armed from the secure world, but not while SEALED.
The model's choices used: log entry 64. -/
def Obligations.ScrubbersAndInjection : Prop :=
  ∀ s : State,
    (∀ line : BitVec 32, (s.flag F.TMP_CFG_SCRUB_EN = true ∨ s.flag F.TMP_SCRUB_START = true) → s.flag F.TMP_STATUS_PRESENT = true → s.flag F.TMP_STATUS_HALTED = false → line.toNat < s.tmpLines →
        s.flag F.TMP_STATUS_KEYS_VALID = true → s.beneath line.toNat = false →
      (s.tmp.walked + 1 < s.tmpLines → Completes (.patrolScrubLine line .clean) s fun t => t.tmp = { s.tmp with walked := s.tmp.walked + 1 } ∧
        t.fld F.TMP_SCRUB_PROGRESS = 100 * (s.tmp.walked + 1) / s.tmpLines ∧ t.flag F.TMP_SCRUB_START = s.flag F.TMP_SCRUB_START ∧ Only [.tmp] [F.TMP_SCRUB_START.addr] s t) ∧
      (s.tmpLines ≤ s.tmp.walked + 1 → Completes (.patrolScrubLine line .clean) s fun t => t.tmp = { s.tmp with walked := 0, walkCe := 0, walkUe := 0, walkMac := 0 } ∧
        t.fld F.TMP_SCRUB_PROGRESS = 0 ∧ t.flag F.TMP_SCRUB_START = false ∧ Logged 0x38A 0 t ∧ Only (evts ++ [Machine.Part.tmp]) (F.TMP_SCRUB_START.addr :: evtKeys) s t) ∧
      (s.tmp.walked + 1 < s.tmpLines → Completes (.patrolScrubLine line .corrected) s fun t => t.tmp = { s.tmp with walked := s.tmp.walked + 1, walkCe := s.tmp.walkCe + 1 } ∧
        t.count (C.TMP_CE (ddrChannel line.toNat)) = s.count (C.TMP_CE (ddrChannel line.toNat)) + 1 ∧
        Only (evts ++ [Machine.Part.tmp, .cnt, .holdOff, .block 12]) (F.TMP_SCRUB_START.addr :: evtKeys) s t)) ∧
    (∀ v : Word, s.flag F.TMP_SCRUB_START = false →
      (bitsOf v 31 1 = 1 → Completes (.tmpScrubStart .secure v) s fun t => t.flag F.TMP_SCRUB_START = true ∧ t.fld F.TMP_SCRUB_PROGRESS = 0 ∧
        t.tmp = { s.tmp with walked := 0, walkCe := 0, walkUe := 0, walkMac := 0 } ∧ Only [.tmp] [F.TMP_SCRUB_START.addr] s t) ∧
      (bitsOf v 31 1 = 0 → Completes (.tmpScrubStart .secure v) s fun t => t.flag F.TMP_SCRUB_START = false ∧ Only [] [F.TMP_SCRUB_START.addr] s t)) ∧
    (∀ (mem : Fin 10) (addr : Word), (s.flag F.ECC_CFG_SCRUB_EN = true ∨ s.flag F.ECC_SCRUB_START = true) → addr.toNat < eccWords mem →
      (∀ use, s.ecc.words + 1 < eccAllWords → Completes (.eccScrubWord mem addr .clean use) s fun t => t.ecc = { s.ecc with words := s.ecc.words + 1 } ∧
        t.fld F.ECC_SCRUB_PROGRESS = 100 * (s.ecc.words + 1) / eccAllWords ∧ Only [.ecc] [F.ECC_SCRUB_START.addr] s t) ∧
      (∀ use, eccAllWords ≤ s.ecc.words + 1 → Completes (.eccScrubWord mem addr .clean use) s fun t => t.ecc = { s.ecc with words := 0 } ∧ t.fld F.ECC_SCRUB_PROGRESS = 0 ∧
        t.flag F.ECC_SCRUB_START = false ∧ Logged 0x3A7 0 t ∧ Only (evts ++ [Machine.Part.ecc]) (F.ECC_SCRUB_START.addr :: evtKeys) s t) ∧
      (∀ (syn : Byte) (use : EccUse), Completes (.eccScrubWord mem addr (.correctable syn) use) s fun t => t.count (C.ECC_CE mem) = s.count (C.ECC_CE mem) + 1 ∧
        (s.ecc.fixed.contains (mem.val, addr.toNat) = false → t.ecc.fixed = (mem.val, addr.toNat) :: s.ecc.fixed) ∧
        (s.ecc.fixed.contains (mem.val, addr.toNat) = true → s.ecc.pend.contains (mem.val, addr.toNat) = false → s.ecc.pend.length < 64 →
          t.ecc.pend = s.ecc.pend ++ [(mem.val, addr.toNat)] ∧ t.count (C.ECC_HARD mem) = s.count (C.ECC_HARD mem) + 1) ∧
        Only (evts ++ [Machine.Part.ecc, .cnt, .holdOff, .requests, .hrt, .block 12]) evtKeys s t) ∧
      (∀ (syn : Byte) (use : EccUse),
        let ue (ps : List Part) (P : State → Prop) : Prop := Completes (.eccScrubWord mem addr (.uncorrectable syn) use) s fun t =>
          P t ∧ Only (evts ++ [Machine.Part.ecc, .cnt, .holdOff, .hrt, .tie, .block 12] ++ ps) evtKeys s t
        (use = .nothing → ue [] fun t => t.count (C.ECC_UE mem) = s.count (C.ECC_UE mem) + 1) ∧
        (∀ i : BitVec 14, use = .rule i → (s.rule i.toNat).gen ≠ 0 → ue [.rules, .block 3] fun t => (t.rule i.toNat).poisoned = true) ∧
        (∀ i : BitVec 13, use = .counter i → ue [] fun t => t.count i.toNat = 0) ∧
        (∀ sa k, use = .statistics sa k → ue [.saStat, .sec] fun t => tabGet 0 t.saStat (8 * sa.toNat + k.val) = 0 ∧ t.count (C.ECC_UE mem) = s.count (C.ECC_UE mem) + 1) ∧
        (use = .monitor → ue [.requests] fun t => t.requests = s.requests ++ [{ source := 12, level := 2, event := 0x3A9, value := 8 }]))) ∧
    (∀ (w : World) (v : Word), s.flag F.ECC_SCRUB_START = false →
      (bitsOf v 31 1 = 1 → Completes (.eccScrubStart w v) s fun t => t.flag F.ECC_SCRUB_START = true ∧ t.fld F.ECC_SCRUB_PROGRESS = 0 ∧ t.ecc = { s.ecc with words := 0 } ∧
        Only [.ecc] [F.ECC_SCRUB_START.addr] s t) ∧
      (bitsOf v 31 1 = 0 → Completes (.eccScrubStart w v) s fun t => t.flag F.ECC_SCRUB_START = false ∧ Only [] [F.ECC_SCRUB_START.addr] s t)) ∧
    (∀ (w : World) (v : Word), (bitsOf v 31 1 = 1 → Completes (.eccLogClear w v) s fun t => (∀ i, i < 32 → t.flag (F.ECC_LOG_W0_VALID i) = false) ∧ t.fld F.ECC_LOG_CTL_USED = 0 ∧
        t.fld F.ECC_LOG_CTL_OVERFLOW = 0 ∧ Only [] (F.ECC_LOG_CTL_USED.addr :: winKeys (F.ECC_LOG_W0_VALID 0).addr 128) s t) ∧
      (bitsOf v 31 1 = 0 → Completes (.eccLogClear w v) s fun t => Only [] [] s t)) ∧
    (∀ v addr : Word, (s.otp.lcs ≠ 2 ∨ bitsOf v 31 1 = 0 → Completes (.eccInjectArm .secure v addr) s fun t => t.word F.ECC_INJECT_W1_ADDR.addr = addr ∧ t.fld F.ECC_INJECT_W0_MEM = bitsOf v 0 4 ∧
        t.fld F.ECC_INJECT_W0_COUNT = bitsOf v 30 1 ∧ t.fld F.ECC_INJECT_W0_BIT = bitsOf v 27 3 ∧ t.fld F.ECC_INJECT_W0_ARM = (if bitsOf v 0 4 ≤ 9 then bitsOf v 31 1 else 0) ∧
        Only [] [F.ECC_INJECT_W0_ARM.addr, F.ECC_INJECT_W1_ADDR.addr] s t) ∧
      (s.otp.lcs = 2 → bitsOf v 31 1 = 1 → Completes (.eccInjectArm .secure v addr) s fun t => t.flag F.ECC_INJECT_W0_ARM = s.flag F.ECC_INJECT_W0_ARM ∧ LoggedSec 0x010 12 s t ∧
        Only evts (F.ECC_INJECT_W1_ADDR.addr :: evtKeys) s t))

/-! ## Environment and tamper (spec/17_environment_tamper.md) -/

/-- R407 to R412, R415, R422: a source that enters alarm is recorded with event 0x3D0, its evidence bit owed in the battery register, and its response applied; one that enters warning is recorded with
event 0x3D1 and applies LOG or ALERT; one that returns inside both raises 0x3D2; a clock alarm releases the interlock.
The model's choices used: log entries 8, 44. -/
def Obligations.MonitorAlarmsAndResponses : Prop :=
  ∀ (s : State) (i : Fin 11) (v : BitVec 16),
    let others (c : Nat) (t : State) : Prop := t.envCond i = c ∧ (∀ j, j ≠ i.val → t.envCond j = s.envCond j) ∧
      t.flag { F.ENV_STATUS_ACTIVE with lo := i, width := 1 } = (c == 2)
    (∀ crossing, s.srcOn i = true → s.envCond i ≠ 2 → s.condOf i v crossing = 2 → Completes (.monitorAlarm i v crossing) s fun t =>
      others 2 t ∧ LoggedSec 0x3D0 i s t ∧ LastAlarm i (s.respOf i) v.toNat s t ∧ Applied i (s.respOf i) s t ∧
      (s.flag (F.ENV_SRC_W0_EVIDENCE i) = true → s.otp.evidence < 2048 → BatteryEntry i (s.fld F.ENV_BAT_SEC_SECONDS) s t) ∧
      (s.flag (F.ENV_SRC_W0_EVIDENCE i) = false → t.fld F.ENV_BAT_CTL_USED = s.fld F.ENV_BAT_CTL_USED ∧ t.env.evAt = s.env.evAt) ∧
      (i.val = 2 ∨ i.val = 3 → s.tieOn = true → t.flag F.TIE_STATUS_HOLD_OUT = false ∧ ∀ n, n < 64 → t.flag (F.SRD_LANE_W2_SQUELCH n) = true) ∧
      (s.respOf i ≤ 1 → ((i.val = 2 ∨ i.val = 3) → s.tieOn = false) → Only (evts ++ [Machine.Part.env]) (envKeys ++ evtKeys) s t) ∧ Only (squelchParts ++ [Machine.Part.env]) (envKeys ++ evtKeys) s t) ∧
    (s.srcOn i = true → s.envCond i ≠ 1 → s.condOf i v false = 1 → Completes (.monitorWarning i v) s fun t =>
      others 1 t ∧ LoggedSec 0x3D1 i s t ∧ Applied i (b2n (s.flag (F.ENV_SRC_W0_WARN_ALERT i))) s t ∧ t.env = { s.env with cond := t.env.cond } ∧
      t.word F.ENV_LAST_VALID.addr = s.word F.ENV_LAST_VALID.addr ∧ t.fld F.ENV_BAT_CTL_USED = s.fld F.ENV_BAT_CTL_USED ∧ Only (evts ++ [Machine.Part.env]) (envKeys ++ evtKeys) s t) ∧
    (s.envCond i ≠ 0 → s.condOf i v false = 0 → Completes (.monitorReturn i v) s fun t =>
      others 0 t ∧ Logged 0x3D2 i t ∧ t.fld F.ENV_STATUS_LEVEL = s.fld F.ENV_STATUS_LEVEL ∧ t.flag F.ENV_STATUS_ALERT = s.flag F.ENV_STATUS_ALERT ∧ t.env = { s.env with cond := t.env.cond } ∧
      t.word F.ENV_LAST_VALID.addr = s.word F.ENV_LAST_VALID.addr ∧ t.fld F.ENV_BAT_CTL_USED = s.fld F.ENV_BAT_CTL_USED ∧ Only (evts ++ [Machine.Part.env]) (envKeys ++ evtKeys) s t)

/-- R409 to R412, R414: the oldest request is applied as source 12 with the requesting block's event in its record, or as an alarm of source 11; the second computation of a zeroize decision starts
its scope whatever the comparison says, and a disagreement is counted, recorded with event 0x3D5 and raises source 11: an ERASE or PURGE makes every slot it names RETIRING, every handoff and heat
keyless and every association UNUSABLE at once.
The model's choices used: log entries 7, 8, 44. -/
def Obligations.RequestsAndZeroizeDecisions : Prop :=
  ∀ s : State,
    (∀ (r : RespReq) (rest : List RespReq), s.requests = r :: rest →
      (s.srcOn r.source = false → Completes .responseRequest s fun t => t.requests = rest ∧ Only [.requests] [] s t) ∧
      (s.srcOn r.source = true → r.source ≠ 11 → Completes .responseRequest s fun t => rest <+: t.requests ∧ LoggedSec r.event 12 s t ∧ LastAlarm 12 r.level r.event s t ∧
        Applied 12 r.level s t ∧ t.env.evAt = s.env.evAt ∧ t.fld F.ENV_BAT_CTL_USED = s.fld F.ENV_BAT_CTL_USED ∧
        (r.level ≤ 1 → t.requests = rest ∧ Only (evts ++ [Machine.Part.requests]) (envKeys ++ evtKeys) s t) ∧ Only (squelchParts ++ [Machine.Part.env]) (envKeys ++ evtKeys) s t) ∧
      (s.srcOn r.source = true → r.source = 11 → Completes .responseRequest s fun t => rest <+: t.requests ∧ LoggedSec 0x3D0 11 s t ∧ LastAlarm 11 r.level r.value s t ∧ Applied 11 r.level s t ∧
        (s.flag (F.ENV_SRC_W0_EVIDENCE 11) = true → s.otp.evidence < 2048 → BatteryEntry 11 (s.fld F.ENV_BAT_SEC_SECONDS) s t) ∧
        (r.level ≤ 1 → t.requests = rest ∧ Only (evts ++ [Machine.Part.env, .requests]) (envKeys ++ evtKeys) s t) ∧ Only (squelchParts ++ [Machine.Part.env]) (envKeys ++ evtKeys) s t)) ∧
    (∀ (d : Dec) (agree : Bool), s.env.decs.find? (fun d => s.passed d.start d.delay) = some d → 3 ≤ d.scope → d.scope ≤ 5 →
      (s.hrt.quench.any fun q => decide (4 ≤ d.scope ∧ d.scope ≤ q.scope)) = false → Completes (.doubledDecisionSecond agree) s fun t =>
        t.env.decs = s.env.decs.erase d ∧ t.flag F.HRT_QUENCH_BUSY = true ∧
        (∃ q ∈ t.hrt.quench, q.scope = d.scope ∧ q.parcel = d.parcel ∧ q.since = s.cyc ∧ (d.cmd = true → q.cmd = true)) ∧
        (∀ n, (s.slot n).st ≠ 0 → d.scope = 5 ∨ (d.scope = 4 ∧ (s.slot n).uses 4 = true) ∨ (d.scope = 3 ∧ (s.slot n).parcel = d.parcel) → (t.slot n).st = 3 ∧ (t.slot n).key = []) ∧
        (∀ h, h < 64 → d.scope ≠ 3 → (tabGet {} t.hrt.hands h).held = none) ∧
        (∀ sa, (s.ctx sa).st ≠ .empty → d.scope ≠ 3 ∨ s.saParcel sa = d.parcel → (t.ctx sa).st = .unusable) ∧
        (d.scope ≠ 3 → t.hrt.closed = true ∧ t.sec.retired = [] ∧ t.flag F.TMP_STATUS_KEYS_VALID = false ∧ ∀ j f, t.frame j = some f → f.key = none) ∧
        (d.scope = 5 → t.hrt.purged = true ∧ t.hrt.kek = none ∧ t.flag F.HRT_STATUS_HUK_OK = false) ∧
        t.fld F.ENV_STATUS_LEVEL = (if d.cmd ∨ d.scope = 3 then s.fld F.ENV_STATUS_LEVEL else max (d.scope - 1) (s.fld F.ENV_STATUS_LEVEL)) ∧
        (agree = true → t.count C.ENV_DD_MISMATCH = s.count C.ENV_DD_MISMATCH ∧ t.requests = s.requests) ∧
        (agree = false → t.count C.ENV_DD_MISMATCH = s.count C.ENV_DD_MISMATCH + 1 ∧ LoggedSec 0x3D5 3 s t ∧ t.flag F.ENV_DD_VALID = true ∧
          t.fld F.ENV_DD_COUNT = min 65535 (s.fld F.ENV_DD_COUNT + 1) ∧ (s.flag F.ENV_DD_VALID = false → t.fld F.ENV_DD_KIND = 3) ∧
          ∃ r : RespReq, t.requests = s.requests ++ [r] ∧ r.source = 11 ∧ r.level = max 1 (min 4 (s.fld (F.ENV_SRC_W0_RESP 11))) ∧ r.value = 3) ∧
        Only (evts ++ [Machine.Part.env, .otp, .hrt, .sec, .tie, .free, .cnt, .holdOff, .requests, .frames, .block 0, .block 5, .block 10, .block 11, .block 14]) evtKeys s t) ∧
    (∀ agree, s.env.decs.find? (fun d => s.passed d.start d.delay) = none → Completes (.doubledDecisionSecond agree) s fun t => Only [] [] s t)

/-- R415, R416, R418, R420: an owed evidence bit is programmed in 20 µs, with event 0x3D6, 0x3D7 at the last, and its entry cleared; on the cell alone an alarm of the battery domain zeroizes BBRAM_KEK
and makes an entry, and loss of VBAT returns the BATTERY domain to its reset values.
The model's choices used: log entries 44, 66. -/
def Obligations.EvidenceAndBattery : Prop :=
  ∀ s : State,
    (∀ (i : Nat) (rest : List Nat) (t0 : BitVec 64), s.env.evAt = some t0 → 30000 ≤ (s.cyc - t0).toNat → s.evPending = i :: rest → s.otp.evidence < 2048 → Completes .evidenceProgrammed s fun t =>
      t.otp = { s.otp with evidence := s.otp.evidence + 1 } ∧ t.fld F.ENV_EVIDENCE_COUNT = s.otp.evidence + 1 ∧ t.flag F.ENV_EVIDENCE_SATURATED = decide (s.otp.evidence + 1 = 2048) ∧
      (s.otp.evidence + 1 < 2048 → Logged 0x3D6 0 t) ∧ (s.otp.evidence + 1 = 2048 → LoggedSec 0x3D7 0 s t) ∧ t.flag (F.ENV_BAT_W0_VALID i) = false ∧ (rest = [] → t.env.evAt = none) ∧
      Only (evts ++ [Machine.Part.env, .otp]) ([F.ENV_EVIDENCE_COUNT.addr, (F.ENV_BAT_W0_VALID i).addr, (F.ENV_BAT_W1_SECONDS i).addr, F.ENV_BAT_CTL_USED.addr] ++ evtKeys) s t) ∧
    (∀ (i : Nat) (rest : List Nat) (t0 : BitVec 64), s.env.evAt = some t0 → 30000 ≤ (s.cyc - t0).toNat → s.evPending = i :: rest → 2048 ≤ s.otp.evidence → Completes .evidenceProgrammed s fun t =>
      t.otp = s.otp ∧ t.flag (F.ENV_BAT_W0_VALID i) = false ∧ Only [.env] [(F.ENV_BAT_W0_VALID i).addr, (F.ENV_BAT_W1_SECONDS i).addr, F.ENV_BAT_CTL_USED.addr] s t) ∧
    (∀ (k : Fin 5) (lapse : BitVec 32), s.env.held = true → s.batWatches k = true → Completes (.batteryAlarm k lapse) s fun t =>
      t.fld F.ENV_BAT_SEC_SECONDS = (s.fld F.ENV_BAT_SEC_SECONDS + lapse.toNat) % 2 ^ 32 ∧ t.hrt = { s.hrt with kek := none } ∧
      BatteryEntry (16 + k) (t.fld F.ENV_BAT_SEC_SECONDS) s t ∧
      Only [.hrt] (F.ENV_BAT_SEC_SECONDS.addr :: F.ENV_BAT_CTL_USED.addr :: winKeys (F.ENV_BAT_W0_VALID 0).addr 32) s t) ∧
    (∀ (k : Fin 5) (lapse : BitVec 32), s.env.held = false ∨ s.batWatches k = false → Completes (.batteryAlarm k lapse) s fun t => Only [] [] s t) ∧
    (s.env.held = true → Completes .vbatLoss s fun t => t.hrt = { s.hrt with kek := none } ∧
      (∀ (a : Nat) (d : RegD) (x : FieldD), regDesc a = some d → x ∈ d.fields → t.fld ⟨a, x.lo, x.width⟩ = if x.dom = .battery then x.rst else s.fld ⟨a, x.lo, x.width⟩) ∧
      Only [.hrt, .block 14] [] s t)

/-! ## Tie pairs (spec/16_tie_pair.md) -/

/-- R386 to R391: the link is up with all four lanes aligned, with event 0x3C4 at each change; a message in error is counted; HEARTBEATs leave every 500 ns; HELLO passes the checks of formation or is
refused; the snapshot's last chunk makes the joining chip STANDBY; formation that does not come within its time leaves the chip isolated; a mirrored change is executed, and one that differs
sends the standby back to FORMING; PTP is applied as a REPORT.
The model's choices used: log entries 45, 47, 48, 66. -/
def Obligations.TieLinkAndFormation : Prop :=
  ∀ s : State,
    (∀ (sync aligned : BitVec 4) (skews : BitVec 24), Completes (.tieLinkChange sync aligned skews) s fun t =>
      (∀ l, l < 4 → t.flag (F.TIE_LANE_SYNC l) = sync.getLsbD l ∧ t.flag (F.TIE_LANE_ALIGNED l) = aligned.getLsbD l ∧ t.fld (F.TIE_LANE_SKEW l) = min 32 (skews.toNat / 2 ^ (6 * l) % 64) ∧
        t.fld (F.TIE_LANE_CODE_ERR l) = s.fld (F.TIE_LANE_CODE_ERR l)) ∧
      t.flag F.TIE_STATUS_LINK_UP = (sync == 15 && aligned == 15) ∧ (t.flag F.TIE_STATUS_LINK_UP ≠ s.flag F.TIE_STATUS_LINK_UP → Logged 0x3C4 0 t) ∧
      (t.flag F.TIE_STATUS_LINK_UP = s.flag F.TIE_STATUS_LINK_UP → t.tie = s.tie ∧ t.fbk = s.fbk) ∧
      (s.flag F.TIE_STATUS_LINK_UP = false → t.flag F.TIE_STATUS_LINK_UP = true → s.tieOn = true → s.tie.faulted = false → s.role = Role.forming ∨ s.leads = true →
        ∃ m, TieQueued m s t ∧ m.typ = 1) ∧
      TieSame [F.TIE_STATUS_LINK_UP] s t ∧ Only (evts ++ [Machine.Part.tie]) (tieKey :: winKeys (F.TIE_LANE_SYNC 0).addr 4 ++ evtKeys) s t) ∧
    (∀ lane : Option (Fin 4), (s.tieOn = false → Completes (.tieMessageError lane) s fun t => Only [] [] s t) ∧
      (s.tieOn = true → Completes (.tieMessageError lane) s fun t => t.count C.TIE_MSG_ERR = s.count C.TIE_MSG_ERR + 1 ∧
        (∀ l : Fin 4, t.fld (F.TIE_LANE_CODE_ERR l) = (if lane = some l then min 65535 (s.fld (F.TIE_LANE_CODE_ERR l) + 1) else s.fld (F.TIE_LANE_CODE_ERR l))) ∧
        Only (evts ++ [Machine.Part.cnt, .holdOff]) (winKeys (F.TIE_LANE_SYNC 0).addr 4 ++ evtKeys) s t)) ∧
    (s.hears = true → s.role ≠ Role.alone → 750 ≤ (s.cyc - s.tie.beat).toNat → Completes .heartbeatSend s fun t =>
      (∃ m, TieQueued m s t ∧ m.typ = 2 ∧ m.args.take 3 = [s.role, b2n (s.flag F.DAT_STATUS_SYNC), b2n (s.flag F.TIE_STATUS_MARK_OVF)] ∧
        m.data = (if s.leads then (s.tie.outMarks.take 8).flatMap s.markBytes else [])) ∧
      t.tie.beat = s.cyc ∧ t.tie.outMarks = (if s.leads then s.tie.outMarks.drop 8 else s.tie.outMarks) ∧ Only [.tie] [] s t) ∧
    (s.hears = true → (s.cyc - s.tie.beat).toNat < 750 → Completes .heartbeatSend s fun t => Only [] [] s t) ∧
    (∀ (seq : BitVec 32) (serial : BitVec 64) (strap : Bool) (fw cfg kcv : List Byte),
      let a := s.fld F.TIE_PAIR_A_LO_SERIAL + 2 ^ 32 * s.fld F.TIE_PAIR_A_HI_SERIAL
      let b := s.fld F.TIE_PAIR_B_LO_SERIAL + 2 ^ 32 * s.fld F.TIE_PAIR_B_HI_SERIAL
      let fits : Prop := serial.toNat = (if s.strap = 0 then b else a) ∧ Config.serial.toNat = (if s.strap = 0 then a else b) ∧ b2n strap ≠ s.strap ∧
        fw = wordBytes (s.words (F.GLB_FW_MEASURE 0).addr 12) ∧ cfg = wordBytes (s.words (F.GLB_CFG_MEASURE 0).addr 12) ∧ kcv = (s.slot (s.fld F.TIE_KEY_SLOT)).kcv
      s.hears = true → s.role = Role.forming ∨ s.leads = true → Completes (.tieHello seq serial strap fw cfg kcv) s fun t => t.tie.rxSeq = some seq.toNat ∧ t.tie.cfg = cfg ∧
        (fits → t.tie.checked = true ∧ t.tie.refused = false ∧ t.role = s.role ∧ (s.leads = true → ∃ m, t.tie.sent = some m ∧ m.typ = 5) ∧
          (s.leads = false → s.holdIn = false → s.strap = 0 → s.holdOut = false → Acquiring s t)) ∧
        (¬ fits → t.tie.checked = false ∧ t.tie.refused = true ∧ (t.role = s.role → Logged 0x3C2 0 t) ∧
          t.role = (if s.role = Role.forming ∧ s.holdIn = true then Role.standbyIso else s.role) ∧ (s.leads = true → ∃ m, TieQueued m s t ∧ m.typ = 1)) ∧
        TieSame [F.TIE_STATUS_ROLE, F.TIE_STATUS_HOLD_OUT] s t ∧ Only (evts ++ [Machine.Part.tie, .hrt]) (tieKey :: evtKeys) s t) ∧
    (∀ seq : BitVec 32, s.hears = true → s.role = Role.forming → s.tie.checked = true → s.holdOut = false →
      (s.holdIn = true → Completes (.tieSnapshot seq [] true) s fun t => t.role = Role.standby ∧ Heard seq s t ∧ t.tie.heard = s.cyc ∧ t.tie.fail = none ∧ Logged 0x3C1 0 t ∧
        TieSame [F.TIE_STATUS_ROLE, F.TIE_STATUS_MARK_OVF] s t ∧ Only (evts ++ [Machine.Part.tie]) (tieKey :: evtKeys) s t) ∧
      (∀ (sa : BitVec 18) (ctx blob : List Byte), Completes (.tieSnapshot seq [.assoc sa ctx blob] false) s fun t => t.role = s.role ∧ Heard seq s t ∧
        ((s.heardSeq seq).tieKey blob = none → t.sec = s.sec) ∧
        (∀ x, (s.heardSeq seq).tieKey blob = some x → (t.ctx sa.toNat).key = some x.2 ∧ (t.ctx sa.toNat).next = (if (s.saChan sa.toNat).dir then 0 else leAt ctx 8 8) ∧
          (t.ctx sa.toNat).high = (if (s.saChan sa.toNat).dir then leAt ctx 16 8 else 0) ∧ (t.ctx sa.toNat).limit = leAt ctx 32 8 ∧ ∀ m, m ≠ sa.toNat → t.ctx m = s.ctx m) ∧
        Only (evts ++ [Machine.Part.tie, .sec, .hrt, .cnt, .holdOff, .free, .requests, .block 0, .block 5, .block 10]) (tieKey :: evtKeys) s t)) ∧
    (∀ t0 : BitVec 64, s.tie.since = some t0 → s.role = Role.forming → s.tie.faulted = false → (if s.strap = 0 then 1500000000 else 3000000000) ≤ (s.cyc - t0).toNat →
      (s.holdIn = true → Completes .formationTimeout s fun t => t.role = Role.standbyIso ∧ t.tie = s.tie ∧ Logged 0x3C0 0 t ∧ TieSame [F.TIE_STATUS_ROLE] s t ∧ Only evts (tieKey :: evtKeys) s t) ∧
      (s.holdIn = false → Completes .formationTimeout s fun t => t.role = Role.activeIso ∧ t.flag F.TIE_STATUS_HOLD_OUT = true ∧ (s.holdOut = false → Acquiring s t) ∧ t.tie.standby = false ∧
        t.flag F.TIE_STATUS_COMPARE_OK = false ∧ Logged 0x3C0 0 t ∧ TieSame [F.TIE_STATUS_ROLE, F.TIE_STATUS_COMPARE_OK, F.TIE_STATUS_HOLD_OUT] s t ∧ Only (evts ++ [Machine.Part.tie]) (tieKey :: evtKeys) s t)) ∧
    (∀ (seq : BitVec 32) (m : Mirrored), s.hears = true → s.follows = true → s.role ≠ Role.forming →
      let x := (s.heardSeq seq).mirrorRun m
      Completes (.tieMirror seq m) s fun t =>
        (x.2 = 0 → t.tie.excused = some x.1.cyc ∧ t.regs = x.1.regs ∧ t.rules = x.1.rules ∧ t.plat = x.1.plat ∧ t.sec = x.1.sec ∧ t.blw = x.1.blw ∧ t.gates = x.1.gates ∧ t.hrt = x.1.hrt ∧ t.par = x.1.par) ∧
        (x.2 ≠ 0 → t.role = Role.forming ∧ t.tie.checked = false ∧ t.tie.wait = none ∧ t.flag F.TIE_STATUS_COMPARE_OK = false ∧ t.flag F.TIE_STATUS_HOLD_OUT = false)) ∧
    (∀ (seq : BitVec 32) (m : Mirrored), s.hears = true → s.follows = true → s.role ≠ Role.forming → m.opcode.toNat = 0x1303 → Completes (.tieMirror seq m) s fun t =>
      t.rule m.idx.toNat = {} ∧ (∀ j, j ≠ m.idx.toNat → t.rule j = s.rule j) ∧ Heard seq s t ∧ t.tie.excused = some s.cyc ∧ TieSame [F.TIE_STATUS_MARK_OVF] s t ∧
      Only [.rules, .tie] (tieKey :: F.TRV_STATUS_POISONED.addr :: winKeys trvWin 20) s t) ∧
    (∀ (seq : BitVec 32) (e : BitVec 64), s.hears = true →
      (s.follows = false ∨ s.fld F.DAT_CFG_SRC ≠ 2 → Completes (.tiePtp seq e) s fun t => Heard seq s t ∧ t.dat = s.dat ∧ TieSame [F.TIE_STATUS_MARK_OVF] s t ∧ Only [.tie] [tieKey] s t) ∧
      (s.follows = true → s.fld F.DAT_CFG_SRC = 2 → s.fld F.DAT_STATUS_STATE = 2 → e.toInt.natAbs ≤ s.fld F.DAT_SYNC_UNSYNC_NS → Completes (.tiePtp seq e) s fun t => Heard seq s t ∧
        t.sfld F.DAT_ERR_LAST_ERR = clampI (-2147483648) 2147483647 e.toInt ∧ t.dat = { s.dat with meas := s.cyc, bad := 0 } ∧ TieSame [F.TIE_STATUS_MARK_OVF] s t ∧
        Only [.tie, .dat] [tieKey, F.DAT_ERR_LAST_ERR.addr] s t))

/-- R384, R385, R389, R397, R398, R405: TIE_HOLD_IN resolves a conflict by the strap, squelches a driving chip and, deasserted, tells the standby of a failure; the hold timer releases the interlock;
HEARTBEAT keeps the pair, stores leading marks and forms it; its loss isolates the active, and the standby while TIE_HOLD_IN stays asserted; FAULT is a failure recognised.
The model's choices used: log entries 45, 46, 66. -/
def Obligations.TieInterlockAndHeartbeats : Prop :=
  ∀ s : State,
    (∀ asserted, s.holdIn = asserted → Completes (.tieHoldInChange asserted) s fun t => Only [] [] s t) ∧
    (∀ asserted, s.holdIn ≠ asserted → s.tieOn = false → Completes (.tieHoldInChange asserted) s fun t => t.holdIn = asserted ∧ TieSame [F.TIE_STATUS_HOLD_IN] s t ∧ Only [] [tieKey] s t) ∧
    (s.holdIn = false → s.tieOn = true →
      (s.tie.wait ≠ none → s.strap = 0 → Completes (.tieHoldInChange true) s fun t => t.holdIn = true ∧ LoggedSec 0x3CA 0 s t ∧ TieSame [F.TIE_STATUS_HOLD_IN] s t ∧ Only evts (tieKey :: evtKeys) s t) ∧
      (s.tie.wait ≠ none → s.strap ≠ 0 → Completes (.tieHoldInChange true) s fun t => t.holdIn = true ∧ LoggedSec 0x3CA 0 s t ∧ Released t ∧
        TieSame [F.TIE_STATUS_HOLD_IN, F.TIE_STATUS_HOLD_OUT] s t ∧ Only squelchParts evtKeys s t) ∧
      (s.tie.wait = none → s.holdOut = true → Completes (.tieHoldInChange true) s fun t => t.holdIn = true ∧ LoggedSec 0x3CA 0 s t ∧ Released t ∧
        TieSame [F.TIE_STATUS_HOLD_IN, F.TIE_STATUS_HOLD_OUT] s t ∧ Only squelchParts evtKeys s t) ∧
      (s.tie.wait = none → s.holdOut = false → Completes (.tieHoldInChange true) s fun t => t.holdIn = true ∧ t.tie = s.tie ∧
        t.role = (if s.role = Role.forming ∧ s.tie.refused = true then Role.standbyIso else s.role) ∧ TieSame [F.TIE_STATUS_HOLD_IN, F.TIE_STATUS_ROLE] s t ∧ Only evts (tieKey :: evtKeys) s t)) ∧
    (s.holdIn = true → s.tieOn = true →
      (∀ t0, s.tie.wait = some t0 → Completes (.tieHoldInChange false) s fun t => t.tie = { s.tie with wait := some s.cyc } ∧ t.holdIn = false ∧ TieSame [F.TIE_STATUS_HOLD_IN] s t ∧ Only [.tie] [tieKey] s t) ∧
      (s.tie.wait = none → s.tie.faulted = false → s.role = Role.standby ∨ s.role = Role.standbyIso → s.tie.fail = none → Completes (.tieHoldInChange false) s fun t => t.holdIn = false ∧ Recognised 3 s t ∧
        TieSame [F.TIE_STATUS_HOLD_IN] s t ∧ Only [.tie, .env, .free] [tieKey] s t) ∧
      (s.tie.wait = none → s.tie.faulted = false → s.role = Role.forming → s.tie.checked = true → s.strap = 0 → s.holdOut = false → Completes (.tieHoldInChange false) s fun t => t.holdIn = false ∧
        Acquiring s t ∧ TieSame [F.TIE_STATUS_HOLD_IN, F.TIE_STATUS_HOLD_OUT] s t ∧ Only [.tie] [tieKey] s t)) ∧
    (s.tieOn = true → s.holdOut = true → Completes .holdTimerExpiry s fun t => Released t ∧ TieSame [F.TIE_STATUS_HOLD_OUT] s t ∧ Only squelchParts evtKeys s t) ∧
    (s.tieOn = false ∨ s.holdOut = false → Completes .holdTimerExpiry s fun t => Only [] [] s t) ∧
    (∀ (seq : BitVec 32) (role : Fin 8) (sync ovf done : Bool) (marks : List Mark), s.hears = true →
      (∀ m : Mark, marks = [m] → s.follows = true → Completes (.tieHeartbeat seq role sync ovf done marks) s fun t =>
        let dir := if m.rx then 1 else 0
        let k := 2 * m.sa.toNat + dir
        let own := if m.rx then (s.ctx m.sa.toNat).high else (s.ctx m.sa.toNat).next
        t.tie.heard = s.cyc ∧ t.tie.pSync = sync ∧ (∀ j, j ≠ k → tabGet 0 t.tie.marks j = tabGet 0 s.tie.marks j) ∧
        (m.pn.toNat ≤ own → tabGet 0 t.tie.marks k = 0 ∧ t.fld F.TIE_STATUS_MARK_USED = t.tie.marks.length % 8192) ∧
        (own < m.pn.toNat → tabGet 0 s.tie.marks k ≠ 0 ∨ s.tie.marks.length < 4096 → tabGet 0 t.tie.marks k = m.pn.toNat ∧ t.fld F.TIE_STATUS_MARK_USED = t.tie.marks.length % 8192) ∧
        (own < m.pn.toNat → tabGet 0 s.tie.marks k = 0 → 4096 ≤ s.tie.marks.length → t.tie.marks = s.tie.marks ∧ t.fld F.TIE_STATUS_MARK_USED = s.fld F.TIE_STATUS_MARK_USED ∧ t.flag F.TIE_STATUS_MARK_OVF = true ∧ LoggedSec 0x3C9 m.sa.toNat s t) ∧
        TieSame [F.TIE_STATUS_MARK_OVF, F.TIE_STATUS_MARK_USED] s t ∧ Only (evts ++ [Machine.Part.tie]) (tieKey :: evtKeys) s t) ∧
      (marks = [] → s.follows = true → Completes (.tieHeartbeat seq role sync ovf done marks) s fun t => t.tie.heard = s.cyc ∧ t.tie.pSync = sync ∧ t.tie.marks = s.tie.marks ∧
        (done = true → s.tie.refresh = false → t.flag F.TIE_STATUS_MARK_OVF = false) ∧ (done = false → Heard seq s t) ∧ TieSame [F.TIE_STATUS_MARK_OVF] s t ∧ Only [.tie] [tieKey] s t) ∧
      (s.role = Role.active ∨ s.role = Role.activeIso → s.tie.checked = true → s.tie.standby = false → role.val = Role.standby ∨ role.val = Role.swapping →
        Completes (.tieHeartbeat seq role sync ovf done marks) s fun t => t.role = Role.active ∧ t.tie.standby = true ∧ t.tie.heard = s.cyc ∧ t.tie.pSync = sync ∧
          t.tie.all = some (s.datumNs + 100000#64) ∧ t.tie.sent = some { typ := 9, args := [64, 0, (s.datumNs + 100000#64).toNat] } ∧ Logged 0x3C1 0 t ∧
          TieSame [F.TIE_STATUS_ROLE] s t ∧ Only (evts ++ [Machine.Part.tie]) (tieKey :: evtKeys) s t) ∧
      (s.role = Role.active → role.val = Role.forming → Completes (.tieHeartbeat seq role sync ovf done marks) s fun t => t.tie.standby = false ∧ t.flag F.TIE_STATUS_COMPARE_OK = false ∧
        t.tie.heard = s.cyc ∧ (ovf = true → t.tie.refresh = true) ∧
        (ovf = true → s.tie.refresh = false → ∀ e ∈ s.tie.used, (s.cyc - e.2).toNat < 15000000 → e.1 ∈ t.tie.outMarks) ∧ TieSame [F.TIE_STATUS_COMPARE_OK] s t ∧ Only [.tie] [tieKey] s t)) ∧
    (s.tieOn = true → s.tie.faulted = false → 3000 ≤ (s.cyc - s.tie.heard).toNat →
      (s.role = Role.active → Completes .heartbeatLoss s fun t => t.role = Role.activeIso ∧ t.tie = { s.tie with lost := some s.cyc, standby := false } ∧ t.flag F.TIE_STATUS_COMPARE_OK = false ∧
        TieSame [F.TIE_STATUS_ROLE, F.TIE_STATUS_COMPARE_OK] s t ∧ Only (evts ++ [Machine.Part.tie]) (tieKey :: evtKeys) s t) ∧
      (s.role = Role.standby → s.holdIn = true → Completes .heartbeatLoss s fun t => t.role = Role.standbyIso ∧ t.tie = { s.tie with lost := some s.cyc } ∧ TieSame [F.TIE_STATUS_ROLE] s t ∧
        Only (evts ++ [Machine.Part.tie]) (tieKey :: evtKeys) s t) ∧
      (s.role = Role.standby → s.holdIn = false → s.tie.fail = none → Completes .heartbeatLoss s fun t => Recognised 1 s t ∧ Logged 0x3C3 0 t ∧ t.tie.lost = some s.cyc ∧ TieSame [] s t ∧
        Only (evts ++ [Machine.Part.tie, .env, .free]) evtKeys s t) ∧
      (s.role ≠ Role.active → s.role ≠ Role.standby → s.role ≠ Role.swapping → Completes .heartbeatLoss s fun t => Only [] [] s t)) ∧
    ((s.cyc - s.tie.heard).toNat < 3000 → Completes .heartbeatLoss s fun t => Only [] [] s t) ∧
    (∀ (seq : BitVec 32) (cause : Byte), s.hears = true →
      (s.role = Role.standby → s.tie.fail = none → Completes (.tieFault seq cause) s fun t => Heard seq s t ∧ Recognised 2 s t ∧ Logged 0x3CE 0 t ∧ TieSame [F.TIE_STATUS_MARK_OVF] s t ∧
        Only (evts ++ [Machine.Part.tie, .env, .free]) (tieKey :: evtKeys) s t) ∧
      (s.role = Role.active → Completes (.tieFault seq cause) s fun t => Heard seq s t ∧ t.role = Role.activeIso ∧ t.tie.standby = false ∧ t.flag F.TIE_STATUS_COMPARE_OK = false ∧
        TieSame [F.TIE_STATUS_MARK_OVF, F.TIE_STATUS_ROLE, F.TIE_STATUS_COMPARE_OK] s t ∧ Only (evts ++ [Machine.Part.tie]) (tieKey :: evtKeys) s t) ∧
      (s.role ≠ Role.active → s.role ≠ Role.standby → s.role ≠ Role.swapping → Completes (.tieFault seq cause) s fun t => Heard seq s t ∧ Logged 0x3CE 0 t ∧ TieSame [F.TIE_STATUS_MARK_OVF] s t ∧
        Only (evts ++ [Machine.Part.tie]) (tieKey :: evtKeys) s t))

/-- R384, R399, R400, R403, R404, R414: a takeover whose two computations agree takes the role TAKING_OVER and the hold; one on which they disagree is counted and decided again after 10 µs while its cause
persists; 100 ns with TIE_HOLD_IN deasserted let the chip drive, with the guard armed; the takeover completes as ACTIVE_ISOLATED, counted and recorded; a faulted chip restarts at most once in 10 minutes.
The model's choices used: log entries 46, 49, 66. -/
def Obligations.TieTakeover : Prop :=
  ∀ s : State,
    (∀ (d : Dec) (f : TieFail), s.env.decs.find? (fun d => s.passed d.start d.delay) = some d → d.scope = 0 → s.tie.fail = some f →
      (Completes (.doubledDecisionSecond true) s fun t => t.role = Role.taking ∧ t.flag F.TIE_STATUS_COMPARE_OK = false ∧ t.env.decs = s.env.decs.erase d ∧
        (s.holdIn = false ∨ s.strap = 0 → Acquiring s t) ∧ (s.holdIn = true → s.strap ≠ 0 → Released t) ∧
        TieSame [F.TIE_STATUS_ROLE, F.TIE_STATUS_COMPARE_OK, F.TIE_STATUS_HOLD_OUT] s t ∧ (s.holdIn = false → Only (evts ++ [Machine.Part.tie, .env]) (tieKey :: evtKeys) s t) ∧
        Only (squelchParts ++ [Machine.Part.env]) evtKeys s t) ∧
      (Completes (.doubledDecisionSecond false) s fun t => t.tie = { s.tie with decided := s.cyc } ∧ t.env.decs = s.env.decs.erase d ∧
        t.count C.ENV_DD_MISMATCH = s.count C.ENV_DD_MISMATCH + 1 ∧ LoggedSec 0x3D5 5 s t ∧ (∃ r : RespReq, t.requests = s.requests ++ [r] ∧ r.source = 11 ∧ r.value = 5) ∧
        Only (evts ++ [Machine.Part.tie, .env, .cnt, .requests]) (F.ENV_DD_VALID.addr :: evtKeys) s t)) ∧
    (∀ f : TieFail, s.tie.fail = some f → s.role ≠ Role.taking → s.env.decs.any (fun d => d.scope == 0) = false → 15000 ≤ (s.cyc - s.tie.decided).toNat →
      let persists := (f.cause = 1 → 3000 ≤ (s.cyc - s.tie.heard).toNat) ∧ (f.cause = 3 → s.holdIn = false)
      (persists → Completes .takeoverDecisionRetry s fun t => t.tie = { s.tie with decided := s.cyc } ∧
        (∃ e : Dec, t.env.decs = s.env.decs ++ [e] ∧ e.scope = 0 ∧ e.start = s.cyc ∧ 16 ≤ e.delay ∧ e.delay < 256) ∧ Only [.tie, .env, .free] [] s t) ∧
      (¬ persists → Completes .takeoverDecisionRetry s fun t => t.tie = { s.tie with fail := none } ∧ Only [.tie] [] s t)) ∧
    (s.tie.fail = none → Completes .takeoverDecisionRetry s fun t => Only [] [] s t) ∧
    (∀ t0 : BitVec 64, s.tie.wait = some t0 → s.holdOut = true → s.holdIn = false → 150 ≤ (s.cyc - t0).toNat →
      let driven (t : State) : Prop := t.tie.wait = none ∧ (∀ n, n < 64 → t.flag (F.SRD_LANE_W2_SQUELCH n) = false)
      (s.role = Role.forming → Completes .holdWaitDone s fun t => driven t ∧ t.role = Role.active ∧ t.tie = { s.tie with wait := none, heard := s.cyc } ∧ TieSame [F.TIE_STATUS_ROLE] s t ∧
        Only (driveParts ++ [Machine.Part.tie]) (tieKey :: evtKeys) s t) ∧
      (s.role = Role.activeIso → Completes .holdWaitDone s fun t => driven t ∧ t.tie = { s.tie with wait := none } ∧ Only (driveParts ++ [Machine.Part.tie]) evtKeys s t) ∧
      (s.role = Role.taking ∨ s.role = Role.swapping → Completes .holdWaitDone s fun t =>
        let wide := s.role = Role.taking ∧ ∃ f, s.tie.fail = some f ∧ f.wide = true
        driven t ∧ t.tie.marks = [] ∧ t.fld F.TIE_STATUS_MARK_USED = 0 ∧ TieSame [F.TIE_STATUS_MARK_USED] s t ∧
        (∀ sa, (s.ctx sa).st ≠ .empty → (s.saChan sa).dir = false → t.ctx sa = s.ctx sa ∧
          (wide → tabGet 0 t.tie.armed sa = max (max (s.ctx sa).next (tabGet 0 s.tie.armed sa)) (tabGet 0 s.tie.marks (2 * sa)) + 2 ^ 40) ∧
          (¬ wide → tabGet 0 t.tie.armed sa = max (max (s.ctx sa).next (tabGet 0 s.tie.armed sa)) (tabGet 0 s.tie.marks (2 * sa)) +
            2 ^ max 20 (min 40 (s.fld F.TIE_CFG_GUARD_LOG2)))) ∧
        (∀ sa, (s.ctx sa).st ≠ .empty → (s.saChan sa).dir = true → (t.ctx sa).high = max (s.ctx sa).high (tabGet 0 s.tie.marks (2 * sa + 1)) ∧ (t.ctx sa).key = (s.ctx sa).key ∧ (t.ctx sa).st = (s.ctx sa).st) ∧
        Only (driveParts ++ [Machine.Part.tie, .sec]) (tieKey :: evtKeys) s t)) ∧
    (∀ t0 : BitVec 64, s.tie.wait = some t0 → (s.cyc - t0).toNat < 150 → Completes .holdWaitDone s fun t => Only [] [] s t) ∧
    (∀ f : TieFail, s.tie.fail = some f → s.role = Role.taking → s.holdOut = true → s.tie.wait = none → s.holdIn = false → Completes .takeoverComplete s fun t =>
      t.role = Role.activeIso ∧ t.tie = { s.tie with fail := none, swap := none, lost := none, standby := false } ∧ t.flag F.TIE_STATUS_COMPARE_OK = false ∧ t.flag F.TIE_CTL_SWAP = false ∧
      t.count C.TIE_TAKEOVERS = s.count C.TIE_TAKEOVERS + 1 ∧ t.flag F.TIE_LAST_TAKEOVER_VALID = true ∧ t.fld F.TIE_LAST_TAKEOVER_CAUSE = f.cause % 8 ∧ t.flag F.TIE_LAST_TAKEOVER_WIDE = f.wide ∧
      t.fld F.TIE_LAST_TAKEOVER_TIME_NS = min 8191 ((s.cyc - f.at_).toNat * 2 / 3) ∧ LoggedSec 0x3C7 0 s t ∧ TieSame [F.TIE_STATUS_ROLE, F.TIE_STATUS_COMPARE_OK] s t ∧
      Only (evts ++ [Machine.Part.tie, .cnt]) ([tieKey, F.TIE_LAST_TAKEOVER_VALID.addr, F.TIE_CTL_SWAP.addr] ++ evtKeys) s t) ∧
    (s.tie.fail = none ∨ s.role ≠ Role.taking → Completes .takeoverComplete s fun t => Only [] [] s t) ∧
    (∀ b : BootIn, (s.tie.faulted = false ∨ s.holdOut = true ∨ s.flag F.TIE_CFG_RESTART_EN = false → Completes (.failOverRestart b) s fun t => Only [] [] s t) ∧
      (s.tie.faulted = true → s.holdOut = false → s.flag F.TIE_CFG_RESTART_EN = true →
        ((∀ t0, s.tie.restarted = some t0 → 900000000000 ≤ (s.cyc - t0).toNat) → s.env.held = false → s.env.pll = true → Completes (.failOverRestart b) s fun t =>
          t.flag F.GLB_RST_CAUSE_FAILOVER = true ∧ ResetLeaves false [1, 2, 3, 4, 5, 6, 8, 9] s t ∧ t.flag F.HRT_STATUS_HUK_OK = b.huk ∧ RomOutcome b.agree t ∧ t.tie.restarted = some s.cyc) ∧
        (∀ t0, s.tie.restarted = some t0 → (s.cyc - t0).toNat < 900000000000 → s.role ≠ Role.forming → Completes (.failOverRestart b) s fun t => t.role = Role.forming ∧ Logged 0x3CE 0 t ∧
          t.tie = { s.tie with since := none } ∧ TieSame [F.TIE_STATUS_ROLE] s t ∧ Only (evts ++ [Machine.Part.tie]) (tieKey :: evtKeys) s t)))

/-- R393 to R395: a block whose digests agree is counted; one whose digests differ, or whose partner's has not come in 1 ms, is a mismatch, counted, recorded and realigned by the active, and where it is
unexcused checked; a sequence is cut anew at the time that REALIGN names; both results of a self-check decide what follows.
The model's choices used: log entries 45, 47, 66. -/
def Obligations.TieComparison : Prop :=
  ∀ s : State,
    let parts : List Part := evts ++ [Machine.Part.tie, .cnt, .holdOff]
    let keys : List Nat := tieKey :: F.TIE_LAST_MISMATCH_VALID.addr :: evtKeys
    (∀ (seq : BitVec 32) (n : Fin 64) (c : Fin 8) (num : BitVec 32) (digest : BitVec 64), s.hears = true →
      let k := 8 * n.val + c.val
      let q := s.tieSeq k
      let cmd := Instr.tieBlock seq n c num digest []
      (q.own.find? (fun b => b.num == num.toNat) = none → Completes cmd s fun t => Heard seq s t ∧ t.tieSeq k = { q with theirs := q.theirs ++ [(num.toNat, digest)] } ∧
        (∀ j, j ≠ k → t.tieSeq j = s.tieSeq j) ∧ TieSame [F.TIE_STATUS_MARK_OVF] s t ∧ Only [.tie] [tieKey] s t) ∧
      (∀ b, q.own.find? (fun b => b.num == num.toNat) = some b → q.theirs.find? (fun d => d.1 == num.toNat) = none →
        (b.digest = digest → Completes cmd s fun t => Heard seq s t ∧ t.count C.TIE_BLOCKS = s.count C.TIE_BLOCKS + 1 ∧ t.tieSeq k = { q with own := q.own.filter (·.num != num.toNat) } ∧
          (∀ j, j ≠ k → t.tieSeq j = s.tieSeq j) ∧ TieSame [F.TIE_STATUS_MARK_OVF] s t ∧ Only [.tie, .cnt] [tieKey] s t) ∧
        (b.digest ≠ digest → Completes cmd s fun t => Heard seq s t ∧ Mismatched k b 1 s t ∧ (t.tieSeq k).own = q.own.filter (·.num != num.toNat) ∧
          (∀ j, j ≠ k → t.tieSeq j = s.tieSeq j) ∧ TieSame [F.TIE_STATUS_MARK_OVF] s t ∧ Only parts keys s t))) ∧
    (∀ (n : Fin 64) (c : Fin 8),
      let k := 8 * n.val + c.val
      (∀ b rest, (s.tieSeq k).own = b :: rest → 1500000 ≤ (s.cyc - b.closed).toNat → Completes (.digestTimeout n c) s fun t => Mismatched k b 2 s t ∧ (t.tieSeq k).own = rest ∧
        (∀ j, j ≠ k → t.tieSeq j = s.tieSeq j) ∧ TieSame [] s t ∧ Only parts keys s t) ∧
      ((∀ b rest, (s.tieSeq k).own = b :: rest → (s.cyc - b.closed).toNat < 1500000) → Completes (.digestTimeout n c) s fun t => Only [] [] s t)) ∧
    (∀ (seq : BitVec 32) (T : BitVec 64), s.hears = true →
      (∀ (n : Fin 64) (c : Fin 8), Completes (.tieRealign seq (some (n, c)) T) s fun t => Heard seq s t ∧ t.tieSeq (8 * n.val + c.val) = { s.tieSeq (8 * n.val + c.val) with realign := some T } ∧
        (∀ j, j ≠ 8 * n.val + c.val → t.tieSeq j = s.tieSeq j) ∧ t.tie.all = s.tie.all ∧ TieSame [F.TIE_STATUS_MARK_OVF] s t ∧ Only [.tie] [tieKey] s t) ∧
      (Completes (.tieRealign seq none T) s fun t => Heard seq s t ∧ t.tie = { s.tie with rxSeq := some seq.toNat, all := some T } ∧ TieSame [F.TIE_STATUS_MARK_OVF] s t ∧ Only [.tie] [tieKey] s t)) ∧
    (∀ T : BitVec 64, s.tie.all = some T →
      (s.until_ T ≤ 0 → Completes .realignTime s fun t => t.tie = { s.tie with all := none, base := T, seqs := [] } ∧ t.flag F.TIE_STATUS_COMPARE_OK = true ∧ t.flag F.TIE_CTL_REALIGN = false ∧
        t.flag F.TIE_CTL_SWAP = s.flag F.TIE_CTL_SWAP ∧ TieSame [F.TIE_STATUS_COMPARE_OK] s t ∧ Only [.tie] [tieKey, F.TIE_CTL_REALIGN.addr] s t) ∧
      (0 < s.until_ T → Completes .realignTime s fun t => Only [] [] s t)) ∧
    (s.tie.all = none → tabWf (fun _ => ({} : TieSeq)) s.tie.seqs = true → Completes .realignTime s fun t =>
      (∀ k T, (s.tieSeq k).realign = some T → s.until_ T ≤ 0 → t.tieSeq k = { base := T }) ∧
      (∀ k, (∀ T, (s.tieSeq k).realign = some T → 0 < s.until_ T) → t.tieSeq k = s.tieSeq k) ∧ Only [.tie] [] s t) ∧
    (∀ w : World, (s.role = Role.active → Completes (.tieCtlRealign w) s fun t => t.flag F.TIE_CTL_REALIGN = true ∧ t.tie.all = some (s.datumNs + 100000#64) ∧
        TieQueued { typ := 9, args := [64, 0, (s.datumNs + 100000#64).toNat] } s t ∧ t.flag F.TIE_CTL_SWAP = s.flag F.TIE_CTL_SWAP ∧ Only [.tie] [F.TIE_CTL_REALIGN.addr] s t) ∧
      (s.role ≠ Role.active → Completes (.tieCtlRealign w) s fun t => Only [] [] s t)) ∧
    (∀ weak : BitVec 40, s.tie.check ≠ none → s.tie.own = none → Completes (.selfCheckDone weak) s fun t =>
      let good := (∀ a, a < 40 → weak.getLsbD a = true → s.anvSvc a = false) ∧
        (∀ j, 1 ≤ j → j ≤ 5 → ∀ t0, tabGet none s.tie.faultAt j = some t0 → (t0 - s.tie.checkFrom).toInt < 0) ∧ wordBytes (s.words (F.GLB_CFG_MEASURE 0).addr 12) = s.tie.cfg
      (t.fld F.TIE_SELFCHK_CAUSE = 0 ↔ good) ∧
      (s.tie.partner = none → t.tie.own = some (t.fld F.TIE_SELFCHK_CAUSE == 0) ∧ t.tie.check = s.tie.check ∧
        t.tie.sent = some { typ := 7, args := [1, b2n (t.fld F.TIE_SELFCHK_CAUSE == 0)] }) ∧
      (∀ p, s.tie.partner = some p → CheckEnded (t.fld F.TIE_SELFCHK_CAUSE == 0) p s t) ∧
      (weak = 0 → s.tie.partner = none → Only [.tie] [F.TIE_SELFCHK_CAUSE.addr] s t)) ∧
    (∀ (seq : BitVec 32) (ago : BitVec 32), s.hears = true →
      (s.tie.check = none → (∀ t0, s.tie.checkAt = some t0 → 15000000 ≤ (s.cyc - t0).toNat) → Completes (.tieSelfcheck seq none ago) s fun t => Heard seq s t ∧ t.tie.check = some s.cyc ∧
        t.tie.checkFrom = s.cyc - ago.zeroExtend 64 ∧ t.tie.own = none ∧ t.tie.partner = none ∧ TieQueued { typ := 7, args := [0] } s t ∧
        t.count C.TIE_SELFCHK_RUN = s.count C.TIE_SELFCHK_RUN + 1 ∧ TieSame [F.TIE_STATUS_MARK_OVF] s t ∧ Only [.tie, .cnt] [tieKey] s t) ∧
      (∀ p, s.tie.check ≠ none → s.tie.own = none → Completes (.tieSelfcheck seq (some p) ago) s fun t => Heard seq s t ∧ t.tie.partner = some p ∧ t.tie.check = s.tie.check ∧
        TieSame [F.TIE_STATUS_MARK_OVF] s t ∧ Only [.tie] [tieKey] s t) ∧
      (∀ p o, s.tie.check ≠ none → s.tie.own = some o → Completes (.tieSelfcheck seq (some p) ago) s fun t => Heard seq s t ∧ CheckEnded o p s t ∧
        Only (squelchParts) (F.TIE_SELFCHK_VALID.addr :: evtKeys) s t) ∧
      (s.tie.check = none → ∀ p, Completes (.tieSelfcheck seq (some p) ago) s fun t => Heard seq s t ∧ TieSame [F.TIE_STATUS_MARK_OVF] s t ∧ Only [.tie] [tieKey] s t))

/-- R402, R403: a swap that the active accepts is named to the standby, both enter SWAPPING, and at T the active releases the interlock and the standby takes it; it completes at T + 1 µs with the roles exchanged,
counted and with event 0x3C8; one that is not accepted is refused with event 0x3CD; SWAP_DAYS begins one by itself.
The model's choices used: log entries 46, 66. -/
def Obligations.PlannedSwaps : Prop :=
  ∀ s : State,
    let T := BitVec.ofInt 64 (((s.datumNs + 100000#64).toInt + 999) / 1000 * 1000)
    let begun (t : State) : Prop := SwapBegun T true t ∧ t.tie = { s.tie with swap := some T, swapActive := true, txSeq := (s.tie.txSeq + 1) % 2 ^ 32, sent := some { typ := 8, args := [T.toNat] } } ∧
      t.flag F.TIE_CTL_SWAP = true ∧ t.flag F.TIE_CTL_REALIGN = s.flag F.TIE_CTL_REALIGN ∧ Logged 0x3C0 0 t ∧ TieSame [F.TIE_STATUS_ROLE] s t ∧
      Only (evts ++ [Machine.Part.tie]) ([tieKey, F.TIE_CTL_SWAP.addr, F.TIE_SWAP_AT_LO_AT.addr, F.TIE_SWAP_AT_HI_AT.addr] ++ evtKeys) s t
    (∀ w : World, (swapAccepted s → Completes (.tieCtlSwap w) s begun) ∧
      (¬ swapAccepted s → s.role ≠ Role.swapping → Completes (.tieCtlSwap w) s fun t => Logged 0x3CD 0 t ∧ Only evts evtKeys s t) ∧
      (s.role = Role.swapping → Completes (.tieCtlSwap w) s fun t => Only [] [] s t)) ∧
    (0 < s.fld F.TIE_CFG_SWAP_DAYS → 1440 * s.fld F.TIE_CFG_SWAP_DAYS ≤ s.opMin - s.tie.swapMin → swapAccepted s → Completes .autoSwap s begun) ∧
    (s.fld F.TIE_CFG_SWAP_DAYS = 0 ∨ s.opMin - s.tie.swapMin < 1440 * s.fld F.TIE_CFG_SWAP_DAYS ∨ ¬ swapAccepted s → Completes .autoSwap s fun t => Only [] [] s t) ∧
    (∀ (seq : BitVec 32) (x : BitVec 64), s.hears = true →
      (s.role = Role.standby → Completes (.tieSwap seq x) s fun t => Heard seq s t ∧ SwapBegun x false t ∧ TieSame [F.TIE_STATUS_ROLE, F.TIE_STATUS_MARK_OVF] s t ∧
        Only (evts ++ [Machine.Part.tie]) ([tieKey, F.TIE_SWAP_AT_LO_AT.addr, F.TIE_SWAP_AT_HI_AT.addr] ++ evtKeys) s t) ∧
      (s.role ≠ Role.standby → Completes (.tieSwap seq x) s fun t => Heard seq s t ∧ TieSame [F.TIE_STATUS_MARK_OVF] s t ∧ Only [.tie] [tieKey] s t)) ∧
    (∀ x : BitVec 64, s.role = Role.swapping → s.tie.swap = some x →
      (s.until_ x ≤ 0 → s.tie.swapActive = true → s.holdOut = true → Completes .swapInstant s fun t => Released t ∧ TieSame [F.TIE_STATUS_HOLD_OUT] s t ∧ Only squelchParts evtKeys s t) ∧
      (s.until_ x ≤ 0 → s.tie.swapActive = false → s.holdOut = false → s.holdIn = false → Completes .swapInstant s fun t => Acquiring s t ∧ TieSame [F.TIE_STATUS_HOLD_OUT] s t ∧ Only [.tie] [tieKey] s t) ∧
      (0 < s.until_ x → Completes .swapInstant s fun t => Only [] [] s t) ∧
      (s.until_ x ≤ -1000 → (if s.tie.swapActive then s.holdOut = false ∧ s.holdIn = true else s.holdOut = true ∧ s.tie.wait = none) → Completes .swapComplete s fun t =>
        t.role = (if s.tie.swapActive then Role.standby else Role.active) ∧ t.count C.TIE_SWAPS = s.count C.TIE_SWAPS + 1 ∧ t.flag F.TIE_CTL_SWAP = false ∧
        t.tie = { s.tie with swap := none, swapActive := false, standby := !s.tie.swapActive, swapMin := s.opMin } ∧ Logged 0x3C0 0 t ∧ TieSame [F.TIE_STATUS_ROLE] s t ∧
        Only (evts ++ [Machine.Part.tie, .cnt]) ([tieKey, F.TIE_CTL_SWAP.addr] ++ evtKeys) s t) ∧
      (-1000 < s.until_ x → Completes .swapComplete s fun t => Only [] [] s t))

/-! ## Lanes and ports (spec/19_lanes_and_ports.md) -/

/-- R449, R453 to R457: a port that is DOWN goes on to TRAINING or ALIGNING once every receive lane has signal and clock; trained it is ALIGNING, aligned it is UP, with event 0x040; an attempt that takes too
long begins again; a port that loses a lane, lock or FEC sync, or is restarted, goes DOWN, counted in PRT_LINK_DOWN with event 0x041, and a frame in progress on receive ends; a remote fault holds transmit only.
The model's choices used: log entries 39, 66. -/
def Obligations.PortsComeUpAndGoDown : Prop :=
  ∀ s : State,
    let w2 (n : Nat) : Nat := (F.PRT_PORT_W2_STATE n).addr
    let lanes (n : Nat) : List Nat := (s.rxLanes n).map fun i => (F.SRD_LANE_W2_TRAINED i).addr
    let entered (n st : Nat) (t : State) : Prop := t.portState n = st ∧ tabGet 0 t.prt.since n = s.cyc ∧ ∀ m, m ≠ n → tabGet 0 t.prt.since m = tabGet 0 s.prt.since m
    let acquired (ready : Bool) (n : Nat) (t : State) : Prop := t.portState n = (if ready = false then 1 else if (s.rxLanes n).any fun i => s.flag (F.SRD_LANE_W0_CHAN i) then 2 else 3)
    let sendable (n : Nat) : Prop := ∀ i ∈ s.txLanes n, s.txAwake i = true ∧ s.flag (F.SRD_LANE_W2_SQUELCH i) = false
    let down (n cause : Nat) (t : State) : Prop := t.count (C.PRT_LINK_DOWN n) = s.count (C.PRT_LINK_DOWN n) + 1 ∧ (∃ r ∈ t.fbk.opLog, r.num = 0x041 ∧ r.scope = n) ∧ cause ≤ 5 ∧
      t.flag (F.PRT_PORT_W2_LOCAL_FAULT n) = true ∧ t.flag (F.PRT_PORT_W2_REMOTE_FAULT n) = false ∧ t.portOpen n = s.portOpen n ∧
      (tabWf (fun _ => none) s.frames = true → ∀ j f, t.frame j = some f → f.inPort = n → f.origin = false → f.rxEnd = true)
    (∀ (i : Fin 64) (sig cdr : Bool),
      (s.rxAwake i = false → Completes (.laneSignalChange i sig cdr) s fun t => Only [] [] s t) ∧
      (s.rxAwake i = true → Completes (.laneSignalChange i sig cdr) s fun t =>
        t.flag (F.SRD_LANE_W2_SIGNAL i) = sig ∧ t.flag (F.SRD_LANE_W2_CDR_LOCK i) = (sig && cdr) ∧
        (s.portOfRx i = none → Only [] [(F.SRD_LANE_W2_SIGNAL i).addr] s t) ∧
        (∀ n, s.portOfRx i = some n →
          let had := s.flag (F.SRD_LANE_W2_SIGNAL i) = true ∧ s.flag (F.SRD_LANE_W2_CDR_LOCK i) = true
          (had → sig = false ∨ cdr = false → (∃ r ∈ t.fbk.opLog, r.num = 0x042 ∧ r.scope = i) ∧ t.portState n = (if 2 ≤ s.portState n ∧ s.portState n ≤ 4 then 1 else s.portState n) ∧
            (s.portState n = 4 → down n (if sig then 1 else 0) t) ∧ (s.portState n ≠ 4 → t.count (C.PRT_LINK_DOWN n) = s.count (C.PRT_LINK_DOWN n))) ∧
          (¬ (had ∧ (sig = false ∨ cdr = false)) → s.portState n ≠ 1 → t.portState n = s.portState n ∧ Only [] [(F.SRD_LANE_W2_SIGNAL i).addr] s t) ∧
          (¬ (had ∧ (sig = false ∨ cdr = false)) → s.portState n = 1 →
            acquired ((s.rxLanes n).all fun l => s.rxAwake l && (if l = i.val then sig && cdr else s.flag (F.SRD_LANE_W2_SIGNAL l) && s.flag (F.SRD_LANE_W2_CDR_LOCK l))) n t ∧
            Only [.prt] (w2 n :: (F.SRD_LANE_W2_SIGNAL i).addr :: lanes n) s t)) ∧
        Only (squelchParts ++ [Machine.Part.prt]) evtKeys s t)) ∧
    (∀ n : Fin 64,
      (s.portState n = 2 → Completes (.trainingDone n) s fun t => entered n 3 t ∧ (∀ i ∈ s.rxLanes n, t.flag (F.SRD_LANE_W2_TRAINED i) = true) ∧ Only [.prt] (w2 n :: lanes n) s t) ∧
      (s.portState n ≠ 2 → Completes (.trainingDone n) s fun t => Only [] [] s t) ∧
      (s.portState n = 2 → 750000000 ≤ (s.cyc - tabGet 0 s.prt.since n).toNat → Completes (.trainingTimeout n) s fun t => acquired (s.lanesReady n) n t ∧ tabGet 0 t.prt.since n = s.cyc ∧
        (∀ i ∈ s.rxLanes n, ∃ r ∈ t.fbk.opLog, r.num = 0x043 ∧ r.scope = i) ∧ Only (evts ++ [Machine.Part.prt]) (w2 n :: lanes n ++ evtKeys) s t) ∧
      (s.portState n ≠ 2 ∨ (s.cyc - tabGet 0 s.prt.since n).toNat < 750000000 → Completes (.trainingTimeout n) s fun t => Only [] [] s t) ∧
      (s.portState n = 3 → Completes (.alignmentDone n) s fun t => entered n 4 t ∧ t.flag (F.PRT_PORT_W2_LOCAL_FAULT n) = false ∧ t.flag (F.PRT_PORT_W1_RESTART n) = false ∧
        (∃ r ∈ t.fbk.opLog, r.num = 0x040 ∧ r.scope = n) ∧ (sendable n → s.flag (F.PRT_PORT_W2_REMOTE_FAULT n) = false → t.txAvail n = true) ∧ (¬ sendable n → t.txAvail n = false) ∧
        t.portOpen n = s.portOpen n ∧ Only (evts ++ [Machine.Part.prt, .frames, .block 8]) ([w2 n, (F.PRT_PORT_W1_RESTART n).addr] ++ evtKeys) s t) ∧
      (s.portState n ≠ 3 → Completes (.alignmentDone n) s fun t => Only [] [] s t) ∧
      (s.portState n = 3 → 150000000 ≤ (s.cyc - tabGet 0 s.prt.since n).toNat → Completes (.alignmentTimeout n) s fun t => acquired (s.lanesReady n) n t ∧ tabGet 0 t.prt.since n = s.cyc ∧
        Only [.prt] (w2 n :: lanes n) s t) ∧
      (s.portState n ≠ 3 ∨ (s.cyc - tabGet 0 s.prt.since n).toNat < 150000000 → Completes (.alignmentTimeout n) s fun t => Only [] [] s t) ∧
      (∀ cause : Fin 3, s.portState n = 4 → Completes (.linkDown n cause) s fun t => down n (2 + cause) t ∧ acquired (s.lanesReady n) n t ∧ Only (squelchParts ++ [Machine.Part.prt]) evtKeys s t) ∧
      (∀ cause : Fin 3, s.portState n ≠ 4 → Completes (.linkDown n cause) s fun t => Only [] [] s t) ∧
      (∀ on, s.portState n = 4 → Completes (.remoteFaultChange n on) s fun t => t.flag (F.PRT_PORT_W2_REMOTE_FAULT n) = on ∧ t.portState n = 4 ∧ t.portOpen n = s.portOpen n ∧
        t.count (C.PRT_LINK_DOWN n) = s.count (C.PRT_LINK_DOWN n) ∧ (on = false → sendable n → t.txAvail n = true) ∧ (on = true → s.rxAsleep n = false → t.txAvail n = false) ∧
        (t.txAvail n ≠ s.txAvail n → Logged 0x04B n t) ∧ Only (evts ++ [Machine.Part.frames, .block 8]) (w2 n :: evtKeys) s t) ∧
      (∀ on, s.portState n ≠ 4 → Completes (.remoteFaultChange n on) s fun t => Only [] [] s t) ∧
      (1 ≤ s.portState n → s.portState n ≤ 4 → Completes (.portRestart .secure n) s fun t => t.flag (F.PRT_PORT_W1_RESTART n) = true ∧ acquired (s.lanesReady n) n t ∧
        (s.portState n = 4 → down n 5 t) ∧ (s.portState n ≠ 4 → t.count (C.PRT_LINK_DOWN n) = s.count (C.PRT_LINK_DOWN n)) ∧ Only (squelchParts ++ [Machine.Part.prt]) evtKeys s t) ∧
      (s.portState n = 0 ∨ 5 ≤ s.portState n → Completes (.portRestart .secure n) s fun t => Only [] [] s t) ∧
      (∀ w : World, w.isSecure = false → Completes (.portRestart w n) s fun t => LoggedSec 0x010 2 s t ∧ Only evts evtKeys s t))

/-- R460 to R462, R472: a lane told to wake is awake when it completes, with event 0x048, unless its reference is absent; SRD_LANE_CTL's sleep fields are written from the secure world only and take a receiver
at once and a transmitter once no frame is on its wire; its loop fields take effect from either world, and put the port into TEST, unless the port is open without TEST_OK; an absent reference is told once.
The model's choices used: log entry 39. -/
def Obligations.LanesSleepAndLoop : Prop :=
  ∀ s : State,
    (∀ i : Fin 64,
      (s.prt.refGone.getLsbD (i / 16) = true → ∀ rx, Completes (.laneWakeDone i rx) s fun t => Only [] [] s t) ∧
      (s.prt.refGone.getLsbD (i / 16) = false →
        (s.flag (F.SRD_LANE_W1_RX_SLEEP i) = false → s.rxAwake i = false → Completes (.laneWakeDone i true) s fun t => t.rxAwake i = true ∧ t.txAwake i = s.txAwake i ∧
          (∃ r ∈ t.fbk.opLog, r.num = 0x048 ∧ r.scope = i) ∧ (s.portOfRx i = none → Only evts ((F.SRD_LANE_W2_RX_AWAKE i).addr :: evtKeys) s t) ∧
          Only (evts ++ [Machine.Part.frames, .block 2, .block 8]) ((F.SRD_LANE_W2_RX_AWAKE i).addr :: evtKeys) s t) ∧
        (s.flag (F.SRD_LANE_W1_RX_SLEEP i) = true ∨ s.rxAwake i = true → Completes (.laneWakeDone i true) s fun t => Only [] [] s t) ∧
        (s.flag (F.SRD_LANE_W1_TX_SLEEP i) = false → s.txAwake i = false → Completes (.laneWakeDone i false) s fun t => t.txAwake i = true ∧ t.rxAwake i = s.rxAwake i ∧
          (∃ r ∈ t.fbk.opLog, r.num = 0x048 ∧ r.scope = i) ∧ (s.portOfTx i = none → Only evts ((F.SRD_LANE_W2_TX_AWAKE i).addr :: evtKeys) s t) ∧
          Only (evts ++ [Machine.Part.frames, .block 2, .block 8]) ((F.SRD_LANE_W2_TX_AWAKE i).addr :: evtKeys) s t) ∧
        (s.flag (F.SRD_LANE_W1_TX_SLEEP i) = true ∨ s.txAwake i = true → Completes (.laneWakeDone i false) s fun t => Only [] [] s t))) ∧
    (∀ (w : World) (i : Fin 64) (v : Word) (c : Instr), c ∈ [Instr.laneSleepWrite w i v, .testFieldWrite w i false v] →
      let blocked := s.laneTests i = false ∧ bitsOf v 28 2 ≠ 0 ∧ ∃ n, s.portOfLane i = some n ∧ s.portState n ≠ 5 ∧ s.portOpen n = true ∧ s.flag (F.PRT_PORT_W0_TEST_OK n) = false
      Completes c s fun t =>
        (blocked → t.fld (F.SRD_LANE_W1_LOOP i) = s.fld (F.SRD_LANE_W1_LOOP i) ∧ t.flag (F.SRD_LANE_W1_LOOP_TX i) = s.flag (F.SRD_LANE_W1_LOOP_TX i) ∧
          ∃ r ∈ t.fbk.opLog, r.num = 0x049 ∧ r.scope = i) ∧
        (¬ blocked → t.fld (F.SRD_LANE_W1_LOOP i) = bitsOf v 28 2 ∧ t.fld (F.SRD_LANE_W1_LOOP_TX i) = bitsOf v 27 1 ∧
          (bitsOf v 28 2 ≠ 0 → ∀ n, s.portOfLane i = some n → t.portState n = 5)) ∧
        (w.isSecure = true → t.fld (F.SRD_LANE_W1_TX_SLEEP i) = bitsOf v 31 1 ∧ t.fld (F.SRD_LANE_W1_RX_SLEEP i) = bitsOf v 30 1 ∧
          (bitsOf v 30 1 = 1 → t.rxAwake i = false) ∧ (bitsOf v 30 1 = 1 → s.rxAwake i = true → t.flag (F.SRD_LANE_W2_SIGNAL i) = false ∧ t.flag (F.SRD_LANE_W2_CDR_LOCK i) = false) ∧
          (bitsOf v 30 1 = 0 → t.rxAwake i = s.rxAwake i) ∧ (bitsOf v 31 1 = 1 → s.laneSending i = false → t.txAwake i = false) ∧ (bitsOf v 31 1 = 0 → t.txAwake i = s.txAwake i)) ∧
        (w.isSecure = false → LoggedSec 0x010 1 s t ∧ t.flag (F.SRD_LANE_W1_TX_SLEEP i) = s.flag (F.SRD_LANE_W1_TX_SLEEP i) ∧ t.flag (F.SRD_LANE_W1_RX_SLEEP i) = s.flag (F.SRD_LANE_W1_RX_SLEEP i) ∧
          t.txAwake i = s.txAwake i ∧ t.rxAwake i = s.rxAwake i) ∧
        (s.portOfTx i = none → s.portOfRx i = none → Only evts ([(F.SRD_LANE_W1_LOOP i).addr, (F.SRD_LANE_W2_TX_AWAKE i).addr] ++ evtKeys) s t) ∧
        (∀ j, j < 64 → j ≠ i.val → t.word (F.SRD_LANE_W1_LOOP j).addr = s.word (F.SRD_LANE_W1_LOOP j).addr) ∧ Only (squelchParts ++ [Machine.Part.prt]) evtKeys s t) ∧
    (∀ (r : Fin 4) (present : Bool), Completes (.serdesReferenceChange r present) s fun t =>
      (∀ j, j < 4 → t.prt.refGone.getLsbD j = (if j = r.val then !present else s.prt.refGone.getLsbD j)) ∧
      (present = true → t.prt.refTold = s.prt.refTold ∧ Only [.prt] [] s t) ∧
      (present = false → t.prt.refTold.getLsbD r = true ∧ (s.prt.refTold.getLsbD r = false → Logged 0x04A r t) ∧ (s.prt.refTold.getLsbD r = true → t.fbk = s.fbk)) ∧
      { t.prt with refGone := s.prt.refGone, refTold := s.prt.refTold } = s.prt ∧ Only (evts ++ [Machine.Part.prt]) evtKeys s t)

/-- R459, R461 to R465: SRD_LANE_PRBS_CFG's fields take effect unless they would put an open port into TEST without TEST_OK; the checker's lock and its loss, an injected error seen through a near-end loop, CLR, QUAL as
⌊10 log10(bits ÷ errors)⌋ once 10^6 bits have been compared, and what FEC counts in each interval, with DEGRADED beyond DEG_SYM.
The model's choices used: log entries 39, 66. -/
def Obligations.PatternTestsAndFec : Prop :=
  ∀ (s : State) (i : Fin 64),
    let keys : List Nat := winKeys (F.SRD_LANE_W3_GEN_EN i).addr 5
    let err (t : State) : Nat := t.fld (F.SRD_LANE_W5_ERR i)
    let lock (t : State) : Bool := t.flag (F.SRD_LANE_W4_LOCK i)
    let fits (rate pattern : Nat) : Bool := decide (rate ≤ 1) == decide (pattern ≤ 4)
    let counted (t : State) : Prop := t.laneBits i = (if lock s then
      (s.laneBits i + (s.laneRate i * cycToNs (s.cyc - tabGet 0 s.prt.prbsAt i).toNat).floor.toNat) % 2 ^ 64 else s.laneBits i)
    (∀ (w : World) (v : Word),
      let blocked := s.laneTests i = false ∧ (bitsOf v 31 1 = 1 ∨ bitsOf v 30 1 = 1) ∧
        ∃ n, s.portOfLane i = some n ∧ s.portState n ≠ 5 ∧ s.portOpen n = true ∧ s.flag (F.PRT_PORT_W0_TEST_OK n) = false
      Completes (.testFieldWrite w i true v) s fun t =>
        (blocked → t.word (F.SRD_LANE_W3_GEN_EN i).addr = s.word (F.SRD_LANE_W3_GEN_EN i).addr ∧ lock t = lock s ∧ Logged 0x049 i t) ∧
        (¬ blocked → t.fld (F.SRD_LANE_W3_GEN_EN i) = bitsOf v 31 1 ∧ t.fld (F.SRD_LANE_W3_CHK_EN i) = bitsOf v 30 1 ∧ t.fld (F.SRD_LANE_W3_PATTERN i) = bitsOf v 27 3 ∧
          t.fld (F.SRD_LANE_W3_INJ_RATE i) = bitsOf v 21 5 ∧ lock t = (lock s && bitsOf v 30 1 == 1 && fits (s.fld (F.SRD_LANE_W0_RATE i)) (bitsOf v 27 3)) ∧
          ((bitsOf v 31 1 = 1 ∨ bitsOf v 30 1 = 1) → ∀ n, s.portOfLane i = some n → t.portState n = 5)) ∧
        (bitsOf v 20 1 = 1 → t.laneBits i = 0 ∧ t.fld (F.SRD_LANE_W4_QUAL i) = 0 ∧ (bitsOf v 26 1 = 0 → err t = 0)) ∧ (bitsOf v 20 1 = 0 → counted t) ∧
        (bitsOf v 20 1 = 0 → bitsOf v 26 1 = 0 → err t = err s) ∧ (s.portOfLane i = none → Only [.prt] keys s t) ∧ Only (squelchParts ++ [Machine.Part.prt]) evtKeys s t) ∧
    (Completes (.prbsLockChange i true) s fun t => lock t = (lock s || (s.flag (F.SRD_LANE_W3_CHK_EN i) && fits (s.fld (F.SRD_LANE_W0_RATE i)) (s.fld (F.SRD_LANE_W3_PATTERN i)))) ∧ counted t ∧
      err t = err s ∧ t.flag (F.SRD_LANE_W4_LOST i) = s.flag (F.SRD_LANE_W4_LOST i) ∧ Only [.prt] keys s t) ∧
    (Completes (.prbsLockChange i false) s fun t => lock t = false ∧ counted t ∧ err t = err s ∧ (lock s = true → t.flag (F.SRD_LANE_W4_LOST i) = true ∧ (s.hold 0x046 = none → Logged 0x046 i t)) ∧
      (lock s = false → Only [.prt] keys s t) ∧ Only (evts ++ [Machine.Part.prt, .holdOff]) (keys ++ evtKeys) s t) ∧
    (Completes (.prbsInj i) s fun t => counted t ∧ lock t = lock s ∧
      err t = (if lock s = true ∧ (s.fld (F.SRD_LANE_W1_LOOP i) = 1 ∨ s.fld (F.SRD_LANE_W1_LOOP i) = 2) then min (2 ^ 32 - 1) (err s + 1) else err s) ∧ Only [.prt] keys s t) ∧
    (Completes (.prbsClr i) s fun t => t.laneBits i = 0 ∧ err t = 0 ∧ t.fld (F.SRD_LANE_W4_QUAL i) = 0 ∧ lock t = lock s ∧ t.flag (F.SRD_LANE_W4_LOST i) = s.flag (F.SRD_LANE_W4_LOST i) ∧
      t.word (F.SRD_LANE_W3_GEN_EN i).addr = s.word (F.SRD_LANE_W3_GEN_EN i).addr ∧ Only [.prt] keys s t) ∧
    (∀ n : BitVec 32, 1536000 ≤ (s.cyc - tabGet 0 s.prt.qualAt i).toNat → Completes (.qualUpdate i n) s fun t => counted t ∧ lock t = lock s ∧
      err t = (if lock s then min (2 ^ 32 - 1) (err s + n.toNat) else err s) ∧ (t.laneBits i < 1000000 → t.fld (F.SRD_LANE_W4_QUAL i) = 0) ∧
      (1000000 ≤ t.laneBits i → ∀ q, 1 ≤ q → q ≤ 255 → (q ≤ t.fld (F.SRD_LANE_W4_QUAL i) ↔ 10 ^ q * (max 1 (err t)) ^ 10 ≤ t.laneBits i ^ 10)) ∧ Only [.prt] keys s t) ∧
    (∀ n : BitVec 32, (s.cyc - tabGet 0 s.prt.qualAt i).toNat < 1536000 → Completes (.qualUpdate i n) s fun t => Only [] [] s t) ∧
    (∀ corr uncorr sym bad : BitVec 16,
      (s.portState i = 4 → 1536 ≤ (s.cyc - tabGet 0 s.prt.fecAt i).toNat → Completes (.fecInterval i corr uncorr sym bad) s fun t =>
        let rs := 2 ≤ s.fld (F.PRT_PORT_W0_FEC i)
        let lim := s.fld (F.PRT_PORT_W3_DEG_SYM i)
        t.count (C.PRT_BAD_BLOCK i) = s.count (C.PRT_BAD_BLOCK i) + BitVec.ofNat 64 bad.toNat ∧
        (rs → t.count (C.PRT_FEC_CORR i) = s.count (C.PRT_FEC_CORR i) + BitVec.ofNat 64 corr.toNat ∧ t.count (C.PRT_FEC_UNCORR i) = s.count (C.PRT_FEC_UNCORR i) + BitVec.ofNat 64 uncorr.toNat ∧
          t.count (C.PRT_FEC_SYMBOLS i) = s.count (C.PRT_FEC_SYMBOLS i) + BitVec.ofNat 64 sym.toNat ∧ t.flag (F.PRT_PORT_W2_DEGRADED i) = decide (lim ≠ 0 ∧ lim < sym.toNat) ∧
          (uncorr ≠ 0 ∨ (lim ≠ 0 ∧ lim < sym.toNat) → s.hold 0x044 = none → Logged 0x044 i t)) ∧
        (¬ rs → Only [.prt, .cnt] [] s t) ∧ t.portState i = 4 ∧ Only (evts ++ [Machine.Part.prt, .cnt, .holdOff]) ((F.PRT_PORT_W2_DEGRADED i).addr :: evtKeys) s t) ∧
      (s.portState i ≠ 4 ∨ (s.cyc - tabGet 0 s.prt.fecAt i).toNat < 1536 → Completes (.fecInterval i corr uncorr sym bad) s fun t => Only [] [] s t))

/-! ## One-time memory (spec/10_hearth_keys.md, spec/11_signed_control.md, spec/17_environment_tamper.md) -/

/-- R251, R263, R266, R290, R415: whatever command is performed, every bit of one-time memory that was programmed stays programmed, and its thermometers stay within their lengths. -/
def Obligations.OneTimeMemoryOnlyGains : Prop :=
  ∀ s t : State, s.otp.Ok → step s = .next t → s.otp.Le t.otp ∧ t.otp.Ok

/-- R290, R415: the one-time memory of the device that State.reset describes is within its bounds.
The model's choices used: log entry 4. -/
def Obligations.OneTimeMemoryAtReset : Prop := State.reset.otp.Ok

end
end

