-- ==== Sys2Proof/Laws/Reg.lean ====
section
/-! SUPPORT. Laws/Reg.lean: reading a bit field of a word after a field was replaced. -/

namespace Sys2Proof.Machine

/-- A word's number split at a field: above it, the field, below it. -/
theorem bits_split (n lo width : Nat) :
    n = n / 2 ^ (lo + width) * 2 ^ (lo + width) + (n / 2 ^ lo % 2 ^ width) * 2 ^ lo + n % 2 ^ lo := by
  have h1 := Nat.div_add_mod n (2 ^ lo)
  have h2 := Nat.div_add_mod (n / 2 ^ lo) (2 ^ width)
  have h3 : n / 2 ^ lo / 2 ^ width = n / 2 ^ (lo + width) := by rw [Nat.div_div_eq_div_mul, Nat.pow_add]
  rw [h3] at h2
  have h4 : 2 ^ (lo + width) = 2 ^ lo * 2 ^ width := Nat.pow_add 2 lo width
  have h5 : n / 2 ^ (lo + width) * 2 ^ (lo + width) = 2 ^ lo * (2 ^ width * (n / 2 ^ (lo + width))) := by
    rw [h4]
    ac_rfl
  rw [h5, Nat.mul_comm (n / 2 ^ lo % 2 ^ width), ← Nat.mul_add, h2, h1]

/-- The number of a word with a field replaced. -/
theorem toNat_putBits (w : Word) (lo width v : Nat) (h : lo + width ≤ 32) :
    (putBits w lo width v).toNat =
      w.toNat / 2 ^ (lo + width) * 2 ^ (lo + width) + (v % 2 ^ width) * 2 ^ lo + w.toNat % 2 ^ lo := by
  have hs := bits_split w.toNat lo width
  have hv : v % 2 ^ width ≤ 2 ^ width - 1 := Nat.le_sub_one_of_lt (Nat.mod_lt _ (Nat.two_pow_pos width))
  have hl : w.toNat % 2 ^ lo < 2 ^ lo := Nat.mod_lt _ (Nat.two_pow_pos lo)
  have hw : w.toNat < 2 ^ 32 := w.isLt
  have hpw : 2 ^ (lo + width) = 2 ^ width * 2 ^ lo := by rw [Nat.pow_add, Nat.mul_comm]
  have hq : w.toNat / 2 ^ (lo + width) ≤ 2 ^ (32 - (lo + width)) - 1 := by
    apply Nat.le_sub_one_of_lt
    rw [Nat.div_lt_iff_lt_mul (Nat.two_pow_pos _), ← Nat.pow_add]
    rwa [Nat.sub_add_cancel h]
  have hb : w.toNat / 2 ^ (lo + width) * 2 ^ (lo + width) ≤ 2 ^ 32 - 2 ^ (lo + width) := by
    calc w.toNat / 2 ^ (lo + width) * 2 ^ (lo + width)
        ≤ (2 ^ (32 - (lo + width)) - 1) * 2 ^ (lo + width) := Nat.mul_le_mul_right _ hq
      _ = 2 ^ 32 - 2 ^ (lo + width) := by rw [Nat.sub_mul, ← Nat.pow_add, Nat.sub_add_cancel h, Nat.one_mul]
  have hm : (v % 2 ^ width) * 2 ^ lo ≤ 2 ^ (lo + width) - 2 ^ lo := by
    calc (v % 2 ^ width) * 2 ^ lo ≤ (2 ^ width - 1) * 2 ^ lo := Nat.mul_le_mul_right _ hv
      _ = 2 ^ (lo + width) - 2 ^ lo := by rw [Nat.sub_mul, hpw, Nat.one_mul]
  have hle : 2 ^ lo ≤ 2 ^ (lo + width) := Nat.pow_le_pow_right (by decide) (Nat.le_add_right _ _)
  have hle2 : 2 ^ (lo + width) ≤ 2 ^ 32 := Nat.pow_le_pow_right (by decide) h
  rw [putBits, bitsOf, BitVec.toNat_ofNat, Nat.mod_eq_of_lt (by omega)]
  omega

theorem bitsOf_putBits_same (w : Word) (lo width v : Nat) (h : lo + width ≤ 32) :
    bitsOf (putBits w lo width v) lo width = v % 2 ^ width := by
  have hpw : 2 ^ (lo + width) = 2 ^ width * 2 ^ lo := by rw [Nat.pow_add, Nat.mul_comm]
  rw [bitsOf, toNat_putBits w lo width v h, hpw, ← Nat.mul_assoc, ← Nat.add_mul,
    Nat.mul_comm, Nat.mul_add_div (Nat.two_pow_pos lo), Nat.div_eq_of_lt (Nat.mod_lt _ (Nat.two_pow_pos lo)), Nat.add_zero,
    Nat.mul_comm _ (2 ^ width), Nat.mul_add_mod, Nat.mod_mod]

/-- A field above or below the one replaced reads as before. -/
theorem bitsOf_putBits_disj (w : Word) (lo width v lo' width' : Nat) (h : lo + width ≤ 32)
    (hd : lo + width ≤ lo' ∨ lo' + width' ≤ lo) : bitsOf (putBits w lo width v) lo' width' = bitsOf w lo' width' := by
  have hn := toNat_putBits w lo width v h
  have hs := bits_split w.toNat lo width
  have hl : w.toNat % 2 ^ lo < 2 ^ lo := Nat.mod_lt _ (Nat.two_pow_pos lo)
  have hpw : 2 ^ (lo + width) = 2 ^ width * 2 ^ lo := by rw [Nat.pow_add, Nat.mul_comm]
  rcases hd with hd | hd
  · have hq : (putBits w lo width v).toNat / 2 ^ (lo + width) = w.toNat / 2 ^ (lo + width) := by
      have hv : v % 2 ^ width ≤ 2 ^ width - 1 := Nat.le_sub_one_of_lt (Nat.mod_lt _ (Nat.two_pow_pos width))
      have hm : (v % 2 ^ width) * 2 ^ lo ≤ 2 ^ (lo + width) - 2 ^ lo := by
        calc (v % 2 ^ width) * 2 ^ lo ≤ (2 ^ width - 1) * 2 ^ lo := Nat.mul_le_mul_right _ hv
          _ = 2 ^ (lo + width) - 2 ^ lo := by rw [Nat.sub_mul, hpw, Nat.one_mul]
      have hle : 2 ^ lo ≤ 2 ^ (lo + width) := Nat.pow_le_pow_right (by decide) (Nat.le_add_right _ _)
      have hlt : v % 2 ^ width * 2 ^ lo + w.toNat % 2 ^ lo < 2 ^ (lo + width) := by omega
      rw [hn, Nat.add_assoc, Nat.add_comm, Nat.add_mul_div_right _ _ (Nat.two_pow_pos _), Nat.div_eq_of_lt hlt, Nat.zero_add]
    have hp : 2 ^ lo' = 2 ^ (lo + width) * 2 ^ (lo' - (lo + width)) := by rw [← Nat.pow_add, Nat.add_sub_cancel' hd]
    rw [bitsOf, bitsOf, hp, ← Nat.div_div_eq_div_mul, ← Nat.div_div_eq_div_mul, hq]
  · have hr : (putBits w lo width v).toNat % 2 ^ lo = w.toNat % 2 ^ lo := by
      rw [hn, hpw, ← Nat.mul_assoc, ← Nat.add_mul, Nat.mul_comm, Nat.mul_add_mod, Nat.mod_mod]
    have key : ∀ n : Nat, n / 2 ^ lo' % 2 ^ width' = n % 2 ^ lo % (2 ^ lo' * 2 ^ width') / 2 ^ lo' := by
      intro n
      rw [Nat.mod_mod_of_dvd n (by rw [← Nat.pow_add]; exact Nat.pow_dvd_pow 2 hd), Nat.mod_mul_right_div_self]
    rw [bitsOf, bitsOf, key, key, hr]

/-- Two fields that share no bit. -/
def Fld.Disj (f g : Fld) : Prop := f.addr ≠ g.addr ∨ f.lo + f.width ≤ g.lo ∨ g.lo + g.width ≤ f.lo

/-- A field within its word. -/
def Fld.Ok (f : Fld) : Prop := f.lo + f.width ≤ 32

end Sys2Proof.Machine
end

