-- ==== Sys2Proof/Laws/State.lean ====
section
/-! SUPPORT. Laws/State.lean: what each update of the state leaves, field by field. -/

namespace Sys2Proof.Machine

/-! ### State.setWord -/

@[simp] theorem State.setWord_pending (s : State) (a : Nat) (w : Word) : (s.setWord a w).pending = s.pending := (rfl)
@[simp] theorem State.setWord_cnt (s : State) (a : Nat) (w : Word) : (s.setWord a w).cnt = s.cnt := (rfl)
@[simp] theorem State.setWord_cyc (s : State) (a : Nat) (w : Word) : (s.setWord a w).cyc = s.cyc := (rfl)
@[simp] theorem State.setWord_datum (s : State) (a : Nat) (w : Word) : (s.setWord a w).datum = s.datum := (rfl)
@[simp] theorem State.setWord_free (s : State) (a : Nat) (w : Word) : (s.setWord a w).free = s.free := (rfl)
@[simp] theorem State.setWord_holdOff (s : State) (a : Nat) (w : Word) : (s.setWord a w).holdOff = s.holdOff := (rfl)
@[simp] theorem State.setWord_fns (s : State) (a : Nat) (w : Word) : (s.setWord a w).fns = s.fns := (rfl)
@[simp] theorem State.setWord_waits (s : State) (a : Nat) (w : Word) : (s.setWord a w).waits = s.waits := (rfl)
@[simp] theorem State.setWord_fbk (s : State) (a : Nat) (w : Word) : (s.setWord a w).fbk = s.fbk := (rfl)
@[simp] theorem State.setWord_otp (s : State) (a : Nat) (w : Word) : (s.setWord a w).otp = s.otp := (rfl)
@[simp] theorem State.setWord_saStat (s : State) (a : Nat) (w : Word) : (s.setWord a w).saStat = s.saStat := (rfl)
@[simp] theorem State.setWord_qDrop (s : State) (a : Nat) (w : Word) : (s.setWord a w).qDrop = s.qDrop := (rfl)
@[simp] theorem State.setWord_requests (s : State) (a : Nat) (w : Word) : (s.setWord a w).requests = s.requests := (rfl)
@[simp] theorem State.setWord_rules (s : State) (a : Nat) (w : Word) : (s.setWord a w).rules = s.rules := (rfl)
@[simp] theorem State.setWord_bypass (s : State) (a : Nat) (w : Word) : (s.setWord a w).bypass = s.bypass := (rfl)
@[simp] theorem State.setWord_bypAt (s : State) (a : Nat) (w : Word) : (s.setWord a w).bypAt = s.bypAt := (rfl)
@[simp] theorem State.setWord_polAt (s : State) (a : Nat) (w : Word) : (s.setWord a w).polAt = s.polAt := (rfl)
@[simp] theorem State.setWord_sampAt (s : State) (a : Nat) (w : Word) : (s.setWord a w).sampAt = s.sampAt := (rfl)
@[simp] theorem State.setWord_dat (s : State) (a : Nat) (w : Word) : (s.setWord a w).dat = s.dat := (rfl)
@[simp] theorem State.setWord_plat (s : State) (a : Nat) (w : Word) : (s.setWord a w).plat = s.plat := (rfl)
@[simp] theorem State.setWord_sec (s : State) (a : Nat) (w : Word) : (s.setWord a w).sec = s.sec := (rfl)
@[simp] theorem State.setWord_hrt (s : State) (a : Nat) (w : Word) : (s.setWord a w).hrt = s.hrt := (rfl)
@[simp] theorem State.setWord_frames (s : State) (a : Nat) (w : Word) : (s.setWord a w).frames = s.frames := (rfl)
@[simp] theorem State.setWord_nextFrame (s : State) (a : Nat) (w : Word) : (s.setWord a w).nextFrame = s.nextFrame := (rfl)
@[simp] theorem State.setWord_nextEnq (s : State) (a : Nat) (w : Word) : (s.setWord a w).nextEnq = s.nextEnq := (rfl)
@[simp] theorem State.setWord_blw (s : State) (a : Nat) (w : Word) : (s.setWord a w).blw = s.blw := (rfl)
@[simp] theorem State.setWord_gates (s : State) (a : Nat) (w : Word) : (s.setWord a w).gates = s.gates := (rfl)
@[simp] theorem State.setWord_prt (s : State) (a : Nat) (w : Word) : (s.setWord a w).prt = s.prt := (rfl)
@[simp] theorem State.setWord_anvIdle (s : State) (a : Nat) (w : Word) : (s.setWord a w).anvIdle = s.anvIdle := (rfl)
@[simp] theorem State.setWord_anvKat (s : State) (a : Nat) (w : Word) : (s.setWord a w).anvKat = s.anvKat := (rfl)
@[simp] theorem State.setWord_anvRet (s : State) (a : Nat) (w : Word) : (s.setWord a w).anvRet = s.anvRet := (rfl)
@[simp] theorem State.setWord_anvWake (s : State) (a : Nat) (w : Word) : (s.setWord a w).anvWake = s.anvWake := (rfl)
@[simp] theorem State.setWord_env (s : State) (a : Nat) (w : Word) : (s.setWord a w).env = s.env := (rfl)
@[simp] theorem State.setWord_tie (s : State) (a : Nat) (w : Word) : (s.setWord a w).tie = s.tie := (rfl)
@[simp] theorem State.setWord_ecc (s : State) (a : Nat) (w : Word) : (s.setWord a w).ecc = s.ecc := (rfl)
@[simp] theorem State.setWord_tmp (s : State) (a : Nat) (w : Word) : (s.setWord a w).tmp = s.tmp := (rfl)
@[simp] theorem State.setWord_par (s : State) (a : Nat) (w : Word) : (s.setWord a w).par = s.par := (rfl)
@[simp] theorem State.setWord_ctl (s : State) (a : Nat) (w : Word) : (s.setWord a w).ctl = s.ctl := (rfl)
@[simp] theorem State.setWord_smbus (s : State) (a : Nat) (w : Word) : (s.setWord a w).smbus = s.smbus := (rfl)
@[simp] theorem State.setWord_opMin (s : State) (a : Nat) (w : Word) : (s.setWord a w).opMin = s.opMin := (rfl)
@[simp] theorem State.setWord_powerCycles (s : State) (a : Nat) (w : Word) : (s.setWord a w).powerCycles = s.powerCycles := (rfl)
@[simp] theorem State.setWord_boots (s : State) (a : Nat) (w : Word) : (s.setWord a w).boots = s.boots := (rfl)
@[simp] theorem State.setWord_linkUp (s : State) (a : Nat) (w : Word) : (s.setWord a w).linkUp = s.linkUp := (rfl)
@[simp] theorem State.setWord_linkSpeed (s : State) (a : Nat) (w : Word) : (s.setWord a w).linkSpeed = s.linkSpeed := (rfl)
@[simp] theorem State.setWord_linkWidth (s : State) (a : Nat) (w : Word) : (s.setWord a w).linkWidth = s.linkWidth := (rfl)

/-! ### State.setFld -/

@[simp] theorem State.setFld_pending (s : State) (f : Fld) (v : Nat) : (s.setFld f v).pending = s.pending := (rfl)
@[simp] theorem State.setFld_cnt (s : State) (f : Fld) (v : Nat) : (s.setFld f v).cnt = s.cnt := (rfl)
@[simp] theorem State.setFld_cyc (s : State) (f : Fld) (v : Nat) : (s.setFld f v).cyc = s.cyc := (rfl)
@[simp] theorem State.setFld_datum (s : State) (f : Fld) (v : Nat) : (s.setFld f v).datum = s.datum := (rfl)
@[simp] theorem State.setFld_free (s : State) (f : Fld) (v : Nat) : (s.setFld f v).free = s.free := (rfl)
@[simp] theorem State.setFld_holdOff (s : State) (f : Fld) (v : Nat) : (s.setFld f v).holdOff = s.holdOff := (rfl)
@[simp] theorem State.setFld_fns (s : State) (f : Fld) (v : Nat) : (s.setFld f v).fns = s.fns := (rfl)
@[simp] theorem State.setFld_waits (s : State) (f : Fld) (v : Nat) : (s.setFld f v).waits = s.waits := (rfl)
@[simp] theorem State.setFld_fbk (s : State) (f : Fld) (v : Nat) : (s.setFld f v).fbk = s.fbk := (rfl)
@[simp] theorem State.setFld_otp (s : State) (f : Fld) (v : Nat) : (s.setFld f v).otp = s.otp := (rfl)
@[simp] theorem State.setFld_saStat (s : State) (f : Fld) (v : Nat) : (s.setFld f v).saStat = s.saStat := (rfl)
@[simp] theorem State.setFld_qDrop (s : State) (f : Fld) (v : Nat) : (s.setFld f v).qDrop = s.qDrop := (rfl)
@[simp] theorem State.setFld_requests (s : State) (f : Fld) (v : Nat) : (s.setFld f v).requests = s.requests := (rfl)
@[simp] theorem State.setFld_rules (s : State) (f : Fld) (v : Nat) : (s.setFld f v).rules = s.rules := (rfl)
@[simp] theorem State.setFld_bypass (s : State) (f : Fld) (v : Nat) : (s.setFld f v).bypass = s.bypass := (rfl)
@[simp] theorem State.setFld_bypAt (s : State) (f : Fld) (v : Nat) : (s.setFld f v).bypAt = s.bypAt := (rfl)
@[simp] theorem State.setFld_polAt (s : State) (f : Fld) (v : Nat) : (s.setFld f v).polAt = s.polAt := (rfl)
@[simp] theorem State.setFld_sampAt (s : State) (f : Fld) (v : Nat) : (s.setFld f v).sampAt = s.sampAt := (rfl)
@[simp] theorem State.setFld_dat (s : State) (f : Fld) (v : Nat) : (s.setFld f v).dat = s.dat := (rfl)
@[simp] theorem State.setFld_plat (s : State) (f : Fld) (v : Nat) : (s.setFld f v).plat = s.plat := (rfl)
@[simp] theorem State.setFld_sec (s : State) (f : Fld) (v : Nat) : (s.setFld f v).sec = s.sec := (rfl)
@[simp] theorem State.setFld_hrt (s : State) (f : Fld) (v : Nat) : (s.setFld f v).hrt = s.hrt := (rfl)
@[simp] theorem State.setFld_frames (s : State) (f : Fld) (v : Nat) : (s.setFld f v).frames = s.frames := (rfl)
@[simp] theorem State.setFld_nextFrame (s : State) (f : Fld) (v : Nat) : (s.setFld f v).nextFrame = s.nextFrame := (rfl)
@[simp] theorem State.setFld_nextEnq (s : State) (f : Fld) (v : Nat) : (s.setFld f v).nextEnq = s.nextEnq := (rfl)
@[simp] theorem State.setFld_blw (s : State) (f : Fld) (v : Nat) : (s.setFld f v).blw = s.blw := (rfl)
@[simp] theorem State.setFld_gates (s : State) (f : Fld) (v : Nat) : (s.setFld f v).gates = s.gates := (rfl)
@[simp] theorem State.setFld_prt (s : State) (f : Fld) (v : Nat) : (s.setFld f v).prt = s.prt := (rfl)
@[simp] theorem State.setFld_anvIdle (s : State) (f : Fld) (v : Nat) : (s.setFld f v).anvIdle = s.anvIdle := (rfl)
@[simp] theorem State.setFld_anvKat (s : State) (f : Fld) (v : Nat) : (s.setFld f v).anvKat = s.anvKat := (rfl)
@[simp] theorem State.setFld_anvRet (s : State) (f : Fld) (v : Nat) : (s.setFld f v).anvRet = s.anvRet := (rfl)
@[simp] theorem State.setFld_anvWake (s : State) (f : Fld) (v : Nat) : (s.setFld f v).anvWake = s.anvWake := (rfl)
@[simp] theorem State.setFld_env (s : State) (f : Fld) (v : Nat) : (s.setFld f v).env = s.env := (rfl)
@[simp] theorem State.setFld_tie (s : State) (f : Fld) (v : Nat) : (s.setFld f v).tie = s.tie := (rfl)
@[simp] theorem State.setFld_ecc (s : State) (f : Fld) (v : Nat) : (s.setFld f v).ecc = s.ecc := (rfl)
@[simp] theorem State.setFld_tmp (s : State) (f : Fld) (v : Nat) : (s.setFld f v).tmp = s.tmp := (rfl)
@[simp] theorem State.setFld_par (s : State) (f : Fld) (v : Nat) : (s.setFld f v).par = s.par := (rfl)
@[simp] theorem State.setFld_ctl (s : State) (f : Fld) (v : Nat) : (s.setFld f v).ctl = s.ctl := (rfl)
@[simp] theorem State.setFld_smbus (s : State) (f : Fld) (v : Nat) : (s.setFld f v).smbus = s.smbus := (rfl)
@[simp] theorem State.setFld_opMin (s : State) (f : Fld) (v : Nat) : (s.setFld f v).opMin = s.opMin := (rfl)
@[simp] theorem State.setFld_powerCycles (s : State) (f : Fld) (v : Nat) : (s.setFld f v).powerCycles = s.powerCycles := (rfl)
@[simp] theorem State.setFld_boots (s : State) (f : Fld) (v : Nat) : (s.setFld f v).boots = s.boots := (rfl)
@[simp] theorem State.setFld_linkUp (s : State) (f : Fld) (v : Nat) : (s.setFld f v).linkUp = s.linkUp := (rfl)
@[simp] theorem State.setFld_linkSpeed (s : State) (f : Fld) (v : Nat) : (s.setFld f v).linkSpeed = s.linkSpeed := (rfl)
@[simp] theorem State.setFld_linkWidth (s : State) (f : Fld) (v : Nat) : (s.setFld f v).linkWidth = s.linkWidth := (rfl)

/-! ### State.setFlag -/

@[simp] theorem State.setFlag_pending (s : State) (f : Fld) (b : Bool) : (s.setFlag f b).pending = s.pending := (rfl)
@[simp] theorem State.setFlag_cnt (s : State) (f : Fld) (b : Bool) : (s.setFlag f b).cnt = s.cnt := (rfl)
@[simp] theorem State.setFlag_cyc (s : State) (f : Fld) (b : Bool) : (s.setFlag f b).cyc = s.cyc := (rfl)
@[simp] theorem State.setFlag_datum (s : State) (f : Fld) (b : Bool) : (s.setFlag f b).datum = s.datum := (rfl)
@[simp] theorem State.setFlag_free (s : State) (f : Fld) (b : Bool) : (s.setFlag f b).free = s.free := (rfl)
@[simp] theorem State.setFlag_holdOff (s : State) (f : Fld) (b : Bool) : (s.setFlag f b).holdOff = s.holdOff := (rfl)
@[simp] theorem State.setFlag_fns (s : State) (f : Fld) (b : Bool) : (s.setFlag f b).fns = s.fns := (rfl)
@[simp] theorem State.setFlag_waits (s : State) (f : Fld) (b : Bool) : (s.setFlag f b).waits = s.waits := (rfl)
@[simp] theorem State.setFlag_fbk (s : State) (f : Fld) (b : Bool) : (s.setFlag f b).fbk = s.fbk := (rfl)
@[simp] theorem State.setFlag_otp (s : State) (f : Fld) (b : Bool) : (s.setFlag f b).otp = s.otp := (rfl)
@[simp] theorem State.setFlag_saStat (s : State) (f : Fld) (b : Bool) : (s.setFlag f b).saStat = s.saStat := (rfl)
@[simp] theorem State.setFlag_qDrop (s : State) (f : Fld) (b : Bool) : (s.setFlag f b).qDrop = s.qDrop := (rfl)
@[simp] theorem State.setFlag_requests (s : State) (f : Fld) (b : Bool) : (s.setFlag f b).requests = s.requests := (rfl)
@[simp] theorem State.setFlag_rules (s : State) (f : Fld) (b : Bool) : (s.setFlag f b).rules = s.rules := (rfl)
@[simp] theorem State.setFlag_bypass (s : State) (f : Fld) (b : Bool) : (s.setFlag f b).bypass = s.bypass := (rfl)
@[simp] theorem State.setFlag_bypAt (s : State) (f : Fld) (b : Bool) : (s.setFlag f b).bypAt = s.bypAt := (rfl)
@[simp] theorem State.setFlag_polAt (s : State) (f : Fld) (b : Bool) : (s.setFlag f b).polAt = s.polAt := (rfl)
@[simp] theorem State.setFlag_sampAt (s : State) (f : Fld) (b : Bool) : (s.setFlag f b).sampAt = s.sampAt := (rfl)
@[simp] theorem State.setFlag_dat (s : State) (f : Fld) (b : Bool) : (s.setFlag f b).dat = s.dat := (rfl)
@[simp] theorem State.setFlag_plat (s : State) (f : Fld) (b : Bool) : (s.setFlag f b).plat = s.plat := (rfl)
@[simp] theorem State.setFlag_sec (s : State) (f : Fld) (b : Bool) : (s.setFlag f b).sec = s.sec := (rfl)
@[simp] theorem State.setFlag_hrt (s : State) (f : Fld) (b : Bool) : (s.setFlag f b).hrt = s.hrt := (rfl)
@[simp] theorem State.setFlag_frames (s : State) (f : Fld) (b : Bool) : (s.setFlag f b).frames = s.frames := (rfl)
@[simp] theorem State.setFlag_nextFrame (s : State) (f : Fld) (b : Bool) : (s.setFlag f b).nextFrame = s.nextFrame := (rfl)
@[simp] theorem State.setFlag_nextEnq (s : State) (f : Fld) (b : Bool) : (s.setFlag f b).nextEnq = s.nextEnq := (rfl)
@[simp] theorem State.setFlag_blw (s : State) (f : Fld) (b : Bool) : (s.setFlag f b).blw = s.blw := (rfl)
@[simp] theorem State.setFlag_gates (s : State) (f : Fld) (b : Bool) : (s.setFlag f b).gates = s.gates := (rfl)
@[simp] theorem State.setFlag_prt (s : State) (f : Fld) (b : Bool) : (s.setFlag f b).prt = s.prt := (rfl)
@[simp] theorem State.setFlag_anvIdle (s : State) (f : Fld) (b : Bool) : (s.setFlag f b).anvIdle = s.anvIdle := (rfl)
@[simp] theorem State.setFlag_anvKat (s : State) (f : Fld) (b : Bool) : (s.setFlag f b).anvKat = s.anvKat := (rfl)
@[simp] theorem State.setFlag_anvRet (s : State) (f : Fld) (b : Bool) : (s.setFlag f b).anvRet = s.anvRet := (rfl)
@[simp] theorem State.setFlag_anvWake (s : State) (f : Fld) (b : Bool) : (s.setFlag f b).anvWake = s.anvWake := (rfl)
@[simp] theorem State.setFlag_env (s : State) (f : Fld) (b : Bool) : (s.setFlag f b).env = s.env := (rfl)
@[simp] theorem State.setFlag_tie (s : State) (f : Fld) (b : Bool) : (s.setFlag f b).tie = s.tie := (rfl)
@[simp] theorem State.setFlag_ecc (s : State) (f : Fld) (b : Bool) : (s.setFlag f b).ecc = s.ecc := (rfl)
@[simp] theorem State.setFlag_tmp (s : State) (f : Fld) (b : Bool) : (s.setFlag f b).tmp = s.tmp := (rfl)
@[simp] theorem State.setFlag_par (s : State) (f : Fld) (b : Bool) : (s.setFlag f b).par = s.par := (rfl)
@[simp] theorem State.setFlag_ctl (s : State) (f : Fld) (b : Bool) : (s.setFlag f b).ctl = s.ctl := (rfl)
@[simp] theorem State.setFlag_smbus (s : State) (f : Fld) (b : Bool) : (s.setFlag f b).smbus = s.smbus := (rfl)
@[simp] theorem State.setFlag_opMin (s : State) (f : Fld) (b : Bool) : (s.setFlag f b).opMin = s.opMin := (rfl)
@[simp] theorem State.setFlag_powerCycles (s : State) (f : Fld) (b : Bool) : (s.setFlag f b).powerCycles = s.powerCycles := (rfl)
@[simp] theorem State.setFlag_boots (s : State) (f : Fld) (b : Bool) : (s.setFlag f b).boots = s.boots := (rfl)
@[simp] theorem State.setFlag_linkUp (s : State) (f : Fld) (b : Bool) : (s.setFlag f b).linkUp = s.linkUp := (rfl)
@[simp] theorem State.setFlag_linkSpeed (s : State) (f : Fld) (b : Bool) : (s.setFlag f b).linkSpeed = s.linkSpeed := (rfl)
@[simp] theorem State.setFlag_linkWidth (s : State) (f : Fld) (b : Bool) : (s.setFlag f b).linkWidth = s.linkWidth := (rfl)

/-! ### State.setCount -/

@[simp] theorem State.setCount_regs (s : State) (i : Nat) (v : BitVec 64) : (s.setCount i v).regs = s.regs := (rfl)
@[simp] theorem State.setCount_pending (s : State) (i : Nat) (v : BitVec 64) : (s.setCount i v).pending = s.pending := (rfl)
@[simp] theorem State.setCount_cyc (s : State) (i : Nat) (v : BitVec 64) : (s.setCount i v).cyc = s.cyc := (rfl)
@[simp] theorem State.setCount_datum (s : State) (i : Nat) (v : BitVec 64) : (s.setCount i v).datum = s.datum := (rfl)
@[simp] theorem State.setCount_free (s : State) (i : Nat) (v : BitVec 64) : (s.setCount i v).free = s.free := (rfl)
@[simp] theorem State.setCount_holdOff (s : State) (i : Nat) (v : BitVec 64) : (s.setCount i v).holdOff = s.holdOff := (rfl)
@[simp] theorem State.setCount_fns (s : State) (i : Nat) (v : BitVec 64) : (s.setCount i v).fns = s.fns := (rfl)
@[simp] theorem State.setCount_waits (s : State) (i : Nat) (v : BitVec 64) : (s.setCount i v).waits = s.waits := (rfl)
@[simp] theorem State.setCount_fbk (s : State) (i : Nat) (v : BitVec 64) : (s.setCount i v).fbk = s.fbk := (rfl)
@[simp] theorem State.setCount_otp (s : State) (i : Nat) (v : BitVec 64) : (s.setCount i v).otp = s.otp := (rfl)
@[simp] theorem State.setCount_saStat (s : State) (i : Nat) (v : BitVec 64) : (s.setCount i v).saStat = s.saStat := (rfl)
@[simp] theorem State.setCount_qDrop (s : State) (i : Nat) (v : BitVec 64) : (s.setCount i v).qDrop = s.qDrop := (rfl)
@[simp] theorem State.setCount_requests (s : State) (i : Nat) (v : BitVec 64) : (s.setCount i v).requests = s.requests := (rfl)
@[simp] theorem State.setCount_rules (s : State) (i : Nat) (v : BitVec 64) : (s.setCount i v).rules = s.rules := (rfl)
@[simp] theorem State.setCount_bypass (s : State) (i : Nat) (v : BitVec 64) : (s.setCount i v).bypass = s.bypass := (rfl)
@[simp] theorem State.setCount_bypAt (s : State) (i : Nat) (v : BitVec 64) : (s.setCount i v).bypAt = s.bypAt := (rfl)
@[simp] theorem State.setCount_polAt (s : State) (i : Nat) (v : BitVec 64) : (s.setCount i v).polAt = s.polAt := (rfl)
@[simp] theorem State.setCount_sampAt (s : State) (i : Nat) (v : BitVec 64) : (s.setCount i v).sampAt = s.sampAt := (rfl)
@[simp] theorem State.setCount_dat (s : State) (i : Nat) (v : BitVec 64) : (s.setCount i v).dat = s.dat := (rfl)
@[simp] theorem State.setCount_plat (s : State) (i : Nat) (v : BitVec 64) : (s.setCount i v).plat = s.plat := (rfl)
@[simp] theorem State.setCount_sec (s : State) (i : Nat) (v : BitVec 64) : (s.setCount i v).sec = s.sec := (rfl)
@[simp] theorem State.setCount_hrt (s : State) (i : Nat) (v : BitVec 64) : (s.setCount i v).hrt = s.hrt := (rfl)
@[simp] theorem State.setCount_frames (s : State) (i : Nat) (v : BitVec 64) : (s.setCount i v).frames = s.frames := (rfl)
@[simp] theorem State.setCount_nextFrame (s : State) (i : Nat) (v : BitVec 64) : (s.setCount i v).nextFrame = s.nextFrame := (rfl)
@[simp] theorem State.setCount_nextEnq (s : State) (i : Nat) (v : BitVec 64) : (s.setCount i v).nextEnq = s.nextEnq := (rfl)
@[simp] theorem State.setCount_blw (s : State) (i : Nat) (v : BitVec 64) : (s.setCount i v).blw = s.blw := (rfl)
@[simp] theorem State.setCount_gates (s : State) (i : Nat) (v : BitVec 64) : (s.setCount i v).gates = s.gates := (rfl)
@[simp] theorem State.setCount_prt (s : State) (i : Nat) (v : BitVec 64) : (s.setCount i v).prt = s.prt := (rfl)
@[simp] theorem State.setCount_anvIdle (s : State) (i : Nat) (v : BitVec 64) : (s.setCount i v).anvIdle = s.anvIdle := (rfl)
@[simp] theorem State.setCount_anvKat (s : State) (i : Nat) (v : BitVec 64) : (s.setCount i v).anvKat = s.anvKat := (rfl)
@[simp] theorem State.setCount_anvRet (s : State) (i : Nat) (v : BitVec 64) : (s.setCount i v).anvRet = s.anvRet := (rfl)
@[simp] theorem State.setCount_anvWake (s : State) (i : Nat) (v : BitVec 64) : (s.setCount i v).anvWake = s.anvWake := (rfl)
@[simp] theorem State.setCount_env (s : State) (i : Nat) (v : BitVec 64) : (s.setCount i v).env = s.env := (rfl)
@[simp] theorem State.setCount_tie (s : State) (i : Nat) (v : BitVec 64) : (s.setCount i v).tie = s.tie := (rfl)
@[simp] theorem State.setCount_ecc (s : State) (i : Nat) (v : BitVec 64) : (s.setCount i v).ecc = s.ecc := (rfl)
@[simp] theorem State.setCount_tmp (s : State) (i : Nat) (v : BitVec 64) : (s.setCount i v).tmp = s.tmp := (rfl)
@[simp] theorem State.setCount_par (s : State) (i : Nat) (v : BitVec 64) : (s.setCount i v).par = s.par := (rfl)
@[simp] theorem State.setCount_ctl (s : State) (i : Nat) (v : BitVec 64) : (s.setCount i v).ctl = s.ctl := (rfl)
@[simp] theorem State.setCount_smbus (s : State) (i : Nat) (v : BitVec 64) : (s.setCount i v).smbus = s.smbus := (rfl)
@[simp] theorem State.setCount_opMin (s : State) (i : Nat) (v : BitVec 64) : (s.setCount i v).opMin = s.opMin := (rfl)
@[simp] theorem State.setCount_powerCycles (s : State) (i : Nat) (v : BitVec 64) : (s.setCount i v).powerCycles = s.powerCycles := (rfl)
@[simp] theorem State.setCount_boots (s : State) (i : Nat) (v : BitVec 64) : (s.setCount i v).boots = s.boots := (rfl)
@[simp] theorem State.setCount_linkUp (s : State) (i : Nat) (v : BitVec 64) : (s.setCount i v).linkUp = s.linkUp := (rfl)
@[simp] theorem State.setCount_linkSpeed (s : State) (i : Nat) (v : BitVec 64) : (s.setCount i v).linkSpeed = s.linkSpeed := (rfl)
@[simp] theorem State.setCount_linkWidth (s : State) (i : Nat) (v : BitVec 64) : (s.setCount i v).linkWidth = s.linkWidth := (rfl)

/-! ### State.bumpBy -/

@[simp] theorem State.bumpBy_regs (s : State) (i n : Nat) : (s.bumpBy i n).regs = s.regs := (rfl)
@[simp] theorem State.bumpBy_pending (s : State) (i n : Nat) : (s.bumpBy i n).pending = s.pending := (rfl)
@[simp] theorem State.bumpBy_cyc (s : State) (i n : Nat) : (s.bumpBy i n).cyc = s.cyc := (rfl)
@[simp] theorem State.bumpBy_datum (s : State) (i n : Nat) : (s.bumpBy i n).datum = s.datum := (rfl)
@[simp] theorem State.bumpBy_free (s : State) (i n : Nat) : (s.bumpBy i n).free = s.free := (rfl)
@[simp] theorem State.bumpBy_holdOff (s : State) (i n : Nat) : (s.bumpBy i n).holdOff = s.holdOff := (rfl)
@[simp] theorem State.bumpBy_fns (s : State) (i n : Nat) : (s.bumpBy i n).fns = s.fns := (rfl)
@[simp] theorem State.bumpBy_waits (s : State) (i n : Nat) : (s.bumpBy i n).waits = s.waits := (rfl)
@[simp] theorem State.bumpBy_fbk (s : State) (i n : Nat) : (s.bumpBy i n).fbk = s.fbk := (rfl)
@[simp] theorem State.bumpBy_otp (s : State) (i n : Nat) : (s.bumpBy i n).otp = s.otp := (rfl)
@[simp] theorem State.bumpBy_saStat (s : State) (i n : Nat) : (s.bumpBy i n).saStat = s.saStat := (rfl)
@[simp] theorem State.bumpBy_qDrop (s : State) (i n : Nat) : (s.bumpBy i n).qDrop = s.qDrop := (rfl)
@[simp] theorem State.bumpBy_requests (s : State) (i n : Nat) : (s.bumpBy i n).requests = s.requests := (rfl)
@[simp] theorem State.bumpBy_rules (s : State) (i n : Nat) : (s.bumpBy i n).rules = s.rules := (rfl)
@[simp] theorem State.bumpBy_bypass (s : State) (i n : Nat) : (s.bumpBy i n).bypass = s.bypass := (rfl)
@[simp] theorem State.bumpBy_bypAt (s : State) (i n : Nat) : (s.bumpBy i n).bypAt = s.bypAt := (rfl)
@[simp] theorem State.bumpBy_polAt (s : State) (i n : Nat) : (s.bumpBy i n).polAt = s.polAt := (rfl)
@[simp] theorem State.bumpBy_sampAt (s : State) (i n : Nat) : (s.bumpBy i n).sampAt = s.sampAt := (rfl)
@[simp] theorem State.bumpBy_dat (s : State) (i n : Nat) : (s.bumpBy i n).dat = s.dat := (rfl)
@[simp] theorem State.bumpBy_plat (s : State) (i n : Nat) : (s.bumpBy i n).plat = s.plat := (rfl)
@[simp] theorem State.bumpBy_sec (s : State) (i n : Nat) : (s.bumpBy i n).sec = s.sec := (rfl)
@[simp] theorem State.bumpBy_hrt (s : State) (i n : Nat) : (s.bumpBy i n).hrt = s.hrt := (rfl)
@[simp] theorem State.bumpBy_frames (s : State) (i n : Nat) : (s.bumpBy i n).frames = s.frames := (rfl)
@[simp] theorem State.bumpBy_nextFrame (s : State) (i n : Nat) : (s.bumpBy i n).nextFrame = s.nextFrame := (rfl)
@[simp] theorem State.bumpBy_nextEnq (s : State) (i n : Nat) : (s.bumpBy i n).nextEnq = s.nextEnq := (rfl)
@[simp] theorem State.bumpBy_blw (s : State) (i n : Nat) : (s.bumpBy i n).blw = s.blw := (rfl)
@[simp] theorem State.bumpBy_gates (s : State) (i n : Nat) : (s.bumpBy i n).gates = s.gates := (rfl)
@[simp] theorem State.bumpBy_prt (s : State) (i n : Nat) : (s.bumpBy i n).prt = s.prt := (rfl)
@[simp] theorem State.bumpBy_anvIdle (s : State) (i n : Nat) : (s.bumpBy i n).anvIdle = s.anvIdle := (rfl)
@[simp] theorem State.bumpBy_anvKat (s : State) (i n : Nat) : (s.bumpBy i n).anvKat = s.anvKat := (rfl)
@[simp] theorem State.bumpBy_anvRet (s : State) (i n : Nat) : (s.bumpBy i n).anvRet = s.anvRet := (rfl)
@[simp] theorem State.bumpBy_anvWake (s : State) (i n : Nat) : (s.bumpBy i n).anvWake = s.anvWake := (rfl)
@[simp] theorem State.bumpBy_env (s : State) (i n : Nat) : (s.bumpBy i n).env = s.env := (rfl)
@[simp] theorem State.bumpBy_tie (s : State) (i n : Nat) : (s.bumpBy i n).tie = s.tie := (rfl)
@[simp] theorem State.bumpBy_ecc (s : State) (i n : Nat) : (s.bumpBy i n).ecc = s.ecc := (rfl)
@[simp] theorem State.bumpBy_tmp (s : State) (i n : Nat) : (s.bumpBy i n).tmp = s.tmp := (rfl)
@[simp] theorem State.bumpBy_par (s : State) (i n : Nat) : (s.bumpBy i n).par = s.par := (rfl)
@[simp] theorem State.bumpBy_ctl (s : State) (i n : Nat) : (s.bumpBy i n).ctl = s.ctl := (rfl)
@[simp] theorem State.bumpBy_smbus (s : State) (i n : Nat) : (s.bumpBy i n).smbus = s.smbus := (rfl)
@[simp] theorem State.bumpBy_opMin (s : State) (i n : Nat) : (s.bumpBy i n).opMin = s.opMin := (rfl)
@[simp] theorem State.bumpBy_powerCycles (s : State) (i n : Nat) : (s.bumpBy i n).powerCycles = s.powerCycles := (rfl)
@[simp] theorem State.bumpBy_boots (s : State) (i n : Nat) : (s.bumpBy i n).boots = s.boots := (rfl)
@[simp] theorem State.bumpBy_linkUp (s : State) (i n : Nat) : (s.bumpBy i n).linkUp = s.linkUp := (rfl)
@[simp] theorem State.bumpBy_linkSpeed (s : State) (i n : Nat) : (s.bumpBy i n).linkSpeed = s.linkSpeed := (rfl)
@[simp] theorem State.bumpBy_linkWidth (s : State) (i n : Nat) : (s.bumpBy i n).linkWidth = s.linkWidth := (rfl)

/-! ### State.bump -/

@[simp] theorem State.bump_regs (s : State) (i : Nat) : (s.bump i).regs = s.regs := (rfl)
@[simp] theorem State.bump_pending (s : State) (i : Nat) : (s.bump i).pending = s.pending := (rfl)
@[simp] theorem State.bump_cyc (s : State) (i : Nat) : (s.bump i).cyc = s.cyc := (rfl)
@[simp] theorem State.bump_datum (s : State) (i : Nat) : (s.bump i).datum = s.datum := (rfl)
@[simp] theorem State.bump_free (s : State) (i : Nat) : (s.bump i).free = s.free := (rfl)
@[simp] theorem State.bump_holdOff (s : State) (i : Nat) : (s.bump i).holdOff = s.holdOff := (rfl)
@[simp] theorem State.bump_fns (s : State) (i : Nat) : (s.bump i).fns = s.fns := (rfl)
@[simp] theorem State.bump_waits (s : State) (i : Nat) : (s.bump i).waits = s.waits := (rfl)
@[simp] theorem State.bump_fbk (s : State) (i : Nat) : (s.bump i).fbk = s.fbk := (rfl)
@[simp] theorem State.bump_otp (s : State) (i : Nat) : (s.bump i).otp = s.otp := (rfl)
@[simp] theorem State.bump_saStat (s : State) (i : Nat) : (s.bump i).saStat = s.saStat := (rfl)
@[simp] theorem State.bump_qDrop (s : State) (i : Nat) : (s.bump i).qDrop = s.qDrop := (rfl)
@[simp] theorem State.bump_requests (s : State) (i : Nat) : (s.bump i).requests = s.requests := (rfl)
@[simp] theorem State.bump_rules (s : State) (i : Nat) : (s.bump i).rules = s.rules := (rfl)
@[simp] theorem State.bump_bypass (s : State) (i : Nat) : (s.bump i).bypass = s.bypass := (rfl)
@[simp] theorem State.bump_bypAt (s : State) (i : Nat) : (s.bump i).bypAt = s.bypAt := (rfl)
@[simp] theorem State.bump_polAt (s : State) (i : Nat) : (s.bump i).polAt = s.polAt := (rfl)
@[simp] theorem State.bump_sampAt (s : State) (i : Nat) : (s.bump i).sampAt = s.sampAt := (rfl)
@[simp] theorem State.bump_dat (s : State) (i : Nat) : (s.bump i).dat = s.dat := (rfl)
@[simp] theorem State.bump_plat (s : State) (i : Nat) : (s.bump i).plat = s.plat := (rfl)
@[simp] theorem State.bump_sec (s : State) (i : Nat) : (s.bump i).sec = s.sec := (rfl)
@[simp] theorem State.bump_hrt (s : State) (i : Nat) : (s.bump i).hrt = s.hrt := (rfl)
@[simp] theorem State.bump_frames (s : State) (i : Nat) : (s.bump i).frames = s.frames := (rfl)
@[simp] theorem State.bump_nextFrame (s : State) (i : Nat) : (s.bump i).nextFrame = s.nextFrame := (rfl)
@[simp] theorem State.bump_nextEnq (s : State) (i : Nat) : (s.bump i).nextEnq = s.nextEnq := (rfl)
@[simp] theorem State.bump_blw (s : State) (i : Nat) : (s.bump i).blw = s.blw := (rfl)
@[simp] theorem State.bump_gates (s : State) (i : Nat) : (s.bump i).gates = s.gates := (rfl)
@[simp] theorem State.bump_prt (s : State) (i : Nat) : (s.bump i).prt = s.prt := (rfl)
@[simp] theorem State.bump_anvIdle (s : State) (i : Nat) : (s.bump i).anvIdle = s.anvIdle := (rfl)
@[simp] theorem State.bump_anvKat (s : State) (i : Nat) : (s.bump i).anvKat = s.anvKat := (rfl)
@[simp] theorem State.bump_anvRet (s : State) (i : Nat) : (s.bump i).anvRet = s.anvRet := (rfl)
@[simp] theorem State.bump_anvWake (s : State) (i : Nat) : (s.bump i).anvWake = s.anvWake := (rfl)
@[simp] theorem State.bump_env (s : State) (i : Nat) : (s.bump i).env = s.env := (rfl)
@[simp] theorem State.bump_tie (s : State) (i : Nat) : (s.bump i).tie = s.tie := (rfl)
@[simp] theorem State.bump_ecc (s : State) (i : Nat) : (s.bump i).ecc = s.ecc := (rfl)
@[simp] theorem State.bump_tmp (s : State) (i : Nat) : (s.bump i).tmp = s.tmp := (rfl)
@[simp] theorem State.bump_par (s : State) (i : Nat) : (s.bump i).par = s.par := (rfl)
@[simp] theorem State.bump_ctl (s : State) (i : Nat) : (s.bump i).ctl = s.ctl := (rfl)
@[simp] theorem State.bump_smbus (s : State) (i : Nat) : (s.bump i).smbus = s.smbus := (rfl)
@[simp] theorem State.bump_opMin (s : State) (i : Nat) : (s.bump i).opMin = s.opMin := (rfl)
@[simp] theorem State.bump_powerCycles (s : State) (i : Nat) : (s.bump i).powerCycles = s.powerCycles := (rfl)
@[simp] theorem State.bump_boots (s : State) (i : Nat) : (s.bump i).boots = s.boots := (rfl)
@[simp] theorem State.bump_linkUp (s : State) (i : Nat) : (s.bump i).linkUp = s.linkUp := (rfl)
@[simp] theorem State.bump_linkSpeed (s : State) (i : Nat) : (s.bump i).linkSpeed = s.linkSpeed := (rfl)
@[simp] theorem State.bump_linkWidth (s : State) (i : Nat) : (s.bump i).linkWidth = s.linkWidth := (rfl)

/-! ### State.drew -/

@[simp] theorem State.drew_regs (s : State) : (s.drew).regs = s.regs := (rfl)
@[simp] theorem State.drew_pending (s : State) : (s.drew).pending = s.pending := (rfl)
@[simp] theorem State.drew_cnt (s : State) : (s.drew).cnt = s.cnt := (rfl)
@[simp] theorem State.drew_cyc (s : State) : (s.drew).cyc = s.cyc := (rfl)
@[simp] theorem State.drew_datum (s : State) : (s.drew).datum = s.datum := (rfl)
@[simp] theorem State.drew_holdOff (s : State) : (s.drew).holdOff = s.holdOff := (rfl)
@[simp] theorem State.drew_fns (s : State) : (s.drew).fns = s.fns := (rfl)
@[simp] theorem State.drew_waits (s : State) : (s.drew).waits = s.waits := (rfl)
@[simp] theorem State.drew_fbk (s : State) : (s.drew).fbk = s.fbk := (rfl)
@[simp] theorem State.drew_otp (s : State) : (s.drew).otp = s.otp := (rfl)
@[simp] theorem State.drew_saStat (s : State) : (s.drew).saStat = s.saStat := (rfl)
@[simp] theorem State.drew_qDrop (s : State) : (s.drew).qDrop = s.qDrop := (rfl)
@[simp] theorem State.drew_requests (s : State) : (s.drew).requests = s.requests := (rfl)
@[simp] theorem State.drew_rules (s : State) : (s.drew).rules = s.rules := (rfl)
@[simp] theorem State.drew_bypass (s : State) : (s.drew).bypass = s.bypass := (rfl)
@[simp] theorem State.drew_bypAt (s : State) : (s.drew).bypAt = s.bypAt := (rfl)
@[simp] theorem State.drew_polAt (s : State) : (s.drew).polAt = s.polAt := (rfl)
@[simp] theorem State.drew_sampAt (s : State) : (s.drew).sampAt = s.sampAt := (rfl)
@[simp] theorem State.drew_dat (s : State) : (s.drew).dat = s.dat := (rfl)
@[simp] theorem State.drew_plat (s : State) : (s.drew).plat = s.plat := (rfl)
@[simp] theorem State.drew_sec (s : State) : (s.drew).sec = s.sec := (rfl)
@[simp] theorem State.drew_hrt (s : State) : (s.drew).hrt = s.hrt := (rfl)
@[simp] theorem State.drew_frames (s : State) : (s.drew).frames = s.frames := (rfl)
@[simp] theorem State.drew_nextFrame (s : State) : (s.drew).nextFrame = s.nextFrame := (rfl)
@[simp] theorem State.drew_nextEnq (s : State) : (s.drew).nextEnq = s.nextEnq := (rfl)
@[simp] theorem State.drew_blw (s : State) : (s.drew).blw = s.blw := (rfl)
@[simp] theorem State.drew_gates (s : State) : (s.drew).gates = s.gates := (rfl)
@[simp] theorem State.drew_prt (s : State) : (s.drew).prt = s.prt := (rfl)
@[simp] theorem State.drew_anvIdle (s : State) : (s.drew).anvIdle = s.anvIdle := (rfl)
@[simp] theorem State.drew_anvKat (s : State) : (s.drew).anvKat = s.anvKat := (rfl)
@[simp] theorem State.drew_anvRet (s : State) : (s.drew).anvRet = s.anvRet := (rfl)
@[simp] theorem State.drew_anvWake (s : State) : (s.drew).anvWake = s.anvWake := (rfl)
@[simp] theorem State.drew_env (s : State) : (s.drew).env = s.env := (rfl)
@[simp] theorem State.drew_tie (s : State) : (s.drew).tie = s.tie := (rfl)
@[simp] theorem State.drew_ecc (s : State) : (s.drew).ecc = s.ecc := (rfl)
@[simp] theorem State.drew_tmp (s : State) : (s.drew).tmp = s.tmp := (rfl)
@[simp] theorem State.drew_par (s : State) : (s.drew).par = s.par := (rfl)
@[simp] theorem State.drew_ctl (s : State) : (s.drew).ctl = s.ctl := (rfl)
@[simp] theorem State.drew_smbus (s : State) : (s.drew).smbus = s.smbus := (rfl)
@[simp] theorem State.drew_opMin (s : State) : (s.drew).opMin = s.opMin := (rfl)
@[simp] theorem State.drew_powerCycles (s : State) : (s.drew).powerCycles = s.powerCycles := (rfl)
@[simp] theorem State.drew_boots (s : State) : (s.drew).boots = s.boots := (rfl)
@[simp] theorem State.drew_linkUp (s : State) : (s.drew).linkUp = s.linkUp := (rfl)
@[simp] theorem State.drew_linkSpeed (s : State) : (s.drew).linkSpeed = s.linkSpeed := (rfl)
@[simp] theorem State.drew_linkWidth (s : State) : (s.drew).linkWidth = s.linkWidth := (rfl)

/-! ### State.setFn -/

@[simp] theorem State.setFn_regs (s : State) (f : Nat) (x : FnS) : (s.setFn f x).regs = s.regs := (rfl)
@[simp] theorem State.setFn_pending (s : State) (f : Nat) (x : FnS) : (s.setFn f x).pending = s.pending := (rfl)
@[simp] theorem State.setFn_cnt (s : State) (f : Nat) (x : FnS) : (s.setFn f x).cnt = s.cnt := (rfl)
@[simp] theorem State.setFn_cyc (s : State) (f : Nat) (x : FnS) : (s.setFn f x).cyc = s.cyc := (rfl)
@[simp] theorem State.setFn_datum (s : State) (f : Nat) (x : FnS) : (s.setFn f x).datum = s.datum := (rfl)
@[simp] theorem State.setFn_free (s : State) (f : Nat) (x : FnS) : (s.setFn f x).free = s.free := (rfl)
@[simp] theorem State.setFn_holdOff (s : State) (f : Nat) (x : FnS) : (s.setFn f x).holdOff = s.holdOff := (rfl)
@[simp] theorem State.setFn_waits (s : State) (f : Nat) (x : FnS) : (s.setFn f x).waits = s.waits := (rfl)
@[simp] theorem State.setFn_fbk (s : State) (f : Nat) (x : FnS) : (s.setFn f x).fbk = s.fbk := (rfl)
@[simp] theorem State.setFn_otp (s : State) (f : Nat) (x : FnS) : (s.setFn f x).otp = s.otp := (rfl)
@[simp] theorem State.setFn_saStat (s : State) (f : Nat) (x : FnS) : (s.setFn f x).saStat = s.saStat := (rfl)
@[simp] theorem State.setFn_qDrop (s : State) (f : Nat) (x : FnS) : (s.setFn f x).qDrop = s.qDrop := (rfl)
@[simp] theorem State.setFn_requests (s : State) (f : Nat) (x : FnS) : (s.setFn f x).requests = s.requests := (rfl)
@[simp] theorem State.setFn_rules (s : State) (f : Nat) (x : FnS) : (s.setFn f x).rules = s.rules := (rfl)
@[simp] theorem State.setFn_bypass (s : State) (f : Nat) (x : FnS) : (s.setFn f x).bypass = s.bypass := (rfl)
@[simp] theorem State.setFn_bypAt (s : State) (f : Nat) (x : FnS) : (s.setFn f x).bypAt = s.bypAt := (rfl)
@[simp] theorem State.setFn_polAt (s : State) (f : Nat) (x : FnS) : (s.setFn f x).polAt = s.polAt := (rfl)
@[simp] theorem State.setFn_sampAt (s : State) (f : Nat) (x : FnS) : (s.setFn f x).sampAt = s.sampAt := (rfl)
@[simp] theorem State.setFn_dat (s : State) (f : Nat) (x : FnS) : (s.setFn f x).dat = s.dat := (rfl)
@[simp] theorem State.setFn_plat (s : State) (f : Nat) (x : FnS) : (s.setFn f x).plat = s.plat := (rfl)
@[simp] theorem State.setFn_sec (s : State) (f : Nat) (x : FnS) : (s.setFn f x).sec = s.sec := (rfl)
@[simp] theorem State.setFn_hrt (s : State) (f : Nat) (x : FnS) : (s.setFn f x).hrt = s.hrt := (rfl)
@[simp] theorem State.setFn_frames (s : State) (f : Nat) (x : FnS) : (s.setFn f x).frames = s.frames := (rfl)
@[simp] theorem State.setFn_nextFrame (s : State) (f : Nat) (x : FnS) : (s.setFn f x).nextFrame = s.nextFrame := (rfl)
@[simp] theorem State.setFn_nextEnq (s : State) (f : Nat) (x : FnS) : (s.setFn f x).nextEnq = s.nextEnq := (rfl)
@[simp] theorem State.setFn_blw (s : State) (f : Nat) (x : FnS) : (s.setFn f x).blw = s.blw := (rfl)
@[simp] theorem State.setFn_gates (s : State) (f : Nat) (x : FnS) : (s.setFn f x).gates = s.gates := (rfl)
@[simp] theorem State.setFn_prt (s : State) (f : Nat) (x : FnS) : (s.setFn f x).prt = s.prt := (rfl)
@[simp] theorem State.setFn_anvIdle (s : State) (f : Nat) (x : FnS) : (s.setFn f x).anvIdle = s.anvIdle := (rfl)
@[simp] theorem State.setFn_anvKat (s : State) (f : Nat) (x : FnS) : (s.setFn f x).anvKat = s.anvKat := (rfl)
@[simp] theorem State.setFn_anvRet (s : State) (f : Nat) (x : FnS) : (s.setFn f x).anvRet = s.anvRet := (rfl)
@[simp] theorem State.setFn_anvWake (s : State) (f : Nat) (x : FnS) : (s.setFn f x).anvWake = s.anvWake := (rfl)
@[simp] theorem State.setFn_env (s : State) (f : Nat) (x : FnS) : (s.setFn f x).env = s.env := (rfl)
@[simp] theorem State.setFn_tie (s : State) (f : Nat) (x : FnS) : (s.setFn f x).tie = s.tie := (rfl)
@[simp] theorem State.setFn_ecc (s : State) (f : Nat) (x : FnS) : (s.setFn f x).ecc = s.ecc := (rfl)
@[simp] theorem State.setFn_tmp (s : State) (f : Nat) (x : FnS) : (s.setFn f x).tmp = s.tmp := (rfl)
@[simp] theorem State.setFn_par (s : State) (f : Nat) (x : FnS) : (s.setFn f x).par = s.par := (rfl)
@[simp] theorem State.setFn_ctl (s : State) (f : Nat) (x : FnS) : (s.setFn f x).ctl = s.ctl := (rfl)
@[simp] theorem State.setFn_smbus (s : State) (f : Nat) (x : FnS) : (s.setFn f x).smbus = s.smbus := (rfl)
@[simp] theorem State.setFn_opMin (s : State) (f : Nat) (x : FnS) : (s.setFn f x).opMin = s.opMin := (rfl)
@[simp] theorem State.setFn_powerCycles (s : State) (f : Nat) (x : FnS) : (s.setFn f x).powerCycles = s.powerCycles := (rfl)
@[simp] theorem State.setFn_boots (s : State) (f : Nat) (x : FnS) : (s.setFn f x).boots = s.boots := (rfl)
@[simp] theorem State.setFn_linkUp (s : State) (f : Nat) (x : FnS) : (s.setFn f x).linkUp = s.linkUp := (rfl)
@[simp] theorem State.setFn_linkSpeed (s : State) (f : Nat) (x : FnS) : (s.setFn f x).linkSpeed = s.linkSpeed := (rfl)
@[simp] theorem State.setFn_linkWidth (s : State) (f : Nat) (x : FnS) : (s.setFn f x).linkWidth = s.linkWidth := (rfl)

/-! ### State.setHold -/

@[simp] theorem State.setHold_regs (s : State) (n : Nat) (h : Option HoldOff) : (s.setHold n h).regs = s.regs := (rfl)
@[simp] theorem State.setHold_pending (s : State) (n : Nat) (h : Option HoldOff) : (s.setHold n h).pending = s.pending := (rfl)
@[simp] theorem State.setHold_cnt (s : State) (n : Nat) (h : Option HoldOff) : (s.setHold n h).cnt = s.cnt := (rfl)
@[simp] theorem State.setHold_cyc (s : State) (n : Nat) (h : Option HoldOff) : (s.setHold n h).cyc = s.cyc := (rfl)
@[simp] theorem State.setHold_datum (s : State) (n : Nat) (h : Option HoldOff) : (s.setHold n h).datum = s.datum := (rfl)
@[simp] theorem State.setHold_free (s : State) (n : Nat) (h : Option HoldOff) : (s.setHold n h).free = s.free := (rfl)
@[simp] theorem State.setHold_fns (s : State) (n : Nat) (h : Option HoldOff) : (s.setHold n h).fns = s.fns := (rfl)
@[simp] theorem State.setHold_waits (s : State) (n : Nat) (h : Option HoldOff) : (s.setHold n h).waits = s.waits := (rfl)
@[simp] theorem State.setHold_fbk (s : State) (n : Nat) (h : Option HoldOff) : (s.setHold n h).fbk = s.fbk := (rfl)
@[simp] theorem State.setHold_otp (s : State) (n : Nat) (h : Option HoldOff) : (s.setHold n h).otp = s.otp := (rfl)
@[simp] theorem State.setHold_saStat (s : State) (n : Nat) (h : Option HoldOff) : (s.setHold n h).saStat = s.saStat := (rfl)
@[simp] theorem State.setHold_qDrop (s : State) (n : Nat) (h : Option HoldOff) : (s.setHold n h).qDrop = s.qDrop := (rfl)
@[simp] theorem State.setHold_requests (s : State) (n : Nat) (h : Option HoldOff) : (s.setHold n h).requests = s.requests := (rfl)
@[simp] theorem State.setHold_rules (s : State) (n : Nat) (h : Option HoldOff) : (s.setHold n h).rules = s.rules := (rfl)
@[simp] theorem State.setHold_bypass (s : State) (n : Nat) (h : Option HoldOff) : (s.setHold n h).bypass = s.bypass := (rfl)
@[simp] theorem State.setHold_bypAt (s : State) (n : Nat) (h : Option HoldOff) : (s.setHold n h).bypAt = s.bypAt := (rfl)
@[simp] theorem State.setHold_polAt (s : State) (n : Nat) (h : Option HoldOff) : (s.setHold n h).polAt = s.polAt := (rfl)
@[simp] theorem State.setHold_sampAt (s : State) (n : Nat) (h : Option HoldOff) : (s.setHold n h).sampAt = s.sampAt := (rfl)
@[simp] theorem State.setHold_dat (s : State) (n : Nat) (h : Option HoldOff) : (s.setHold n h).dat = s.dat := (rfl)
@[simp] theorem State.setHold_plat (s : State) (n : Nat) (h : Option HoldOff) : (s.setHold n h).plat = s.plat := (rfl)
@[simp] theorem State.setHold_sec (s : State) (n : Nat) (h : Option HoldOff) : (s.setHold n h).sec = s.sec := (rfl)
@[simp] theorem State.setHold_hrt (s : State) (n : Nat) (h : Option HoldOff) : (s.setHold n h).hrt = s.hrt := (rfl)
@[simp] theorem State.setHold_frames (s : State) (n : Nat) (h : Option HoldOff) : (s.setHold n h).frames = s.frames := (rfl)
@[simp] theorem State.setHold_nextFrame (s : State) (n : Nat) (h : Option HoldOff) : (s.setHold n h).nextFrame = s.nextFrame := (rfl)
@[simp] theorem State.setHold_nextEnq (s : State) (n : Nat) (h : Option HoldOff) : (s.setHold n h).nextEnq = s.nextEnq := (rfl)
@[simp] theorem State.setHold_blw (s : State) (n : Nat) (h : Option HoldOff) : (s.setHold n h).blw = s.blw := (rfl)
@[simp] theorem State.setHold_gates (s : State) (n : Nat) (h : Option HoldOff) : (s.setHold n h).gates = s.gates := (rfl)
@[simp] theorem State.setHold_prt (s : State) (n : Nat) (h : Option HoldOff) : (s.setHold n h).prt = s.prt := (rfl)
@[simp] theorem State.setHold_anvIdle (s : State) (n : Nat) (h : Option HoldOff) : (s.setHold n h).anvIdle = s.anvIdle := (rfl)
@[simp] theorem State.setHold_anvKat (s : State) (n : Nat) (h : Option HoldOff) : (s.setHold n h).anvKat = s.anvKat := (rfl)
@[simp] theorem State.setHold_anvRet (s : State) (n : Nat) (h : Option HoldOff) : (s.setHold n h).anvRet = s.anvRet := (rfl)
@[simp] theorem State.setHold_anvWake (s : State) (n : Nat) (h : Option HoldOff) : (s.setHold n h).anvWake = s.anvWake := (rfl)
@[simp] theorem State.setHold_env (s : State) (n : Nat) (h : Option HoldOff) : (s.setHold n h).env = s.env := (rfl)
@[simp] theorem State.setHold_tie (s : State) (n : Nat) (h : Option HoldOff) : (s.setHold n h).tie = s.tie := (rfl)
@[simp] theorem State.setHold_ecc (s : State) (n : Nat) (h : Option HoldOff) : (s.setHold n h).ecc = s.ecc := (rfl)
@[simp] theorem State.setHold_tmp (s : State) (n : Nat) (h : Option HoldOff) : (s.setHold n h).tmp = s.tmp := (rfl)
@[simp] theorem State.setHold_par (s : State) (n : Nat) (h : Option HoldOff) : (s.setHold n h).par = s.par := (rfl)
@[simp] theorem State.setHold_ctl (s : State) (n : Nat) (h : Option HoldOff) : (s.setHold n h).ctl = s.ctl := (rfl)
@[simp] theorem State.setHold_smbus (s : State) (n : Nat) (h : Option HoldOff) : (s.setHold n h).smbus = s.smbus := (rfl)
@[simp] theorem State.setHold_opMin (s : State) (n : Nat) (h : Option HoldOff) : (s.setHold n h).opMin = s.opMin := (rfl)
@[simp] theorem State.setHold_powerCycles (s : State) (n : Nat) (h : Option HoldOff) : (s.setHold n h).powerCycles = s.powerCycles := (rfl)
@[simp] theorem State.setHold_boots (s : State) (n : Nat) (h : Option HoldOff) : (s.setHold n h).boots = s.boots := (rfl)
@[simp] theorem State.setHold_linkUp (s : State) (n : Nat) (h : Option HoldOff) : (s.setHold n h).linkUp = s.linkUp := (rfl)
@[simp] theorem State.setHold_linkSpeed (s : State) (n : Nat) (h : Option HoldOff) : (s.setHold n h).linkSpeed = s.linkSpeed := (rfl)
@[simp] theorem State.setHold_linkWidth (s : State) (n : Nat) (h : Option HoldOff) : (s.setHold n h).linkWidth = s.linkWidth := (rfl)

/-! ### State.request -/

@[simp] theorem State.request_regs (s : State) (l e v : Nat) : (s.request l e v).regs = s.regs := (rfl)
@[simp] theorem State.request_pending (s : State) (l e v : Nat) : (s.request l e v).pending = s.pending := (rfl)
@[simp] theorem State.request_cnt (s : State) (l e v : Nat) : (s.request l e v).cnt = s.cnt := (rfl)
@[simp] theorem State.request_cyc (s : State) (l e v : Nat) : (s.request l e v).cyc = s.cyc := (rfl)
@[simp] theorem State.request_datum (s : State) (l e v : Nat) : (s.request l e v).datum = s.datum := (rfl)
@[simp] theorem State.request_free (s : State) (l e v : Nat) : (s.request l e v).free = s.free := (rfl)
@[simp] theorem State.request_holdOff (s : State) (l e v : Nat) : (s.request l e v).holdOff = s.holdOff := (rfl)
@[simp] theorem State.request_fns (s : State) (l e v : Nat) : (s.request l e v).fns = s.fns := (rfl)
@[simp] theorem State.request_waits (s : State) (l e v : Nat) : (s.request l e v).waits = s.waits := (rfl)
@[simp] theorem State.request_fbk (s : State) (l e v : Nat) : (s.request l e v).fbk = s.fbk := (rfl)
@[simp] theorem State.request_otp (s : State) (l e v : Nat) : (s.request l e v).otp = s.otp := (rfl)
@[simp] theorem State.request_saStat (s : State) (l e v : Nat) : (s.request l e v).saStat = s.saStat := (rfl)
@[simp] theorem State.request_qDrop (s : State) (l e v : Nat) : (s.request l e v).qDrop = s.qDrop := (rfl)
@[simp] theorem State.request_rules (s : State) (l e v : Nat) : (s.request l e v).rules = s.rules := (rfl)
@[simp] theorem State.request_bypass (s : State) (l e v : Nat) : (s.request l e v).bypass = s.bypass := (rfl)
@[simp] theorem State.request_bypAt (s : State) (l e v : Nat) : (s.request l e v).bypAt = s.bypAt := (rfl)
@[simp] theorem State.request_polAt (s : State) (l e v : Nat) : (s.request l e v).polAt = s.polAt := (rfl)
@[simp] theorem State.request_sampAt (s : State) (l e v : Nat) : (s.request l e v).sampAt = s.sampAt := (rfl)
@[simp] theorem State.request_dat (s : State) (l e v : Nat) : (s.request l e v).dat = s.dat := (rfl)
@[simp] theorem State.request_plat (s : State) (l e v : Nat) : (s.request l e v).plat = s.plat := (rfl)
@[simp] theorem State.request_sec (s : State) (l e v : Nat) : (s.request l e v).sec = s.sec := (rfl)
@[simp] theorem State.request_hrt (s : State) (l e v : Nat) : (s.request l e v).hrt = s.hrt := (rfl)
@[simp] theorem State.request_frames (s : State) (l e v : Nat) : (s.request l e v).frames = s.frames := (rfl)
@[simp] theorem State.request_nextFrame (s : State) (l e v : Nat) : (s.request l e v).nextFrame = s.nextFrame := (rfl)
@[simp] theorem State.request_nextEnq (s : State) (l e v : Nat) : (s.request l e v).nextEnq = s.nextEnq := (rfl)
@[simp] theorem State.request_blw (s : State) (l e v : Nat) : (s.request l e v).blw = s.blw := (rfl)
@[simp] theorem State.request_gates (s : State) (l e v : Nat) : (s.request l e v).gates = s.gates := (rfl)
@[simp] theorem State.request_prt (s : State) (l e v : Nat) : (s.request l e v).prt = s.prt := (rfl)
@[simp] theorem State.request_anvIdle (s : State) (l e v : Nat) : (s.request l e v).anvIdle = s.anvIdle := (rfl)
@[simp] theorem State.request_anvKat (s : State) (l e v : Nat) : (s.request l e v).anvKat = s.anvKat := (rfl)
@[simp] theorem State.request_anvRet (s : State) (l e v : Nat) : (s.request l e v).anvRet = s.anvRet := (rfl)
@[simp] theorem State.request_anvWake (s : State) (l e v : Nat) : (s.request l e v).anvWake = s.anvWake := (rfl)
@[simp] theorem State.request_env (s : State) (l e v : Nat) : (s.request l e v).env = s.env := (rfl)
@[simp] theorem State.request_tie (s : State) (l e v : Nat) : (s.request l e v).tie = s.tie := (rfl)
@[simp] theorem State.request_ecc (s : State) (l e v : Nat) : (s.request l e v).ecc = s.ecc := (rfl)
@[simp] theorem State.request_tmp (s : State) (l e v : Nat) : (s.request l e v).tmp = s.tmp := (rfl)
@[simp] theorem State.request_par (s : State) (l e v : Nat) : (s.request l e v).par = s.par := (rfl)
@[simp] theorem State.request_ctl (s : State) (l e v : Nat) : (s.request l e v).ctl = s.ctl := (rfl)
@[simp] theorem State.request_smbus (s : State) (l e v : Nat) : (s.request l e v).smbus = s.smbus := (rfl)
@[simp] theorem State.request_opMin (s : State) (l e v : Nat) : (s.request l e v).opMin = s.opMin := (rfl)
@[simp] theorem State.request_powerCycles (s : State) (l e v : Nat) : (s.request l e v).powerCycles = s.powerCycles := (rfl)
@[simp] theorem State.request_boots (s : State) (l e v : Nat) : (s.request l e v).boots = s.boots := (rfl)
@[simp] theorem State.request_linkUp (s : State) (l e v : Nat) : (s.request l e v).linkUp = s.linkUp := (rfl)
@[simp] theorem State.request_linkSpeed (s : State) (l e v : Nat) : (s.request l e v).linkSpeed = s.linkSpeed := (rfl)
@[simp] theorem State.request_linkWidth (s : State) (l e v : Nat) : (s.request l e v).linkWidth = s.linkWidth := (rfl)

/-! ### State.noteFault -/

@[simp] theorem State.noteFault_regs (s : State) (k : Nat) : (s.noteFault k).regs = s.regs := (rfl)
@[simp] theorem State.noteFault_pending (s : State) (k : Nat) : (s.noteFault k).pending = s.pending := (rfl)
@[simp] theorem State.noteFault_cnt (s : State) (k : Nat) : (s.noteFault k).cnt = s.cnt := (rfl)
@[simp] theorem State.noteFault_cyc (s : State) (k : Nat) : (s.noteFault k).cyc = s.cyc := (rfl)
@[simp] theorem State.noteFault_datum (s : State) (k : Nat) : (s.noteFault k).datum = s.datum := (rfl)
@[simp] theorem State.noteFault_free (s : State) (k : Nat) : (s.noteFault k).free = s.free := (rfl)
@[simp] theorem State.noteFault_holdOff (s : State) (k : Nat) : (s.noteFault k).holdOff = s.holdOff := (rfl)
@[simp] theorem State.noteFault_fns (s : State) (k : Nat) : (s.noteFault k).fns = s.fns := (rfl)
@[simp] theorem State.noteFault_waits (s : State) (k : Nat) : (s.noteFault k).waits = s.waits := (rfl)
@[simp] theorem State.noteFault_fbk (s : State) (k : Nat) : (s.noteFault k).fbk = s.fbk := (rfl)
@[simp] theorem State.noteFault_otp (s : State) (k : Nat) : (s.noteFault k).otp = s.otp := (rfl)
@[simp] theorem State.noteFault_saStat (s : State) (k : Nat) : (s.noteFault k).saStat = s.saStat := (rfl)
@[simp] theorem State.noteFault_qDrop (s : State) (k : Nat) : (s.noteFault k).qDrop = s.qDrop := (rfl)
@[simp] theorem State.noteFault_requests (s : State) (k : Nat) : (s.noteFault k).requests = s.requests := (rfl)
@[simp] theorem State.noteFault_rules (s : State) (k : Nat) : (s.noteFault k).rules = s.rules := (rfl)
@[simp] theorem State.noteFault_bypass (s : State) (k : Nat) : (s.noteFault k).bypass = s.bypass := (rfl)
@[simp] theorem State.noteFault_bypAt (s : State) (k : Nat) : (s.noteFault k).bypAt = s.bypAt := (rfl)
@[simp] theorem State.noteFault_polAt (s : State) (k : Nat) : (s.noteFault k).polAt = s.polAt := (rfl)
@[simp] theorem State.noteFault_sampAt (s : State) (k : Nat) : (s.noteFault k).sampAt = s.sampAt := (rfl)
@[simp] theorem State.noteFault_dat (s : State) (k : Nat) : (s.noteFault k).dat = s.dat := (rfl)
@[simp] theorem State.noteFault_plat (s : State) (k : Nat) : (s.noteFault k).plat = s.plat := (rfl)
@[simp] theorem State.noteFault_sec (s : State) (k : Nat) : (s.noteFault k).sec = s.sec := (rfl)
@[simp] theorem State.noteFault_hrt (s : State) (k : Nat) : (s.noteFault k).hrt = s.hrt := (rfl)
@[simp] theorem State.noteFault_frames (s : State) (k : Nat) : (s.noteFault k).frames = s.frames := (rfl)
@[simp] theorem State.noteFault_nextFrame (s : State) (k : Nat) : (s.noteFault k).nextFrame = s.nextFrame := (rfl)
@[simp] theorem State.noteFault_nextEnq (s : State) (k : Nat) : (s.noteFault k).nextEnq = s.nextEnq := (rfl)
@[simp] theorem State.noteFault_blw (s : State) (k : Nat) : (s.noteFault k).blw = s.blw := (rfl)
@[simp] theorem State.noteFault_gates (s : State) (k : Nat) : (s.noteFault k).gates = s.gates := (rfl)
@[simp] theorem State.noteFault_prt (s : State) (k : Nat) : (s.noteFault k).prt = s.prt := (rfl)
@[simp] theorem State.noteFault_anvIdle (s : State) (k : Nat) : (s.noteFault k).anvIdle = s.anvIdle := (rfl)
@[simp] theorem State.noteFault_anvKat (s : State) (k : Nat) : (s.noteFault k).anvKat = s.anvKat := (rfl)
@[simp] theorem State.noteFault_anvRet (s : State) (k : Nat) : (s.noteFault k).anvRet = s.anvRet := (rfl)
@[simp] theorem State.noteFault_anvWake (s : State) (k : Nat) : (s.noteFault k).anvWake = s.anvWake := (rfl)
@[simp] theorem State.noteFault_env (s : State) (k : Nat) : (s.noteFault k).env = s.env := (rfl)
@[simp] theorem State.noteFault_ecc (s : State) (k : Nat) : (s.noteFault k).ecc = s.ecc := (rfl)
@[simp] theorem State.noteFault_tmp (s : State) (k : Nat) : (s.noteFault k).tmp = s.tmp := (rfl)
@[simp] theorem State.noteFault_par (s : State) (k : Nat) : (s.noteFault k).par = s.par := (rfl)
@[simp] theorem State.noteFault_ctl (s : State) (k : Nat) : (s.noteFault k).ctl = s.ctl := (rfl)
@[simp] theorem State.noteFault_smbus (s : State) (k : Nat) : (s.noteFault k).smbus = s.smbus := (rfl)
@[simp] theorem State.noteFault_opMin (s : State) (k : Nat) : (s.noteFault k).opMin = s.opMin := (rfl)
@[simp] theorem State.noteFault_powerCycles (s : State) (k : Nat) : (s.noteFault k).powerCycles = s.powerCycles := (rfl)
@[simp] theorem State.noteFault_boots (s : State) (k : Nat) : (s.noteFault k).boots = s.boots := (rfl)
@[simp] theorem State.noteFault_linkUp (s : State) (k : Nat) : (s.noteFault k).linkUp = s.linkUp := (rfl)
@[simp] theorem State.noteFault_linkSpeed (s : State) (k : Nat) : (s.noteFault k).linkSpeed = s.linkSpeed := (rfl)
@[simp] theorem State.noteFault_linkWidth (s : State) (k : Nat) : (s.noteFault k).linkWidth = s.linkWidth := (rfl)

/-! ### State.tieSend -/

@[simp] theorem State.tieSend_regs (s : State) (m : TieOut) : (s.tieSend m).regs = s.regs := (rfl)
@[simp] theorem State.tieSend_pending (s : State) (m : TieOut) : (s.tieSend m).pending = s.pending := (rfl)
@[simp] theorem State.tieSend_cnt (s : State) (m : TieOut) : (s.tieSend m).cnt = s.cnt := (rfl)
@[simp] theorem State.tieSend_cyc (s : State) (m : TieOut) : (s.tieSend m).cyc = s.cyc := (rfl)
@[simp] theorem State.tieSend_datum (s : State) (m : TieOut) : (s.tieSend m).datum = s.datum := (rfl)
@[simp] theorem State.tieSend_free (s : State) (m : TieOut) : (s.tieSend m).free = s.free := (rfl)
@[simp] theorem State.tieSend_holdOff (s : State) (m : TieOut) : (s.tieSend m).holdOff = s.holdOff := (rfl)
@[simp] theorem State.tieSend_fns (s : State) (m : TieOut) : (s.tieSend m).fns = s.fns := (rfl)
@[simp] theorem State.tieSend_waits (s : State) (m : TieOut) : (s.tieSend m).waits = s.waits := (rfl)
@[simp] theorem State.tieSend_fbk (s : State) (m : TieOut) : (s.tieSend m).fbk = s.fbk := (rfl)
@[simp] theorem State.tieSend_otp (s : State) (m : TieOut) : (s.tieSend m).otp = s.otp := (rfl)
@[simp] theorem State.tieSend_saStat (s : State) (m : TieOut) : (s.tieSend m).saStat = s.saStat := (rfl)
@[simp] theorem State.tieSend_qDrop (s : State) (m : TieOut) : (s.tieSend m).qDrop = s.qDrop := (rfl)
@[simp] theorem State.tieSend_requests (s : State) (m : TieOut) : (s.tieSend m).requests = s.requests := (rfl)
@[simp] theorem State.tieSend_rules (s : State) (m : TieOut) : (s.tieSend m).rules = s.rules := (rfl)
@[simp] theorem State.tieSend_bypass (s : State) (m : TieOut) : (s.tieSend m).bypass = s.bypass := (rfl)
@[simp] theorem State.tieSend_bypAt (s : State) (m : TieOut) : (s.tieSend m).bypAt = s.bypAt := (rfl)
@[simp] theorem State.tieSend_polAt (s : State) (m : TieOut) : (s.tieSend m).polAt = s.polAt := (rfl)
@[simp] theorem State.tieSend_sampAt (s : State) (m : TieOut) : (s.tieSend m).sampAt = s.sampAt := (rfl)
@[simp] theorem State.tieSend_dat (s : State) (m : TieOut) : (s.tieSend m).dat = s.dat := (rfl)
@[simp] theorem State.tieSend_plat (s : State) (m : TieOut) : (s.tieSend m).plat = s.plat := (rfl)
@[simp] theorem State.tieSend_sec (s : State) (m : TieOut) : (s.tieSend m).sec = s.sec := (rfl)
@[simp] theorem State.tieSend_hrt (s : State) (m : TieOut) : (s.tieSend m).hrt = s.hrt := (rfl)
@[simp] theorem State.tieSend_frames (s : State) (m : TieOut) : (s.tieSend m).frames = s.frames := (rfl)
@[simp] theorem State.tieSend_nextFrame (s : State) (m : TieOut) : (s.tieSend m).nextFrame = s.nextFrame := (rfl)
@[simp] theorem State.tieSend_nextEnq (s : State) (m : TieOut) : (s.tieSend m).nextEnq = s.nextEnq := (rfl)
@[simp] theorem State.tieSend_blw (s : State) (m : TieOut) : (s.tieSend m).blw = s.blw := (rfl)
@[simp] theorem State.tieSend_gates (s : State) (m : TieOut) : (s.tieSend m).gates = s.gates := (rfl)
@[simp] theorem State.tieSend_prt (s : State) (m : TieOut) : (s.tieSend m).prt = s.prt := (rfl)
@[simp] theorem State.tieSend_anvIdle (s : State) (m : TieOut) : (s.tieSend m).anvIdle = s.anvIdle := (rfl)
@[simp] theorem State.tieSend_anvKat (s : State) (m : TieOut) : (s.tieSend m).anvKat = s.anvKat := (rfl)
@[simp] theorem State.tieSend_anvRet (s : State) (m : TieOut) : (s.tieSend m).anvRet = s.anvRet := (rfl)
@[simp] theorem State.tieSend_anvWake (s : State) (m : TieOut) : (s.tieSend m).anvWake = s.anvWake := (rfl)
@[simp] theorem State.tieSend_env (s : State) (m : TieOut) : (s.tieSend m).env = s.env := (rfl)
@[simp] theorem State.tieSend_ecc (s : State) (m : TieOut) : (s.tieSend m).ecc = s.ecc := (rfl)
@[simp] theorem State.tieSend_tmp (s : State) (m : TieOut) : (s.tieSend m).tmp = s.tmp := (rfl)
@[simp] theorem State.tieSend_par (s : State) (m : TieOut) : (s.tieSend m).par = s.par := (rfl)
@[simp] theorem State.tieSend_ctl (s : State) (m : TieOut) : (s.tieSend m).ctl = s.ctl := (rfl)
@[simp] theorem State.tieSend_smbus (s : State) (m : TieOut) : (s.tieSend m).smbus = s.smbus := (rfl)
@[simp] theorem State.tieSend_opMin (s : State) (m : TieOut) : (s.tieSend m).opMin = s.opMin := (rfl)
@[simp] theorem State.tieSend_powerCycles (s : State) (m : TieOut) : (s.tieSend m).powerCycles = s.powerCycles := (rfl)
@[simp] theorem State.tieSend_boots (s : State) (m : TieOut) : (s.tieSend m).boots = s.boots := (rfl)
@[simp] theorem State.tieSend_linkUp (s : State) (m : TieOut) : (s.tieSend m).linkUp = s.linkUp := (rfl)
@[simp] theorem State.tieSend_linkSpeed (s : State) (m : TieOut) : (s.tieSend m).linkSpeed = s.linkSpeed := (rfl)
@[simp] theorem State.tieSend_linkWidth (s : State) (m : TieOut) : (s.tieSend m).linkWidth = s.linkWidth := (rfl)

/-! ### State.quenched -/

@[simp] theorem State.quenched_pending (s : State) (c : Nat) : (s.quenched c).pending = s.pending := by simp only [State.quenched, State.drew_pending, State.setFld_pending]
@[simp] theorem State.quenched_cnt (s : State) (c : Nat) : (s.quenched c).cnt = s.cnt := by simp only [State.quenched, State.drew_cnt, State.setFld_cnt]
@[simp] theorem State.quenched_cyc (s : State) (c : Nat) : (s.quenched c).cyc = s.cyc := by simp only [State.quenched, State.drew_cyc, State.setFld_cyc]
@[simp] theorem State.quenched_datum (s : State) (c : Nat) : (s.quenched c).datum = s.datum := by simp only [State.quenched, State.drew_datum, State.setFld_datum]
@[simp] theorem State.quenched_holdOff (s : State) (c : Nat) : (s.quenched c).holdOff = s.holdOff := by simp only [State.quenched, State.drew_holdOff, State.setFld_holdOff]
@[simp] theorem State.quenched_fns (s : State) (c : Nat) : (s.quenched c).fns = s.fns := by simp only [State.quenched, State.drew_fns, State.setFld_fns]
@[simp] theorem State.quenched_waits (s : State) (c : Nat) : (s.quenched c).waits = s.waits := by simp only [State.quenched, State.drew_waits, State.setFld_waits]
@[simp] theorem State.quenched_fbk (s : State) (c : Nat) : (s.quenched c).fbk = s.fbk := by simp only [State.quenched, State.drew_fbk, State.setFld_fbk]
@[simp] theorem State.quenched_otp (s : State) (c : Nat) : (s.quenched c).otp = s.otp := by simp only [State.quenched, State.drew_otp, State.setFld_otp]
@[simp] theorem State.quenched_saStat (s : State) (c : Nat) : (s.quenched c).saStat = s.saStat := by simp only [State.quenched, State.drew_saStat, State.setFld_saStat]
@[simp] theorem State.quenched_qDrop (s : State) (c : Nat) : (s.quenched c).qDrop = s.qDrop := by simp only [State.quenched, State.drew_qDrop, State.setFld_qDrop]
@[simp] theorem State.quenched_requests (s : State) (c : Nat) : (s.quenched c).requests = s.requests := by simp only [State.quenched, State.drew_requests, State.setFld_requests]
@[simp] theorem State.quenched_rules (s : State) (c : Nat) : (s.quenched c).rules = s.rules := by simp only [State.quenched, State.drew_rules, State.setFld_rules]
@[simp] theorem State.quenched_bypass (s : State) (c : Nat) : (s.quenched c).bypass = s.bypass := by simp only [State.quenched, State.drew_bypass, State.setFld_bypass]
@[simp] theorem State.quenched_bypAt (s : State) (c : Nat) : (s.quenched c).bypAt = s.bypAt := by simp only [State.quenched, State.drew_bypAt, State.setFld_bypAt]
@[simp] theorem State.quenched_polAt (s : State) (c : Nat) : (s.quenched c).polAt = s.polAt := by simp only [State.quenched, State.drew_polAt, State.setFld_polAt]
@[simp] theorem State.quenched_sampAt (s : State) (c : Nat) : (s.quenched c).sampAt = s.sampAt := by simp only [State.quenched, State.drew_sampAt, State.setFld_sampAt]
@[simp] theorem State.quenched_dat (s : State) (c : Nat) : (s.quenched c).dat = s.dat := by simp only [State.quenched, State.drew_dat, State.setFld_dat]
@[simp] theorem State.quenched_plat (s : State) (c : Nat) : (s.quenched c).plat = s.plat := by simp only [State.quenched, State.drew_plat, State.setFld_plat]
@[simp] theorem State.quenched_sec (s : State) (c : Nat) : (s.quenched c).sec = s.sec := by simp only [State.quenched, State.drew_sec, State.setFld_sec]
@[simp] theorem State.quenched_hrt (s : State) (c : Nat) : (s.quenched c).hrt = s.hrt := by simp only [State.quenched, State.drew_hrt, State.setFld_hrt]
@[simp] theorem State.quenched_frames (s : State) (c : Nat) : (s.quenched c).frames = s.frames := by simp only [State.quenched, State.drew_frames, State.setFld_frames]
@[simp] theorem State.quenched_nextFrame (s : State) (c : Nat) : (s.quenched c).nextFrame = s.nextFrame := by simp only [State.quenched, State.drew_nextFrame, State.setFld_nextFrame]
@[simp] theorem State.quenched_nextEnq (s : State) (c : Nat) : (s.quenched c).nextEnq = s.nextEnq := by simp only [State.quenched, State.drew_nextEnq, State.setFld_nextEnq]
@[simp] theorem State.quenched_blw (s : State) (c : Nat) : (s.quenched c).blw = s.blw := by simp only [State.quenched, State.drew_blw, State.setFld_blw]
@[simp] theorem State.quenched_gates (s : State) (c : Nat) : (s.quenched c).gates = s.gates := by simp only [State.quenched, State.drew_gates, State.setFld_gates]
@[simp] theorem State.quenched_prt (s : State) (c : Nat) : (s.quenched c).prt = s.prt := by simp only [State.quenched, State.drew_prt, State.setFld_prt]
@[simp] theorem State.quenched_anvIdle (s : State) (c : Nat) : (s.quenched c).anvIdle = s.anvIdle := by simp only [State.quenched, State.drew_anvIdle, State.setFld_anvIdle]
@[simp] theorem State.quenched_anvKat (s : State) (c : Nat) : (s.quenched c).anvKat = s.anvKat := by simp only [State.quenched, State.drew_anvKat, State.setFld_anvKat]
@[simp] theorem State.quenched_anvRet (s : State) (c : Nat) : (s.quenched c).anvRet = s.anvRet := by simp only [State.quenched, State.drew_anvRet, State.setFld_anvRet]
@[simp] theorem State.quenched_anvWake (s : State) (c : Nat) : (s.quenched c).anvWake = s.anvWake := by simp only [State.quenched, State.drew_anvWake, State.setFld_anvWake]
@[simp] theorem State.quenched_env (s : State) (c : Nat) : (s.quenched c).env = s.env := by simp only [State.quenched, State.drew_env, State.setFld_env]
@[simp] theorem State.quenched_tie (s : State) (c : Nat) : (s.quenched c).tie = s.tie := by simp only [State.quenched, State.drew_tie, State.setFld_tie]
@[simp] theorem State.quenched_ecc (s : State) (c : Nat) : (s.quenched c).ecc = s.ecc := by simp only [State.quenched, State.drew_ecc, State.setFld_ecc]
@[simp] theorem State.quenched_tmp (s : State) (c : Nat) : (s.quenched c).tmp = s.tmp := by simp only [State.quenched, State.drew_tmp, State.setFld_tmp]
@[simp] theorem State.quenched_par (s : State) (c : Nat) : (s.quenched c).par = s.par := by simp only [State.quenched, State.drew_par, State.setFld_par]
@[simp] theorem State.quenched_ctl (s : State) (c : Nat) : (s.quenched c).ctl = s.ctl := by simp only [State.quenched, State.drew_ctl, State.setFld_ctl]
@[simp] theorem State.quenched_smbus (s : State) (c : Nat) : (s.quenched c).smbus = s.smbus := by simp only [State.quenched, State.drew_smbus, State.setFld_smbus]
@[simp] theorem State.quenched_opMin (s : State) (c : Nat) : (s.quenched c).opMin = s.opMin := by simp only [State.quenched, State.drew_opMin, State.setFld_opMin]
@[simp] theorem State.quenched_powerCycles (s : State) (c : Nat) : (s.quenched c).powerCycles = s.powerCycles := by simp only [State.quenched, State.drew_powerCycles, State.setFld_powerCycles]
@[simp] theorem State.quenched_boots (s : State) (c : Nat) : (s.quenched c).boots = s.boots := by simp only [State.quenched, State.drew_boots, State.setFld_boots]
@[simp] theorem State.quenched_linkUp (s : State) (c : Nat) : (s.quenched c).linkUp = s.linkUp := by simp only [State.quenched, State.drew_linkUp, State.setFld_linkUp]
@[simp] theorem State.quenched_linkSpeed (s : State) (c : Nat) : (s.quenched c).linkSpeed = s.linkSpeed := by simp only [State.quenched, State.drew_linkSpeed, State.setFld_linkSpeed]
@[simp] theorem State.quenched_linkWidth (s : State) (c : Nat) : (s.quenched c).linkWidth = s.linkWidth := by simp only [State.quenched, State.drew_linkWidth, State.setFld_linkWidth]

end Sys2Proof.Machine
end

