-- ==== Sys2Proof/Laws/Tab.lean ====
section
/-! SUPPORT. Laws/Tab.lean: what reading a table gives after a write, and that writes keep its canonical form. -/

namespace Sys2Proof.Machine

variable {α : Type}

theorem tabGet_tabDel_same (d : α) (t : Tab α) (n : Nat) : tabGet d (tabDel t n) n = d := by
  induction t with
  | nil => rfl
  | cons e t ih =>
    obtain ⟨k, v⟩ := e
    by_cases h : n = k
    · simpa [tabDel, h] using (h ▸ ih)
    · simpa [tabDel, tabGet, h] using ih

theorem tabGet_tabDel_ne (d : α) (t : Tab α) {n m : Nat} (h : m ≠ n) : tabGet d (tabDel t n) m = tabGet d t m := by
  induction t with
  | nil => rfl
  | cons e t ih =>
    obtain ⟨k, v⟩ := e
    by_cases hk : n = k
    · subst hk
      simpa [tabDel, tabGet, h] using ih
    · by_cases hm : m = k <;> simp [tabDel, tabGet, hk, hm, ih]

theorem tabGet_tabPut_same (d : α) (t : Tab α) (n : Nat) (v : α) : tabGet d (tabPut t n v) n = v := by
  induction t with
  | nil => simp [tabPut, tabGet]
  | cons e t ih =>
    obtain ⟨k, w⟩ := e
    by_cases h1 : n < k
    · simp [tabPut, tabGet, h1]
    · by_cases h2 : n = k
      · subst h2
        simp [tabPut, tabGet]
      · simp [tabPut, tabGet, h1, h2, ih]

theorem tabGet_tabPut_ne (d : α) (t : Tab α) {n m : Nat} (v : α) (h : m ≠ n) : tabGet d (tabPut t n v) m = tabGet d t m := by
  induction t with
  | nil => simp [tabPut, tabGet, h]
  | cons e t ih =>
    obtain ⟨k, w⟩ := e
    by_cases h1 : n < k
    · simp [tabPut, tabGet, h1, h]
    · by_cases h2 : n = k
      · subst h2
        simp [tabPut, tabGet, h]
      · by_cases hm : m = k <;> simp [tabPut, tabGet, h1, h2, hm, ih]

/-- What was written is what is read. -/
@[simp] theorem tabGet_tabSet_same [DecidableEq α] (d : α) (t : Tab α) (n : Nat) (v : α) : tabGet d (tabSet d t n v) n = v := by
  by_cases h : v = d
  · simp [tabSet, h, tabGet_tabDel_same]
  · simp [tabSet, h, tabGet_tabPut_same]

/-- A write leaves every other entry, whatever default the reader takes. -/
theorem tabGet_tabSet_ne [DecidableEq α] (d e : α) (t : Tab α) {n m : Nat} (v : α) (h : m ≠ n) :
    tabGet e (tabSet d t n v) m = tabGet e t m := by
  by_cases hv : v = d
  · simp [tabSet, hv, tabGet_tabDel_ne e t h]
  · simp [tabSet, hv, tabGet_tabPut_ne e t v h]

theorem tabWfFrom_mono [DecidableEq α] (d : Nat → α) {a b : Nat} (t : Tab α) (h : a ≤ b) (hw : tabWfFrom d b t = true) :
    tabWfFrom d a t = true := by
  cases t with
  | nil => rfl
  | cons e t =>
    obtain ⟨k, v⟩ := e
    simp only [tabWfFrom, Bool.and_eq_true, decide_eq_true_eq] at hw ⊢
    exact ⟨⟨Nat.le_trans h hw.1.1, hw.1.2⟩, hw.2⟩

theorem tabWfFrom_tabDel [DecidableEq α] (d : Nat → α) (t : Tab α) (n a : Nat) (hw : tabWfFrom d a t = true) :
    tabWfFrom d a (tabDel t n) = true := by
  induction t generalizing a with
  | nil => rfl
  | cons e t ih =>
    obtain ⟨k, v⟩ := e
    simp only [tabWfFrom, Bool.and_eq_true, decide_eq_true_eq] at hw
    by_cases h : n = k
    · subst h
      simp only [tabDel, if_true]
      exact tabWfFrom_mono d _ (Nat.le_trans hw.1.1 (Nat.le_succ n)) (ih _ hw.2)
    · simp only [tabDel, h, if_false, tabWfFrom, Bool.and_eq_true, decide_eq_true_eq]
      exact ⟨hw.1, ih _ hw.2⟩

theorem tabWfFrom_tabPut [DecidableEq α] (d : Nat → α) (t : Tab α) (n a : Nat) (v : α) (hn : a ≤ n) (hv : v ≠ d n)
    (hw : tabWfFrom d a t = true) : tabWfFrom d a (tabPut t n v) = true := by
  induction t generalizing a with
  | nil => simp [tabPut, tabWfFrom, hn, hv]
  | cons e t ih =>
    obtain ⟨k, w⟩ := e
    simp only [tabWfFrom, Bool.and_eq_true, decide_eq_true_eq] at hw
    by_cases h1 : n < k
    · simp only [tabPut, h1, if_true, tabWfFrom, Bool.and_eq_true, decide_eq_true_eq]
      exact ⟨⟨hn, hv⟩, ⟨Nat.succ_le_of_lt h1, hw.1.2⟩, hw.2⟩
    · by_cases h2 : n = k
      · subst h2
        simp only [tabPut, h1, if_false, if_true, tabWfFrom, Bool.and_eq_true, decide_eq_true_eq]
        exact ⟨⟨hn, hv⟩, hw.2⟩
      · simp only [tabPut, h1, h2, if_false, tabWfFrom, Bool.and_eq_true, decide_eq_true_eq]
        exact ⟨hw.1, ih (k + 1) (by omega) hw.2⟩

/-- Writing an entry keeps the canonical form. -/
theorem tabWf_tabSet [DecidableEq α] (d : Nat → α) (t : Tab α) (n : Nat) (v : α) (hw : tabWf d t = true) :
    tabWf d (tabSet (d n) t n v) = true := by
  by_cases h : v = d n
  · simp only [tabSet, h, if_true]
    exact tabWfFrom_tabDel d t n 0 hw
  · simp only [tabSet, h, if_false]
    exact tabWfFrom_tabPut d t n 0 v (Nat.zero_le n) h hw

theorem tabWfFrom_tabMapKeep [DecidableEq α] (d : Nat → α) (f : Nat → α → α) (t : Tab α) (a : Nat)
    (hw : tabWfFrom d a t = true) : tabWfFrom d a (tabMapKeep d f t) = true := by
  induction t generalizing a with
  | nil => rfl
  | cons e t ih =>
    obtain ⟨k, v⟩ := e
    simp only [tabWfFrom, Bool.and_eq_true, decide_eq_true_eq] at hw
    by_cases h : f k v = d k
    · simp only [tabMapKeep, h, if_true]
      exact tabWfFrom_tabDel d _ k a (tabWfFrom_mono d _ (Nat.le_trans hw.1.1 (Nat.le_succ k)) (ih _ hw.2))
    · simp only [tabMapKeep, h, if_false, tabWfFrom, Bool.and_eq_true, decide_eq_true_eq]
      exact ⟨⟨hw.1.1, h⟩, ih _ hw.2⟩

/-- What a changed table reads, where the change leaves the default as it is. -/
theorem tabGet_tabMapKeep [DecidableEq α] (d : Nat → α) (f : Nat → α → α) (t : Tab α) (n : Nat) (h : f n (d n) = d n) :
    tabGet (d n) (tabMapKeep d f t) n = f n (tabGet (d n) t n) := by
  induction t with
  | nil => simp [tabMapKeep, tabGet, h]
  | cons e t ih =>
    obtain ⟨k, v⟩ := e
    by_cases hk : n = k
    · subst hk
      by_cases hv : f n v = d n
      · simp [tabMapKeep, tabGet, hv, tabGet_tabDel_same]
      · simp [tabMapKeep, tabGet, hv]
    · by_cases hv : f k v = d k
      · simp [tabMapKeep, tabGet, hv, hk, tabGet_tabDel_ne _ _ hk, ih]
      · simp [tabMapKeep, tabGet, hv, hk, ih]

/-- Changing the listed entries keeps the canonical form. -/
theorem tabWf_tabMapKeep [DecidableEq α] (d : Nat → α) (f : Nat → α → α) (t : Tab α) (hw : tabWf d t = true) :
    tabWf d (tabMapKeep d f t) = true := tabWfFrom_tabMapKeep d f t 0 hw

end Sys2Proof.Machine
end

