-- ==== Sys2Proof/Laws/Ops.lean ====
section
/-! SUPPORT. Laws/Ops.lean: what the shared operations over registers, counters and events can do. -/

namespace Sys2Proof.Machine

/-! ## Reading registers, counters and functions after an update -/

@[simp] theorem State.word_setWord_same (s : State) (a : Nat) (w : Word) : (s.setWord a w).word a = w := by
  simp [State.word, State.setWord]

theorem State.word_setWord_ne (s : State) {a b : Nat} (w : Word) (h : b ≠ a) : (s.setWord a w).word b = s.word b := by
  simp [State.word, State.setWord, tabGet_tabSet_ne _ _ _ _ h]

/-- A field that was set reads as what was written, in its width. -/
theorem State.fld_setFld_same (s : State) (f : Fld) (v : Nat) (h : f.Ok) : (s.setFld f v).fld f = v % 2 ^ f.width := by
  simp only [State.fld, State.setFld, State.word_setWord_same]
  exact bitsOf_putBits_same _ _ _ _ h

/-- Setting a field leaves every field that shares no bit with it. -/
theorem State.fld_setFld_disj (s : State) (f g : Fld) (v : Nat) (h : f.Ok) (hd : f.Disj g) : (s.setFld f v).fld g = s.fld g := by
  by_cases ha : g.addr = f.addr
  · simp only [State.fld, State.setFld, ha, State.word_setWord_same]
    exact bitsOf_putBits_disj _ _ _ _ _ _ h (hd.resolve_left (fun c => c ha.symm))
  · simp only [State.fld, State.setFld, State.word_setWord_ne s _ ha]

theorem State.word_setFld_ne (s : State) (f : Fld) (v : Nat) {b : Nat} (h : b ≠ f.addr) : (s.setFld f v).word b = s.word b :=
  State.word_setWord_ne s _ h

@[simp] theorem State.count_setCount_same (s : State) (i : Nat) (v : BitVec 64) : (s.setCount i v).count i = v := by
  simp [State.count, State.setCount]

theorem State.count_setCount_ne (s : State) {i j : Nat} (v : BitVec 64) (h : j ≠ i) : (s.setCount i v).count j = s.count j := by
  simp [State.count, State.setCount, tabGet_tabSet_ne _ _ _ _ h]

@[simp] theorem State.count_bump_same (s : State) (i : Nat) : (s.bump i).count i = s.count i + 1 := by
  simp [State.bump, State.bumpBy]

theorem State.count_bump_ne (s : State) {i j : Nat} (h : j ≠ i) : (s.bump i).count j = s.count j :=
  State.count_setCount_ne s _ h

@[simp] theorem State.fn_setFn_same (s : State) (f : Nat) (x : FnS) : (s.setFn f x).fn f = x := by
  simp [State.fn, State.setFn]

theorem State.fn_setFn_ne (s : State) {f g : Nat} (x : FnS) (h : g ≠ f) : (s.setFn f x).fn g = s.fn g := by
  simp [State.fn, State.setFn, tabGet_tabSet_ne _ _ _ _ h]

@[simp] theorem State.hold_setHold_same (s : State) (n : Nat) (h : Option HoldOff) : (s.setHold n h).hold n = h := by
  simp [State.hold, State.setHold]

theorem State.hold_setHold_ne (s : State) {n m : Nat} (h : Option HoldOff) (hne : m ≠ n) : (s.setHold n h).hold m = s.hold m := by
  simp [State.hold, State.setHold, tabGet_tabSet_ne _ _ _ _ hne]

/-! ## Frames -/

variable {ps qs : List Part} {ks ls : List Nat} {s t u : State}

theorem Part.same_refl (s : State) (p : Part) : p.same s s := by cases p <;> simp [Part.same]

theorem Part.same_trans {p : Part} (h : p.same s t) (g : p.same t u) : p.same s u := by
  cases p <;> simp only [Part.same] at h g ⊢
  case block => exact fun a ha => (g a ha).trans (h a ha)
  case life => exact ⟨g.1.trans h.1, g.2.1.trans h.2.1, g.2.2.trans h.2.2⟩
  case link => exact ⟨g.1.trans h.1, g.2.1.trans h.2.1, g.2.2.trans h.2.2⟩
  all_goals exact g.trans h

theorem Only.refl (ps : List Part) (ks : List Nat) (s : State) : Only ps ks s s :=
  ⟨fun _ _ _ => rfl, fun p _ _ => Part.same_refl s p⟩

theorem Only.trans (h : Only ps ks s t) (g : Only ps ks t u) : Only ps ks s u :=
  ⟨fun a h1 h2 => (g.word a h1 h2).trans (h.word a h1 h2), fun p h1 h2 => Part.same_trans (h.part p h1 h2) (g.part p h1 h2)⟩

/-- A frame that allows more. -/
theorem Only.mono (h : Only ps ks s t) (hp : ∀ p ∈ ps, p ∈ qs) (hk : ∀ a ∈ ks, a ∈ ls ∨ .block (blockOf a) ∈ qs) : Only qs ls s t :=
  ⟨fun a h1 h2 => h.word a (fun c => (hk a c).elim h1 h2) (fun c => h2 (hp _ c)), fun p h1 h2 => h.part p (fun c => h1 (hp _ c)) h2⟩

/-- An update that leaves the registers changes the parts it names. -/
theorem Only.of_regs (h : t.regs = s.regs) (hp : ∀ p, p ∉ ps → (∀ b, p ≠ .block b) → p.same s t) : Only ps ks s t :=
  ⟨fun a _ _ => by simp [State.word, h], hp⟩

theorem Only.setWord (s : State) (a : Nat) (w : Word) (h : a ∈ ks ∨ .block (blockOf a) ∈ ps) : Only ps ks s (s.setWord a w) := by
  refine ⟨fun b h1 h2 => State.word_setWord_ne s w ?_, fun p _ h2 => ?_⟩
  · rintro rfl
    exact h.elim h1 h2
  · cases p <;> simp_all [Part.same]

theorem Only.setFld (s : State) (f : Fld) (v : Nat) (h : f.addr ∈ ks ∨ .block (blockOf f.addr) ∈ ps) :
    Only ps ks s (s.setFld f v) := Only.setWord s _ _ h

theorem Only.setFlag (s : State) (f : Fld) (b : Bool) (h : f.addr ∈ ks ∨ .block (blockOf f.addr) ∈ ps) :
    Only ps ks s (s.setFlag f b) := Only.setFld s _ _ h

theorem Only.setFn (s : State) (f : Nat) (x : FnS) (h : .fns ∈ ps) : Only ps ks s (s.setFn f x) :=
  .of_regs rfl fun p h1 h2 => by cases p <;> first | exact absurd h h1 | exact absurd rfl (h2 _) | simp [Part.same]

theorem Only.setCount (s : State) (i : Nat) (v : BitVec 64) (h : .cnt ∈ ps) : Only ps ks s (s.setCount i v) :=
  .of_regs rfl fun p h1 h2 => by cases p <;> first | exact absurd h h1 | exact absurd rfl (h2 _) | simp [Part.same]

theorem Only.bump (s : State) (i : Nat) (h : .cnt ∈ ps) : Only ps ks s (s.bump i) := Only.setCount s _ _ h

theorem Only.setHold (s : State) (n : Nat) (x : Option HoldOff) (h : .holdOff ∈ ps) : Only ps ks s (s.setHold n x) :=
  .of_regs rfl fun p h1 h2 => by cases p <;> first | exact absurd h h1 | exact absurd rfl (h2 _) | simp [Part.same]

theorem Only.drew (s : State) (h : .free ∈ ps) : Only ps ks s s.drew :=
  .of_regs rfl fun p h1 h2 => by cases p <;> first | exact absurd h h1 | exact absurd rfl (h2 _) | simp [Part.same]

theorem Only.request (s : State) (l e v : Nat) (h : .requests ∈ ps) : Only ps ks s (s.request l e v) :=
  .of_regs rfl fun p h1 h2 => by cases p <;> first | exact absurd h h1 | exact absurd rfl (h2 _) | simp [Part.same]

theorem Only.setFbk (s : State) (b : Fbk) (h : .fbk ∈ ps) : Only ps ks s { s with fbk := b } :=
  .of_regs rfl fun p h1 h2 => by cases p <;> first | exact absurd h h1 | exact absurd rfl (h2 _) | simp [Part.same]

end Sys2Proof.Machine
end

