-- ==== Sys2Proof/Laws/Events.lean ====
section
/-! SUPPORT. Laws/Events.lean: everything that raising an event, posting an entry and storing a record can change. -/

set_option Elab.async false

namespace Sys2Proof.Machine

variable {ps : List Part} {ks : List Nat}

/-- A frame that lets entries be posted. -/
def Rings (ps : List Part) : Prop := .fns ∈ ps ∧ .block 17 ∈ ps

/-- A frame that lets events be raised. -/
def Evts (ps : List Part) (ks : List Nat) : Prop :=
  Rings ps ∧ .fbk ∈ ps ∧ (0xF00000 ∈ ks ∨ .block 15 ∈ ps) ∧ (0xF00004 ∈ ks ∨ .block 15 ∈ ps)

theorem blockOf_tail (f : Nat) : blockOf (F.R2_MSG_TAIL f).addr = 17 := by
  have h : (F.R2_MSG_TAIL f).addr = 0x10000030 + 4096 * f := rfl
  rw [h, blockOf, if_neg (by omega), if_pos (by omega)]

theorem blockOf_lost (f : Nat) : blockOf (F.R2_MSG_LOST f).addr = 17 := by
  have h : (F.R2_MSG_LOST f).addr = 0x10000034 + 4096 * f := rfl
  rw [h, blockOf, if_neg (by omega), if_pos (by omega)]

theorem Only.setTail (h : Rings ps) (s : State) (f v : Nat) : Only ps ks s (s.setFld (F.R2_MSG_TAIL f) v) :=
  Only.setFld s _ v (.inr (by rw [blockOf_tail]; exact h.2))

theorem Only.setLost (h : Rings ps) (s : State) (f v : Nat) : Only ps ks s (s.setFld (F.R2_MSG_LOST f) v) :=
  Only.setFld s _ v (.inr (by rw [blockOf_lost]; exact h.2))

theorem signal_only (h : Rings ps) (s : State) (f v : Nat) : Only ps ks s (s.signal f v) := by
  unfold State.signal
  exact Only.setFn _ _ _ h.1

theorem postEntry_only (h : Rings ps) (s : State) (f v : Nat) (m : Msg) : Only ps ks s (s.postEntry f v m) := by
  unfold State.postEntry
  exact ((Only.setFn _ _ _ h.1).trans (Only.setTail h _ _ _)).trans (signal_only h _ _ _)

theorem postUnsolicited_only (h : Rings ps) (s : State) (f v : Nat) (m : Msg) : Only ps ks s (s.postUnsolicited f v m) := by
  unfold State.postUnsolicited
  exact (Only.setFn _ _ _ h.1).trans (postEntry_only h _ _ _ _)

theorem flushLost_only (h : Rings ps) (s : State) (f : Nat) : Only ps ks s (s.flushLost f) := by
  simp only [State.flushLost]
  split
  · exact (Only.setFn _ _ _ h.1).trans (postUnsolicited_only h _ _ _ _)
  · exact Only.refl _ _ _

theorem loseEvent_only (h : Rings ps) (s : State) (f num : Nat) : Only ps ks s (s.loseEvent f num) := by
  unfold State.loseEvent
  exact (Only.setFn _ _ _ h.1).trans (Only.setLost h _ _ _)

theorem postOn_only (h : Rings ps) (s : State) (f : Nat) (o : Occ) : Only ps ks s (s.postOn f o) := by
  simp only [State.postOn]
  split
  · exact Only.refl _ _ _
  · split
    · exact (flushLost_only h _ _).trans (postUnsolicited_only h _ _ _ _)
    · exact (flushLost_only h _ _).trans (loseEvent_only h _ _ _)

theorem post_only (h : Rings ps) (s : State) (o : Occ) : Only ps ks s (s.post o) := by
  simp only [State.post]
  split
  · split
    · exact postOn_only h _ _ _
    · exact (postOn_only h _ _ _).trans (postOn_only h _ _ _)
  · exact postOn_only h _ _ _

theorem Only.setStatus (h : Evts ps ks) (s : State) (f : Fld) (v : Nat) (ha : f.addr = 0xF00000) : Only ps ks s (s.setFld f v) :=
  Only.setFld s f v (by rw [ha]; exact h.2.2.1)

theorem secStore_only (h : Evts ps ks) (s : State) (o : Occ) (c : Bool) (d : List Byte) : Only ps ks s (s.secStore o c d) := by
  simp only [State.secStore]
  split
  · exact (Only.setFbk s _ h.2.1).trans (Only.setFld _ _ _ h.2.2.2)
  · exact ((Only.setFbk s _ h.2.1).trans (Only.setStatus h _ _ _ rfl)).trans (Only.setStatus h _ _ _ rfl)

theorem opStore_only (h : Evts ps ks) (s : State) (o : Occ) : Only ps ks s (s.opStore o) := by
  simp only [State.opStore]
  split
  · split
    · exact Only.setFbk s _ h.2.1
    · exact Only.setFbk s _ h.2.1
  · exact Only.setFbk s _ h.2.1

theorem secLevels_only (h : Evts ps ks) (s : State) (n : Nat) : Only ps ks s (s.secLevels n) := by
  have h1 : Only ps ks s (if n < 3687 ∧ 3687 ≤ s.fbk.secLog.length then (s.opStore { num := 0x3F1 }).post { num := 0x3F1 } else s) := by
    split
    · exact (opStore_only h _ _).trans (post_only h.1 _ _)
    · exact Only.refl _ _ _
  have h2 : ∀ t : State, Only ps ks t (if n < 4095 ∧ 4095 ≤ t.fbk.secLog.length then
      (t.secStore { num := 0x3F0, alarm := true } false []).post { num := 0x3F0, alarm := true } else t) := by
    intro t
    split
    · exact (secStore_only h _ _ _ _).trans (post_only h.1 _ _)
    · exact Only.refl _ _ _
  exact h1.trans (h2 _)

theorem foldl_only {α : Type} (g : State → α → State) (hg : ∀ s a, Only ps ks s (g s a)) (l : List α) (s : State) :
    Only ps ks s (l.foldl g s) := by
  induction l generalizing s with
  | nil => exact Only.refl _ _ _
  | cons a l ih => exact (hg s a).trans (ih _)

theorem secLogRec_only (h : Evts ps ks) (s : State) (o : Occ) (d : List Byte) : Only ps ks s (s.secLogRec o d) := by
  simp only [State.secLogRec]
  exact ((secStore_only h _ _ _ _).trans (foldl_only _ (fun s a => secStore_only h s _ _ _) _ _)).trans (secLevels_only h _ _)

/-- An event raised changes the log, the rings and the two registers of the security log, nothing else. -/
theorem raise_only (h : Evts ps ks) (s : State) (o : Occ) : Only ps ks s (s.raise o) := by
  unfold State.raise
  split
  · exact (secLogRec_only h _ _ _).trans (post_only h.1 _ _)
  · exact (opStore_only h _ _).trans (post_only h.1 _ _)

theorem raiseSec_only (h : Evts ps ks) (s : State) (o : Occ) (d : List Byte) : Only ps ks s (s.raiseSec o d) :=
  (secLogRec_only h _ _ _).trans (post_only h.1 _ _)

theorem secureRefused_only (h : Evts ps ks) (s : State) (a : Nat) (w : World) : Only ps ks s (s.secureRefused a w) :=
  raiseSec_only h _ _ _

/-- The frame of an event alone. -/
theorem evts_ok : Evts evts evtKeys := by
  refine ⟨⟨?_, ?_⟩, ?_, ?_, ?_⟩ <;> simp [evts, evtKeys, F.FBK_STATUS_SEC_USED, F.FBK_SEC_OVF_OVERFLOW]

/-- The frame of an event and of what raised it. -/
theorem evts_append (qs : List Part) (ls : List Nat) : Evts (evts ++ qs) (evtKeys ++ ls) := by
  refine ⟨⟨?_, ?_⟩, ?_, ?_, ?_⟩ <;> simp [evts, evtKeys, F.FBK_STATUS_SEC_USED, F.FBK_SEC_OVF_OVERFLOW]

theorem raise39_only (h : Evts ps ks) (hh : .holdOff ∈ ps) (s : State) (n c : Nat) (p : Option Nat) (r : CntRef) :
    Only ps ks s (s.raise39 n c p r) := by
  simp only [State.raise39]
  split
  · exact (raise_only h _ _).trans (Only.setHold _ _ _ hh)
  · split
    · exact Only.refl _ _ _
    · exact Only.setHold _ _ _ hh

/-- A drop counted in a device counter. -/
theorem dropDev_only (h : Evts ps ks) (hh : .holdOff ∈ ps) (hc : .cnt ∈ ps) (s : State) (n c : Nat) (p : Option Nat) (i : Nat) :
    Only ps ks s (s.dropDev n c p i) :=
  (Only.bump s i hc).trans (raise39_only h hh _ _ _ _ _)

/-! ## What is logged -/

@[simp] theorem State.setFld_log (s : State) (f : Fld) (v : Nat) : (s.setFld f v).fbk = s.fbk := State.setFld_fbk s f v

theorem signal_fbk (s : State) (f v : Nat) : (s.signal f v).fbk = s.fbk := by simp [State.signal]

theorem postEntry_fbk (s : State) (f v : Nat) (m : Msg) : (s.postEntry f v m).fbk = s.fbk := by
  simp [State.postEntry, signal_fbk]

theorem postUnsolicited_fbk (s : State) (f v : Nat) (m : Msg) : (s.postUnsolicited f v m).fbk = s.fbk := by
  simp only [State.postUnsolicited, postEntry_fbk, State.setFn_fbk]

theorem flushLost_fbk (s : State) (f : Nat) : (s.flushLost f).fbk = s.fbk := by
  simp only [State.flushLost]
  split <;> simp [postUnsolicited_fbk]

theorem postOn_fbk (s : State) (f : Nat) (o : Occ) : (s.postOn f o).fbk = s.fbk := by
  simp only [State.postOn]
  split
  · rfl
  · split <;> simp [postUnsolicited_fbk, flushLost_fbk, State.loseEvent]

/-- Posting changes no log. -/
@[simp] theorem post_fbk (s : State) (o : Occ) : (s.post o).fbk = s.fbk := by
  simp only [State.post]
  split
  · split <;> simp [postOn_fbk]
  · simp [postOn_fbk]

theorem opNew_logged (s : State) (o : Occ) : Logged o.num (o.scope % 2 ^ 32) (s.opNew o) := by
  simp [Logged, State.opNew, LogRec.sealed]

theorem opStore_logged (s : State) (o : Occ) : Logged o.num (o.scope % 2 ^ 32) (s.opStore o) := by
  simp only [State.opStore]
  split
  · split
    · rename_i r _ h
      exact ⟨({ r with rep := r.rep + 1 } : LogRec).sealed, by simp, h.1, h.2.1⟩
    · exact opNew_logged s o
  · exact opNew_logged s o

/-- An event without ALARM is the newest record of the operational log. -/
theorem raise_logged (s : State) (o : Occ) (h : o.alarm = false) : Logged o.num (o.scope % 2 ^ 32) (s.raise o) := by
  obtain ⟨r, h1, h2⟩ := opStore_logged s o
  exact ⟨r, by simpa [State.raise, h] using h1, h2⟩

/-- The log only grows. -/
theorem secStore_prefix (s : State) (o : Occ) (c : Bool) (d : List Byte) {i : Nat} {r : LogRec}
    (h : s.fbk.secLog[i]? = some r) : (s.secStore o c d).fbk.secLog[i]? = some r := by
  simp only [State.secStore]
  split
  · simpa using h
  · have hi : i < s.fbk.secLog.length := (List.getElem?_eq_some_iff.mp h).1
    simpa [List.getElem?_append_left hi] using h

theorem secLevels_prefix (s : State) (n : Nat) {i : Nat} {r : LogRec} (h : s.fbk.secLog[i]? = some r) :
    (s.secLevels n).fbk.secLog[i]? = some r := by
  have h1 : (if n < 3687 ∧ 3687 ≤ s.fbk.secLog.length then (s.opStore { num := 0x3F1 }).post { num := 0x3F1 } else s).fbk.secLog
      = s.fbk.secLog := by
    split
    · simp only [post_fbk, State.opStore]
      split
      · split <;> simp [State.opNew]
      · simp [State.opNew]
    · rfl
  have h2 : ∀ t : State, t.fbk.secLog[i]? = some r → (if n < 4095 ∧ 4095 ≤ t.fbk.secLog.length then
      (t.secStore { num := 0x3F0, alarm := true } false []).post { num := 0x3F0, alarm := true } else t).fbk.secLog[i]? = some r := by
    intro t ht
    split
    · simpa using secStore_prefix t _ false [] ht
    · exact ht
  exact h2 _ (by rw [h1]; exact h)

theorem secLogRec_logged (s : State) (o : Occ) (d : List Byte) : LoggedSec o.num (o.scope % 2 ^ 32) s (s.secLogRec o d) := by
  intro hl
  have h0 : ∃ r, (s.secStore o false []).fbk.secLog[s.fbk.secLog.length]? = some r ∧ r.num = o.num ∧ r.scope = o.scope % 2 ^ 32 := by
    simp [State.secStore, Nat.not_le.mpr hl, LogRec.sealed]
  obtain ⟨r, h1, h2⟩ := h0
  refine ⟨r, ?_, h2⟩
  simp only [State.secLogRec]
  apply secLevels_prefix
  generalize detailParts d.length d = l
  generalize s.secStore o false [] = t at h1 ⊢
  induction l generalizing t with
  | nil => exact h1
  | cons a l ih => exact ih _ (secStore_prefix t o true a h1)

/-- An ALARM event is recorded in the security log. -/
theorem raise_loggedSec (s : State) (o : Occ) (h : o.alarm = true) : LoggedSec o.num (o.scope % 2 ^ 32) s (s.raise o) := by
  intro hl
  obtain ⟨r, h1, h2⟩ := secLogRec_logged s o [] hl
  exact ⟨r, by simpa [State.raise, h] using h1, h2⟩

theorem raiseSec_loggedSec (s : State) (o : Occ) (d : List Byte) : LoggedSec o.num (o.scope % 2 ^ 32) s (s.raiseSec o d) := by
  intro hl
  obtain ⟨r, h1, h2⟩ := secLogRec_logged s o d hl
  exact ⟨r, by simpa [State.raiseSec] using h1, h2⟩

/-! ## Field by field -/

@[simp] theorem State.raise_pending (s : State) (o : Occ) : (s.raise o).pending = s.pending :=
  (raise_only evts_ok s o).part .pending (by decide) (by simp)
@[simp] theorem State.raise_cnt (s : State) (o : Occ) : (s.raise o).cnt = s.cnt :=
  (raise_only evts_ok s o).part .cnt (by decide) (by simp)
@[simp] theorem State.raise_cyc (s : State) (o : Occ) : (s.raise o).cyc = s.cyc :=
  (raise_only evts_ok s o).part .cyc (by decide) (by simp)
@[simp] theorem State.raise_datum (s : State) (o : Occ) : (s.raise o).datum = s.datum :=
  (raise_only evts_ok s o).part .datum (by decide) (by simp)
@[simp] theorem State.raise_free (s : State) (o : Occ) : (s.raise o).free = s.free :=
  (raise_only evts_ok s o).part .free (by decide) (by simp)
@[simp] theorem State.raise_holdOff (s : State) (o : Occ) : (s.raise o).holdOff = s.holdOff :=
  (raise_only evts_ok s o).part .holdOff (by decide) (by simp)
@[simp] theorem State.raise_waits (s : State) (o : Occ) : (s.raise o).waits = s.waits :=
  (raise_only evts_ok s o).part .waits (by decide) (by simp)
@[simp] theorem State.raise_otp (s : State) (o : Occ) : (s.raise o).otp = s.otp :=
  (raise_only evts_ok s o).part .otp (by decide) (by simp)
@[simp] theorem State.raise_saStat (s : State) (o : Occ) : (s.raise o).saStat = s.saStat :=
  (raise_only evts_ok s o).part .saStat (by decide) (by simp)
@[simp] theorem State.raise_qDrop (s : State) (o : Occ) : (s.raise o).qDrop = s.qDrop :=
  (raise_only evts_ok s o).part .qDrop (by decide) (by simp)
@[simp] theorem State.raise_requests (s : State) (o : Occ) : (s.raise o).requests = s.requests :=
  (raise_only evts_ok s o).part .requests (by decide) (by simp)
@[simp] theorem State.raise_rules (s : State) (o : Occ) : (s.raise o).rules = s.rules :=
  (raise_only evts_ok s o).part .rules (by decide) (by simp)
@[simp] theorem State.raise_bypass (s : State) (o : Occ) : (s.raise o).bypass = s.bypass :=
  (raise_only evts_ok s o).part .bypass (by decide) (by simp)
@[simp] theorem State.raise_bypAt (s : State) (o : Occ) : (s.raise o).bypAt = s.bypAt :=
  (raise_only evts_ok s o).part .bypAt (by decide) (by simp)
@[simp] theorem State.raise_polAt (s : State) (o : Occ) : (s.raise o).polAt = s.polAt :=
  (raise_only evts_ok s o).part .polAt (by decide) (by simp)
@[simp] theorem State.raise_sampAt (s : State) (o : Occ) : (s.raise o).sampAt = s.sampAt :=
  (raise_only evts_ok s o).part .sampAt (by decide) (by simp)
@[simp] theorem State.raise_dat (s : State) (o : Occ) : (s.raise o).dat = s.dat :=
  (raise_only evts_ok s o).part .dat (by decide) (by simp)
@[simp] theorem State.raise_plat (s : State) (o : Occ) : (s.raise o).plat = s.plat :=
  (raise_only evts_ok s o).part .plat (by decide) (by simp)
@[simp] theorem State.raise_sec (s : State) (o : Occ) : (s.raise o).sec = s.sec :=
  (raise_only evts_ok s o).part .sec (by decide) (by simp)
@[simp] theorem State.raise_hrt (s : State) (o : Occ) : (s.raise o).hrt = s.hrt :=
  (raise_only evts_ok s o).part .hrt (by decide) (by simp)
@[simp] theorem State.raise_frames (s : State) (o : Occ) : (s.raise o).frames = s.frames :=
  (raise_only evts_ok s o).part .frames (by decide) (by simp)
@[simp] theorem State.raise_nextFrame (s : State) (o : Occ) : (s.raise o).nextFrame = s.nextFrame :=
  (raise_only evts_ok s o).part .nextFrame (by decide) (by simp)
@[simp] theorem State.raise_nextEnq (s : State) (o : Occ) : (s.raise o).nextEnq = s.nextEnq :=
  (raise_only evts_ok s o).part .nextEnq (by decide) (by simp)
@[simp] theorem State.raise_blw (s : State) (o : Occ) : (s.raise o).blw = s.blw :=
  (raise_only evts_ok s o).part .blw (by decide) (by simp)
@[simp] theorem State.raise_gates (s : State) (o : Occ) : (s.raise o).gates = s.gates :=
  (raise_only evts_ok s o).part .gates (by decide) (by simp)
@[simp] theorem State.raise_prt (s : State) (o : Occ) : (s.raise o).prt = s.prt :=
  (raise_only evts_ok s o).part .prt (by decide) (by simp)
@[simp] theorem State.raise_anvIdle (s : State) (o : Occ) : (s.raise o).anvIdle = s.anvIdle :=
  (raise_only evts_ok s o).part .anvIdle (by decide) (by simp)
@[simp] theorem State.raise_anvKat (s : State) (o : Occ) : (s.raise o).anvKat = s.anvKat :=
  (raise_only evts_ok s o).part .anvKat (by decide) (by simp)
@[simp] theorem State.raise_anvRet (s : State) (o : Occ) : (s.raise o).anvRet = s.anvRet :=
  (raise_only evts_ok s o).part .anvRet (by decide) (by simp)
@[simp] theorem State.raise_anvWake (s : State) (o : Occ) : (s.raise o).anvWake = s.anvWake :=
  (raise_only evts_ok s o).part .anvWake (by decide) (by simp)
@[simp] theorem State.raise_env (s : State) (o : Occ) : (s.raise o).env = s.env :=
  (raise_only evts_ok s o).part .env (by decide) (by simp)
@[simp] theorem State.raise_tie (s : State) (o : Occ) : (s.raise o).tie = s.tie :=
  (raise_only evts_ok s o).part .tie (by decide) (by simp)
@[simp] theorem State.raise_ecc (s : State) (o : Occ) : (s.raise o).ecc = s.ecc :=
  (raise_only evts_ok s o).part .ecc (by decide) (by simp)
@[simp] theorem State.raise_tmp (s : State) (o : Occ) : (s.raise o).tmp = s.tmp :=
  (raise_only evts_ok s o).part .tmp (by decide) (by simp)
@[simp] theorem State.raise_par (s : State) (o : Occ) : (s.raise o).par = s.par :=
  (raise_only evts_ok s o).part .par (by decide) (by simp)
@[simp] theorem State.raise_ctl (s : State) (o : Occ) : (s.raise o).ctl = s.ctl :=
  (raise_only evts_ok s o).part .ctl (by decide) (by simp)
@[simp] theorem State.raise_smbus (s : State) (o : Occ) : (s.raise o).smbus = s.smbus :=
  (raise_only evts_ok s o).part .smbus (by decide) (by simp)
/-- A register that no event moves. -/
theorem State.word_raise (s : State) (o : Occ) {x : Nat} (h : blockOf x ≠ 17) (h1 : x ≠ 0xF00000) (h2 : x ≠ 0xF00004) :
    (s.raise o).word x = s.word x :=
  (raise_only evts_ok s o).word x (by simp [evtKeys, F.FBK_STATUS_SEC_USED, F.FBK_SEC_OVF_OVERFLOW, h1, h2]) (by simp [evts, h])

theorem State.fld_raise (s : State) (o : Occ) {g : Fld} (h : blockOf g.addr ≠ 17) (h1 : g.addr ≠ 0xF00000) (h2 : g.addr ≠ 0xF00004) :
    (s.raise o).fld g = s.fld g := by
  simp only [State.fld, State.word_raise s o h h1 h2]

@[simp] theorem State.raiseSec_pending (s : State) (o : Occ) (d : List Byte) : (s.raiseSec o d).pending = s.pending :=
  (raiseSec_only evts_ok s o d).part .pending (by decide) (by simp)
@[simp] theorem State.raiseSec_cnt (s : State) (o : Occ) (d : List Byte) : (s.raiseSec o d).cnt = s.cnt :=
  (raiseSec_only evts_ok s o d).part .cnt (by decide) (by simp)
@[simp] theorem State.raiseSec_cyc (s : State) (o : Occ) (d : List Byte) : (s.raiseSec o d).cyc = s.cyc :=
  (raiseSec_only evts_ok s o d).part .cyc (by decide) (by simp)
@[simp] theorem State.raiseSec_datum (s : State) (o : Occ) (d : List Byte) : (s.raiseSec o d).datum = s.datum :=
  (raiseSec_only evts_ok s o d).part .datum (by decide) (by simp)
@[simp] theorem State.raiseSec_free (s : State) (o : Occ) (d : List Byte) : (s.raiseSec o d).free = s.free :=
  (raiseSec_only evts_ok s o d).part .free (by decide) (by simp)
@[simp] theorem State.raiseSec_holdOff (s : State) (o : Occ) (d : List Byte) : (s.raiseSec o d).holdOff = s.holdOff :=
  (raiseSec_only evts_ok s o d).part .holdOff (by decide) (by simp)
@[simp] theorem State.raiseSec_waits (s : State) (o : Occ) (d : List Byte) : (s.raiseSec o d).waits = s.waits :=
  (raiseSec_only evts_ok s o d).part .waits (by decide) (by simp)
@[simp] theorem State.raiseSec_otp (s : State) (o : Occ) (d : List Byte) : (s.raiseSec o d).otp = s.otp :=
  (raiseSec_only evts_ok s o d).part .otp (by decide) (by simp)
@[simp] theorem State.raiseSec_saStat (s : State) (o : Occ) (d : List Byte) : (s.raiseSec o d).saStat = s.saStat :=
  (raiseSec_only evts_ok s o d).part .saStat (by decide) (by simp)
@[simp] theorem State.raiseSec_qDrop (s : State) (o : Occ) (d : List Byte) : (s.raiseSec o d).qDrop = s.qDrop :=
  (raiseSec_only evts_ok s o d).part .qDrop (by decide) (by simp)
@[simp] theorem State.raiseSec_requests (s : State) (o : Occ) (d : List Byte) : (s.raiseSec o d).requests = s.requests :=
  (raiseSec_only evts_ok s o d).part .requests (by decide) (by simp)
@[simp] theorem State.raiseSec_rules (s : State) (o : Occ) (d : List Byte) : (s.raiseSec o d).rules = s.rules :=
  (raiseSec_only evts_ok s o d).part .rules (by decide) (by simp)
@[simp] theorem State.raiseSec_bypass (s : State) (o : Occ) (d : List Byte) : (s.raiseSec o d).bypass = s.bypass :=
  (raiseSec_only evts_ok s o d).part .bypass (by decide) (by simp)
@[simp] theorem State.raiseSec_bypAt (s : State) (o : Occ) (d : List Byte) : (s.raiseSec o d).bypAt = s.bypAt :=
  (raiseSec_only evts_ok s o d).part .bypAt (by decide) (by simp)
@[simp] theorem State.raiseSec_polAt (s : State) (o : Occ) (d : List Byte) : (s.raiseSec o d).polAt = s.polAt :=
  (raiseSec_only evts_ok s o d).part .polAt (by decide) (by simp)
@[simp] theorem State.raiseSec_sampAt (s : State) (o : Occ) (d : List Byte) : (s.raiseSec o d).sampAt = s.sampAt :=
  (raiseSec_only evts_ok s o d).part .sampAt (by decide) (by simp)
@[simp] theorem State.raiseSec_dat (s : State) (o : Occ) (d : List Byte) : (s.raiseSec o d).dat = s.dat :=
  (raiseSec_only evts_ok s o d).part .dat (by decide) (by simp)
@[simp] theorem State.raiseSec_plat (s : State) (o : Occ) (d : List Byte) : (s.raiseSec o d).plat = s.plat :=
  (raiseSec_only evts_ok s o d).part .plat (by decide) (by simp)
@[simp] theorem State.raiseSec_sec (s : State) (o : Occ) (d : List Byte) : (s.raiseSec o d).sec = s.sec :=
  (raiseSec_only evts_ok s o d).part .sec (by decide) (by simp)
@[simp] theorem State.raiseSec_hrt (s : State) (o : Occ) (d : List Byte) : (s.raiseSec o d).hrt = s.hrt :=
  (raiseSec_only evts_ok s o d).part .hrt (by decide) (by simp)
@[simp] theorem State.raiseSec_frames (s : State) (o : Occ) (d : List Byte) : (s.raiseSec o d).frames = s.frames :=
  (raiseSec_only evts_ok s o d).part .frames (by decide) (by simp)
@[simp] theorem State.raiseSec_nextFrame (s : State) (o : Occ) (d : List Byte) : (s.raiseSec o d).nextFrame = s.nextFrame :=
  (raiseSec_only evts_ok s o d).part .nextFrame (by decide) (by simp)
@[simp] theorem State.raiseSec_nextEnq (s : State) (o : Occ) (d : List Byte) : (s.raiseSec o d).nextEnq = s.nextEnq :=
  (raiseSec_only evts_ok s o d).part .nextEnq (by decide) (by simp)
@[simp] theorem State.raiseSec_blw (s : State) (o : Occ) (d : List Byte) : (s.raiseSec o d).blw = s.blw :=
  (raiseSec_only evts_ok s o d).part .blw (by decide) (by simp)
@[simp] theorem State.raiseSec_gates (s : State) (o : Occ) (d : List Byte) : (s.raiseSec o d).gates = s.gates :=
  (raiseSec_only evts_ok s o d).part .gates (by decide) (by simp)
@[simp] theorem State.raiseSec_prt (s : State) (o : Occ) (d : List Byte) : (s.raiseSec o d).prt = s.prt :=
  (raiseSec_only evts_ok s o d).part .prt (by decide) (by simp)
@[simp] theorem State.raiseSec_anvIdle (s : State) (o : Occ) (d : List Byte) : (s.raiseSec o d).anvIdle = s.anvIdle :=
  (raiseSec_only evts_ok s o d).part .anvIdle (by decide) (by simp)
@[simp] theorem State.raiseSec_anvKat (s : State) (o : Occ) (d : List Byte) : (s.raiseSec o d).anvKat = s.anvKat :=
  (raiseSec_only evts_ok s o d).part .anvKat (by decide) (by simp)
@[simp] theorem State.raiseSec_anvRet (s : State) (o : Occ) (d : List Byte) : (s.raiseSec o d).anvRet = s.anvRet :=
  (raiseSec_only evts_ok s o d).part .anvRet (by decide) (by simp)
@[simp] theorem State.raiseSec_anvWake (s : State) (o : Occ) (d : List Byte) : (s.raiseSec o d).anvWake = s.anvWake :=
  (raiseSec_only evts_ok s o d).part .anvWake (by decide) (by simp)
@[simp] theorem State.raiseSec_env (s : State) (o : Occ) (d : List Byte) : (s.raiseSec o d).env = s.env :=
  (raiseSec_only evts_ok s o d).part .env (by decide) (by simp)
@[simp] theorem State.raiseSec_tie (s : State) (o : Occ) (d : List Byte) : (s.raiseSec o d).tie = s.tie :=
  (raiseSec_only evts_ok s o d).part .tie (by decide) (by simp)
@[simp] theorem State.raiseSec_ecc (s : State) (o : Occ) (d : List Byte) : (s.raiseSec o d).ecc = s.ecc :=
  (raiseSec_only evts_ok s o d).part .ecc (by decide) (by simp)
@[simp] theorem State.raiseSec_tmp (s : State) (o : Occ) (d : List Byte) : (s.raiseSec o d).tmp = s.tmp :=
  (raiseSec_only evts_ok s o d).part .tmp (by decide) (by simp)
@[simp] theorem State.raiseSec_par (s : State) (o : Occ) (d : List Byte) : (s.raiseSec o d).par = s.par :=
  (raiseSec_only evts_ok s o d).part .par (by decide) (by simp)
@[simp] theorem State.raiseSec_ctl (s : State) (o : Occ) (d : List Byte) : (s.raiseSec o d).ctl = s.ctl :=
  (raiseSec_only evts_ok s o d).part .ctl (by decide) (by simp)
@[simp] theorem State.raiseSec_smbus (s : State) (o : Occ) (d : List Byte) : (s.raiseSec o d).smbus = s.smbus :=
  (raiseSec_only evts_ok s o d).part .smbus (by decide) (by simp)
/-- A register that no event moves. -/
theorem State.word_raiseSec (s : State) (o : Occ) (d : List Byte) {x : Nat} (h : blockOf x ≠ 17) (h1 : x ≠ 0xF00000) (h2 : x ≠ 0xF00004) :
    (s.raiseSec o d).word x = s.word x :=
  (raiseSec_only evts_ok s o d).word x (by simp [evtKeys, F.FBK_STATUS_SEC_USED, F.FBK_SEC_OVF_OVERFLOW, h1, h2]) (by simp [evts, h])

theorem State.fld_raiseSec (s : State) (o : Occ) (d : List Byte) {g : Fld} (h : blockOf g.addr ≠ 17) (h1 : g.addr ≠ 0xF00000) (h2 : g.addr ≠ 0xF00004) :
    (s.raiseSec o d).fld g = s.fld g := by
  simp only [State.fld, State.word_raiseSec s o d h h1 h2]

@[simp] theorem State.post_pending (s : State) (o : Occ) : (s.post o).pending = s.pending :=
  (post_only (ks := evtKeys) evts_ok.1 s o).part .pending (by decide) (by simp)
@[simp] theorem State.post_cnt (s : State) (o : Occ) : (s.post o).cnt = s.cnt :=
  (post_only (ks := evtKeys) evts_ok.1 s o).part .cnt (by decide) (by simp)
@[simp] theorem State.post_cyc (s : State) (o : Occ) : (s.post o).cyc = s.cyc :=
  (post_only (ks := evtKeys) evts_ok.1 s o).part .cyc (by decide) (by simp)
@[simp] theorem State.post_datum (s : State) (o : Occ) : (s.post o).datum = s.datum :=
  (post_only (ks := evtKeys) evts_ok.1 s o).part .datum (by decide) (by simp)
@[simp] theorem State.post_free (s : State) (o : Occ) : (s.post o).free = s.free :=
  (post_only (ks := evtKeys) evts_ok.1 s o).part .free (by decide) (by simp)
@[simp] theorem State.post_holdOff (s : State) (o : Occ) : (s.post o).holdOff = s.holdOff :=
  (post_only (ks := evtKeys) evts_ok.1 s o).part .holdOff (by decide) (by simp)
@[simp] theorem State.post_waits (s : State) (o : Occ) : (s.post o).waits = s.waits :=
  (post_only (ks := evtKeys) evts_ok.1 s o).part .waits (by decide) (by simp)
@[simp] theorem State.post_otp (s : State) (o : Occ) : (s.post o).otp = s.otp :=
  (post_only (ks := evtKeys) evts_ok.1 s o).part .otp (by decide) (by simp)
@[simp] theorem State.post_saStat (s : State) (o : Occ) : (s.post o).saStat = s.saStat :=
  (post_only (ks := evtKeys) evts_ok.1 s o).part .saStat (by decide) (by simp)
@[simp] theorem State.post_qDrop (s : State) (o : Occ) : (s.post o).qDrop = s.qDrop :=
  (post_only (ks := evtKeys) evts_ok.1 s o).part .qDrop (by decide) (by simp)
@[simp] theorem State.post_requests (s : State) (o : Occ) : (s.post o).requests = s.requests :=
  (post_only (ks := evtKeys) evts_ok.1 s o).part .requests (by decide) (by simp)
@[simp] theorem State.post_rules (s : State) (o : Occ) : (s.post o).rules = s.rules :=
  (post_only (ks := evtKeys) evts_ok.1 s o).part .rules (by decide) (by simp)
@[simp] theorem State.post_bypass (s : State) (o : Occ) : (s.post o).bypass = s.bypass :=
  (post_only (ks := evtKeys) evts_ok.1 s o).part .bypass (by decide) (by simp)
@[simp] theorem State.post_bypAt (s : State) (o : Occ) : (s.post o).bypAt = s.bypAt :=
  (post_only (ks := evtKeys) evts_ok.1 s o).part .bypAt (by decide) (by simp)
@[simp] theorem State.post_polAt (s : State) (o : Occ) : (s.post o).polAt = s.polAt :=
  (post_only (ks := evtKeys) evts_ok.1 s o).part .polAt (by decide) (by simp)
@[simp] theorem State.post_sampAt (s : State) (o : Occ) : (s.post o).sampAt = s.sampAt :=
  (post_only (ks := evtKeys) evts_ok.1 s o).part .sampAt (by decide) (by simp)
@[simp] theorem State.post_dat (s : State) (o : Occ) : (s.post o).dat = s.dat :=
  (post_only (ks := evtKeys) evts_ok.1 s o).part .dat (by decide) (by simp)
@[simp] theorem State.post_plat (s : State) (o : Occ) : (s.post o).plat = s.plat :=
  (post_only (ks := evtKeys) evts_ok.1 s o).part .plat (by decide) (by simp)
@[simp] theorem State.post_sec (s : State) (o : Occ) : (s.post o).sec = s.sec :=
  (post_only (ks := evtKeys) evts_ok.1 s o).part .sec (by decide) (by simp)
@[simp] theorem State.post_hrt (s : State) (o : Occ) : (s.post o).hrt = s.hrt :=
  (post_only (ks := evtKeys) evts_ok.1 s o).part .hrt (by decide) (by simp)
@[simp] theorem State.post_frames (s : State) (o : Occ) : (s.post o).frames = s.frames :=
  (post_only (ks := evtKeys) evts_ok.1 s o).part .frames (by decide) (by simp)
@[simp] theorem State.post_nextFrame (s : State) (o : Occ) : (s.post o).nextFrame = s.nextFrame :=
  (post_only (ks := evtKeys) evts_ok.1 s o).part .nextFrame (by decide) (by simp)
@[simp] theorem State.post_nextEnq (s : State) (o : Occ) : (s.post o).nextEnq = s.nextEnq :=
  (post_only (ks := evtKeys) evts_ok.1 s o).part .nextEnq (by decide) (by simp)
@[simp] theorem State.post_blw (s : State) (o : Occ) : (s.post o).blw = s.blw :=
  (post_only (ks := evtKeys) evts_ok.1 s o).part .blw (by decide) (by simp)
@[simp] theorem State.post_gates (s : State) (o : Occ) : (s.post o).gates = s.gates :=
  (post_only (ks := evtKeys) evts_ok.1 s o).part .gates (by decide) (by simp)
@[simp] theorem State.post_prt (s : State) (o : Occ) : (s.post o).prt = s.prt :=
  (post_only (ks := evtKeys) evts_ok.1 s o).part .prt (by decide) (by simp)
@[simp] theorem State.post_anvIdle (s : State) (o : Occ) : (s.post o).anvIdle = s.anvIdle :=
  (post_only (ks := evtKeys) evts_ok.1 s o).part .anvIdle (by decide) (by simp)
@[simp] theorem State.post_anvKat (s : State) (o : Occ) : (s.post o).anvKat = s.anvKat :=
  (post_only (ks := evtKeys) evts_ok.1 s o).part .anvKat (by decide) (by simp)
@[simp] theorem State.post_anvRet (s : State) (o : Occ) : (s.post o).anvRet = s.anvRet :=
  (post_only (ks := evtKeys) evts_ok.1 s o).part .anvRet (by decide) (by simp)
@[simp] theorem State.post_anvWake (s : State) (o : Occ) : (s.post o).anvWake = s.anvWake :=
  (post_only (ks := evtKeys) evts_ok.1 s o).part .anvWake (by decide) (by simp)
@[simp] theorem State.post_env (s : State) (o : Occ) : (s.post o).env = s.env :=
  (post_only (ks := evtKeys) evts_ok.1 s o).part .env (by decide) (by simp)
@[simp] theorem State.post_tie (s : State) (o : Occ) : (s.post o).tie = s.tie :=
  (post_only (ks := evtKeys) evts_ok.1 s o).part .tie (by decide) (by simp)
@[simp] theorem State.post_ecc (s : State) (o : Occ) : (s.post o).ecc = s.ecc :=
  (post_only (ks := evtKeys) evts_ok.1 s o).part .ecc (by decide) (by simp)
@[simp] theorem State.post_tmp (s : State) (o : Occ) : (s.post o).tmp = s.tmp :=
  (post_only (ks := evtKeys) evts_ok.1 s o).part .tmp (by decide) (by simp)
@[simp] theorem State.post_par (s : State) (o : Occ) : (s.post o).par = s.par :=
  (post_only (ks := evtKeys) evts_ok.1 s o).part .par (by decide) (by simp)
@[simp] theorem State.post_ctl (s : State) (o : Occ) : (s.post o).ctl = s.ctl :=
  (post_only (ks := evtKeys) evts_ok.1 s o).part .ctl (by decide) (by simp)
@[simp] theorem State.post_smbus (s : State) (o : Occ) : (s.post o).smbus = s.smbus :=
  (post_only (ks := evtKeys) evts_ok.1 s o).part .smbus (by decide) (by simp)
/-- A register that no event moves. -/
theorem State.word_post (s : State) (o : Occ) {x : Nat} (h : blockOf x ≠ 17) (h1 : x ≠ 0xF00000) (h2 : x ≠ 0xF00004) :
    (s.post o).word x = s.word x :=
  (post_only (ks := evtKeys) evts_ok.1 s o).word x (by simp [evtKeys, F.FBK_STATUS_SEC_USED, F.FBK_SEC_OVF_OVERFLOW, h1, h2]) (by simp [evts, h])

theorem State.fld_post (s : State) (o : Occ) {g : Fld} (h : blockOf g.addr ≠ 17) (h1 : g.addr ≠ 0xF00000) (h2 : g.addr ≠ 0xF00004) :
    (s.post o).fld g = s.fld g := by
  simp only [State.fld, State.word_post s o h h1 h2]

@[simp] theorem State.raise39_pending (s : State) (n c : Nat) (p : Option Nat) (r : CntRef) : (s.raise39 n c p r).pending = s.pending :=
  (raise39_only (evts_append [.holdOff] []) (by decide) s n c p r).part .pending (by decide) (by simp)
@[simp] theorem State.raise39_cnt (s : State) (n c : Nat) (p : Option Nat) (r : CntRef) : (s.raise39 n c p r).cnt = s.cnt :=
  (raise39_only (evts_append [.holdOff] []) (by decide) s n c p r).part .cnt (by decide) (by simp)
@[simp] theorem State.raise39_cyc (s : State) (n c : Nat) (p : Option Nat) (r : CntRef) : (s.raise39 n c p r).cyc = s.cyc :=
  (raise39_only (evts_append [.holdOff] []) (by decide) s n c p r).part .cyc (by decide) (by simp)
@[simp] theorem State.raise39_datum (s : State) (n c : Nat) (p : Option Nat) (r : CntRef) : (s.raise39 n c p r).datum = s.datum :=
  (raise39_only (evts_append [.holdOff] []) (by decide) s n c p r).part .datum (by decide) (by simp)
@[simp] theorem State.raise39_free (s : State) (n c : Nat) (p : Option Nat) (r : CntRef) : (s.raise39 n c p r).free = s.free :=
  (raise39_only (evts_append [.holdOff] []) (by decide) s n c p r).part .free (by decide) (by simp)
@[simp] theorem State.raise39_waits (s : State) (n c : Nat) (p : Option Nat) (r : CntRef) : (s.raise39 n c p r).waits = s.waits :=
  (raise39_only (evts_append [.holdOff] []) (by decide) s n c p r).part .waits (by decide) (by simp)
@[simp] theorem State.raise39_otp (s : State) (n c : Nat) (p : Option Nat) (r : CntRef) : (s.raise39 n c p r).otp = s.otp :=
  (raise39_only (evts_append [.holdOff] []) (by decide) s n c p r).part .otp (by decide) (by simp)
@[simp] theorem State.raise39_saStat (s : State) (n c : Nat) (p : Option Nat) (r : CntRef) : (s.raise39 n c p r).saStat = s.saStat :=
  (raise39_only (evts_append [.holdOff] []) (by decide) s n c p r).part .saStat (by decide) (by simp)
@[simp] theorem State.raise39_qDrop (s : State) (n c : Nat) (p : Option Nat) (r : CntRef) : (s.raise39 n c p r).qDrop = s.qDrop :=
  (raise39_only (evts_append [.holdOff] []) (by decide) s n c p r).part .qDrop (by decide) (by simp)
@[simp] theorem State.raise39_requests (s : State) (n c : Nat) (p : Option Nat) (r : CntRef) : (s.raise39 n c p r).requests = s.requests :=
  (raise39_only (evts_append [.holdOff] []) (by decide) s n c p r).part .requests (by decide) (by simp)
@[simp] theorem State.raise39_rules (s : State) (n c : Nat) (p : Option Nat) (r : CntRef) : (s.raise39 n c p r).rules = s.rules :=
  (raise39_only (evts_append [.holdOff] []) (by decide) s n c p r).part .rules (by decide) (by simp)
@[simp] theorem State.raise39_bypass (s : State) (n c : Nat) (p : Option Nat) (r : CntRef) : (s.raise39 n c p r).bypass = s.bypass :=
  (raise39_only (evts_append [.holdOff] []) (by decide) s n c p r).part .bypass (by decide) (by simp)
@[simp] theorem State.raise39_bypAt (s : State) (n c : Nat) (p : Option Nat) (r : CntRef) : (s.raise39 n c p r).bypAt = s.bypAt :=
  (raise39_only (evts_append [.holdOff] []) (by decide) s n c p r).part .bypAt (by decide) (by simp)
@[simp] theorem State.raise39_polAt (s : State) (n c : Nat) (p : Option Nat) (r : CntRef) : (s.raise39 n c p r).polAt = s.polAt :=
  (raise39_only (evts_append [.holdOff] []) (by decide) s n c p r).part .polAt (by decide) (by simp)
@[simp] theorem State.raise39_sampAt (s : State) (n c : Nat) (p : Option Nat) (r : CntRef) : (s.raise39 n c p r).sampAt = s.sampAt :=
  (raise39_only (evts_append [.holdOff] []) (by decide) s n c p r).part .sampAt (by decide) (by simp)
@[simp] theorem State.raise39_dat (s : State) (n c : Nat) (p : Option Nat) (r : CntRef) : (s.raise39 n c p r).dat = s.dat :=
  (raise39_only (evts_append [.holdOff] []) (by decide) s n c p r).part .dat (by decide) (by simp)
@[simp] theorem State.raise39_plat (s : State) (n c : Nat) (p : Option Nat) (r : CntRef) : (s.raise39 n c p r).plat = s.plat :=
  (raise39_only (evts_append [.holdOff] []) (by decide) s n c p r).part .plat (by decide) (by simp)
@[simp] theorem State.raise39_sec (s : State) (n c : Nat) (p : Option Nat) (r : CntRef) : (s.raise39 n c p r).sec = s.sec :=
  (raise39_only (evts_append [.holdOff] []) (by decide) s n c p r).part .sec (by decide) (by simp)
@[simp] theorem State.raise39_hrt (s : State) (n c : Nat) (p : Option Nat) (r : CntRef) : (s.raise39 n c p r).hrt = s.hrt :=
  (raise39_only (evts_append [.holdOff] []) (by decide) s n c p r).part .hrt (by decide) (by simp)
@[simp] theorem State.raise39_frames (s : State) (n c : Nat) (p : Option Nat) (r : CntRef) : (s.raise39 n c p r).frames = s.frames :=
  (raise39_only (evts_append [.holdOff] []) (by decide) s n c p r).part .frames (by decide) (by simp)
@[simp] theorem State.raise39_nextFrame (s : State) (n c : Nat) (p : Option Nat) (r : CntRef) : (s.raise39 n c p r).nextFrame = s.nextFrame :=
  (raise39_only (evts_append [.holdOff] []) (by decide) s n c p r).part .nextFrame (by decide) (by simp)
@[simp] theorem State.raise39_nextEnq (s : State) (n c : Nat) (p : Option Nat) (r : CntRef) : (s.raise39 n c p r).nextEnq = s.nextEnq :=
  (raise39_only (evts_append [.holdOff] []) (by decide) s n c p r).part .nextEnq (by decide) (by simp)
@[simp] theorem State.raise39_blw (s : State) (n c : Nat) (p : Option Nat) (r : CntRef) : (s.raise39 n c p r).blw = s.blw :=
  (raise39_only (evts_append [.holdOff] []) (by decide) s n c p r).part .blw (by decide) (by simp)
@[simp] theorem State.raise39_gates (s : State) (n c : Nat) (p : Option Nat) (r : CntRef) : (s.raise39 n c p r).gates = s.gates :=
  (raise39_only (evts_append [.holdOff] []) (by decide) s n c p r).part .gates (by decide) (by simp)
@[simp] theorem State.raise39_prt (s : State) (n c : Nat) (p : Option Nat) (r : CntRef) : (s.raise39 n c p r).prt = s.prt :=
  (raise39_only (evts_append [.holdOff] []) (by decide) s n c p r).part .prt (by decide) (by simp)
@[simp] theorem State.raise39_anvIdle (s : State) (n c : Nat) (p : Option Nat) (r : CntRef) : (s.raise39 n c p r).anvIdle = s.anvIdle :=
  (raise39_only (evts_append [.holdOff] []) (by decide) s n c p r).part .anvIdle (by decide) (by simp)
@[simp] theorem State.raise39_anvKat (s : State) (n c : Nat) (p : Option Nat) (r : CntRef) : (s.raise39 n c p r).anvKat = s.anvKat :=
  (raise39_only (evts_append [.holdOff] []) (by decide) s n c p r).part .anvKat (by decide) (by simp)
@[simp] theorem State.raise39_anvRet (s : State) (n c : Nat) (p : Option Nat) (r : CntRef) : (s.raise39 n c p r).anvRet = s.anvRet :=
  (raise39_only (evts_append [.holdOff] []) (by decide) s n c p r).part .anvRet (by decide) (by simp)
@[simp] theorem State.raise39_anvWake (s : State) (n c : Nat) (p : Option Nat) (r : CntRef) : (s.raise39 n c p r).anvWake = s.anvWake :=
  (raise39_only (evts_append [.holdOff] []) (by decide) s n c p r).part .anvWake (by decide) (by simp)
@[simp] theorem State.raise39_env (s : State) (n c : Nat) (p : Option Nat) (r : CntRef) : (s.raise39 n c p r).env = s.env :=
  (raise39_only (evts_append [.holdOff] []) (by decide) s n c p r).part .env (by decide) (by simp)
@[simp] theorem State.raise39_tie (s : State) (n c : Nat) (p : Option Nat) (r : CntRef) : (s.raise39 n c p r).tie = s.tie :=
  (raise39_only (evts_append [.holdOff] []) (by decide) s n c p r).part .tie (by decide) (by simp)
@[simp] theorem State.raise39_ecc (s : State) (n c : Nat) (p : Option Nat) (r : CntRef) : (s.raise39 n c p r).ecc = s.ecc :=
  (raise39_only (evts_append [.holdOff] []) (by decide) s n c p r).part .ecc (by decide) (by simp)
@[simp] theorem State.raise39_tmp (s : State) (n c : Nat) (p : Option Nat) (r : CntRef) : (s.raise39 n c p r).tmp = s.tmp :=
  (raise39_only (evts_append [.holdOff] []) (by decide) s n c p r).part .tmp (by decide) (by simp)
@[simp] theorem State.raise39_par (s : State) (n c : Nat) (p : Option Nat) (r : CntRef) : (s.raise39 n c p r).par = s.par :=
  (raise39_only (evts_append [.holdOff] []) (by decide) s n c p r).part .par (by decide) (by simp)
@[simp] theorem State.raise39_ctl (s : State) (n c : Nat) (p : Option Nat) (r : CntRef) : (s.raise39 n c p r).ctl = s.ctl :=
  (raise39_only (evts_append [.holdOff] []) (by decide) s n c p r).part .ctl (by decide) (by simp)
@[simp] theorem State.raise39_smbus (s : State) (n c : Nat) (p : Option Nat) (r : CntRef) : (s.raise39 n c p r).smbus = s.smbus :=
  (raise39_only (evts_append [.holdOff] []) (by decide) s n c p r).part .smbus (by decide) (by simp)
/-- A register that no event moves. -/
theorem State.word_raise39 (s : State) (n c : Nat) (p : Option Nat) (r : CntRef) {x : Nat} (h : blockOf x ≠ 17) (h1 : x ≠ 0xF00000) (h2 : x ≠ 0xF00004) :
    (s.raise39 n c p r).word x = s.word x :=
  (raise39_only (evts_append [.holdOff] []) (by decide) s n c p r).word x (by simp [evtKeys, F.FBK_STATUS_SEC_USED, F.FBK_SEC_OVF_OVERFLOW, h1, h2]) (by simp [evts, h])

theorem State.fld_raise39 (s : State) (n c : Nat) (p : Option Nat) (r : CntRef) {g : Fld} (h : blockOf g.addr ≠ 17) (h1 : g.addr ≠ 0xF00000) (h2 : g.addr ≠ 0xF00004) :
    (s.raise39 n c p r).fld g = s.fld g := by
  simp only [State.fld, State.word_raise39 s n c p r h h1 h2]

@[simp] theorem State.dropDev_pending (s : State) (n c : Nat) (p : Option Nat) (i : Nat) : (s.dropDev n c p i).pending = s.pending :=
  (dropDev_only (evts_append [.holdOff, .cnt] []) (by decide) (by decide) s n c p i).part .pending (by decide) (by simp)
@[simp] theorem State.dropDev_cyc (s : State) (n c : Nat) (p : Option Nat) (i : Nat) : (s.dropDev n c p i).cyc = s.cyc :=
  (dropDev_only (evts_append [.holdOff, .cnt] []) (by decide) (by decide) s n c p i).part .cyc (by decide) (by simp)
@[simp] theorem State.dropDev_datum (s : State) (n c : Nat) (p : Option Nat) (i : Nat) : (s.dropDev n c p i).datum = s.datum :=
  (dropDev_only (evts_append [.holdOff, .cnt] []) (by decide) (by decide) s n c p i).part .datum (by decide) (by simp)
@[simp] theorem State.dropDev_free (s : State) (n c : Nat) (p : Option Nat) (i : Nat) : (s.dropDev n c p i).free = s.free :=
  (dropDev_only (evts_append [.holdOff, .cnt] []) (by decide) (by decide) s n c p i).part .free (by decide) (by simp)
@[simp] theorem State.dropDev_waits (s : State) (n c : Nat) (p : Option Nat) (i : Nat) : (s.dropDev n c p i).waits = s.waits :=
  (dropDev_only (evts_append [.holdOff, .cnt] []) (by decide) (by decide) s n c p i).part .waits (by decide) (by simp)
@[simp] theorem State.dropDev_otp (s : State) (n c : Nat) (p : Option Nat) (i : Nat) : (s.dropDev n c p i).otp = s.otp :=
  (dropDev_only (evts_append [.holdOff, .cnt] []) (by decide) (by decide) s n c p i).part .otp (by decide) (by simp)
@[simp] theorem State.dropDev_saStat (s : State) (n c : Nat) (p : Option Nat) (i : Nat) : (s.dropDev n c p i).saStat = s.saStat :=
  (dropDev_only (evts_append [.holdOff, .cnt] []) (by decide) (by decide) s n c p i).part .saStat (by decide) (by simp)
@[simp] theorem State.dropDev_qDrop (s : State) (n c : Nat) (p : Option Nat) (i : Nat) : (s.dropDev n c p i).qDrop = s.qDrop :=
  (dropDev_only (evts_append [.holdOff, .cnt] []) (by decide) (by decide) s n c p i).part .qDrop (by decide) (by simp)
@[simp] theorem State.dropDev_requests (s : State) (n c : Nat) (p : Option Nat) (i : Nat) : (s.dropDev n c p i).requests = s.requests :=
  (dropDev_only (evts_append [.holdOff, .cnt] []) (by decide) (by decide) s n c p i).part .requests (by decide) (by simp)
@[simp] theorem State.dropDev_rules (s : State) (n c : Nat) (p : Option Nat) (i : Nat) : (s.dropDev n c p i).rules = s.rules :=
  (dropDev_only (evts_append [.holdOff, .cnt] []) (by decide) (by decide) s n c p i).part .rules (by decide) (by simp)
@[simp] theorem State.dropDev_bypass (s : State) (n c : Nat) (p : Option Nat) (i : Nat) : (s.dropDev n c p i).bypass = s.bypass :=
  (dropDev_only (evts_append [.holdOff, .cnt] []) (by decide) (by decide) s n c p i).part .bypass (by decide) (by simp)
@[simp] theorem State.dropDev_bypAt (s : State) (n c : Nat) (p : Option Nat) (i : Nat) : (s.dropDev n c p i).bypAt = s.bypAt :=
  (dropDev_only (evts_append [.holdOff, .cnt] []) (by decide) (by decide) s n c p i).part .bypAt (by decide) (by simp)
@[simp] theorem State.dropDev_polAt (s : State) (n c : Nat) (p : Option Nat) (i : Nat) : (s.dropDev n c p i).polAt = s.polAt :=
  (dropDev_only (evts_append [.holdOff, .cnt] []) (by decide) (by decide) s n c p i).part .polAt (by decide) (by simp)
@[simp] theorem State.dropDev_sampAt (s : State) (n c : Nat) (p : Option Nat) (i : Nat) : (s.dropDev n c p i).sampAt = s.sampAt :=
  (dropDev_only (evts_append [.holdOff, .cnt] []) (by decide) (by decide) s n c p i).part .sampAt (by decide) (by simp)
@[simp] theorem State.dropDev_dat (s : State) (n c : Nat) (p : Option Nat) (i : Nat) : (s.dropDev n c p i).dat = s.dat :=
  (dropDev_only (evts_append [.holdOff, .cnt] []) (by decide) (by decide) s n c p i).part .dat (by decide) (by simp)
@[simp] theorem State.dropDev_plat (s : State) (n c : Nat) (p : Option Nat) (i : Nat) : (s.dropDev n c p i).plat = s.plat :=
  (dropDev_only (evts_append [.holdOff, .cnt] []) (by decide) (by decide) s n c p i).part .plat (by decide) (by simp)
@[simp] theorem State.dropDev_sec (s : State) (n c : Nat) (p : Option Nat) (i : Nat) : (s.dropDev n c p i).sec = s.sec :=
  (dropDev_only (evts_append [.holdOff, .cnt] []) (by decide) (by decide) s n c p i).part .sec (by decide) (by simp)
@[simp] theorem State.dropDev_hrt (s : State) (n c : Nat) (p : Option Nat) (i : Nat) : (s.dropDev n c p i).hrt = s.hrt :=
  (dropDev_only (evts_append [.holdOff, .cnt] []) (by decide) (by decide) s n c p i).part .hrt (by decide) (by simp)
@[simp] theorem State.dropDev_frames (s : State) (n c : Nat) (p : Option Nat) (i : Nat) : (s.dropDev n c p i).frames = s.frames :=
  (dropDev_only (evts_append [.holdOff, .cnt] []) (by decide) (by decide) s n c p i).part .frames (by decide) (by simp)
@[simp] theorem State.dropDev_nextFrame (s : State) (n c : Nat) (p : Option Nat) (i : Nat) : (s.dropDev n c p i).nextFrame = s.nextFrame :=
  (dropDev_only (evts_append [.holdOff, .cnt] []) (by decide) (by decide) s n c p i).part .nextFrame (by decide) (by simp)
@[simp] theorem State.dropDev_nextEnq (s : State) (n c : Nat) (p : Option Nat) (i : Nat) : (s.dropDev n c p i).nextEnq = s.nextEnq :=
  (dropDev_only (evts_append [.holdOff, .cnt] []) (by decide) (by decide) s n c p i).part .nextEnq (by decide) (by simp)
@[simp] theorem State.dropDev_blw (s : State) (n c : Nat) (p : Option Nat) (i : Nat) : (s.dropDev n c p i).blw = s.blw :=
  (dropDev_only (evts_append [.holdOff, .cnt] []) (by decide) (by decide) s n c p i).part .blw (by decide) (by simp)
@[simp] theorem State.dropDev_gates (s : State) (n c : Nat) (p : Option Nat) (i : Nat) : (s.dropDev n c p i).gates = s.gates :=
  (dropDev_only (evts_append [.holdOff, .cnt] []) (by decide) (by decide) s n c p i).part .gates (by decide) (by simp)
@[simp] theorem State.dropDev_prt (s : State) (n c : Nat) (p : Option Nat) (i : Nat) : (s.dropDev n c p i).prt = s.prt :=
  (dropDev_only (evts_append [.holdOff, .cnt] []) (by decide) (by decide) s n c p i).part .prt (by decide) (by simp)
@[simp] theorem State.dropDev_anvIdle (s : State) (n c : Nat) (p : Option Nat) (i : Nat) : (s.dropDev n c p i).anvIdle = s.anvIdle :=
  (dropDev_only (evts_append [.holdOff, .cnt] []) (by decide) (by decide) s n c p i).part .anvIdle (by decide) (by simp)
@[simp] theorem State.dropDev_anvKat (s : State) (n c : Nat) (p : Option Nat) (i : Nat) : (s.dropDev n c p i).anvKat = s.anvKat :=
  (dropDev_only (evts_append [.holdOff, .cnt] []) (by decide) (by decide) s n c p i).part .anvKat (by decide) (by simp)
@[simp] theorem State.dropDev_anvRet (s : State) (n c : Nat) (p : Option Nat) (i : Nat) : (s.dropDev n c p i).anvRet = s.anvRet :=
  (dropDev_only (evts_append [.holdOff, .cnt] []) (by decide) (by decide) s n c p i).part .anvRet (by decide) (by simp)
@[simp] theorem State.dropDev_anvWake (s : State) (n c : Nat) (p : Option Nat) (i : Nat) : (s.dropDev n c p i).anvWake = s.anvWake :=
  (dropDev_only (evts_append [.holdOff, .cnt] []) (by decide) (by decide) s n c p i).part .anvWake (by decide) (by simp)
@[simp] theorem State.dropDev_env (s : State) (n c : Nat) (p : Option Nat) (i : Nat) : (s.dropDev n c p i).env = s.env :=
  (dropDev_only (evts_append [.holdOff, .cnt] []) (by decide) (by decide) s n c p i).part .env (by decide) (by simp)
@[simp] theorem State.dropDev_tie (s : State) (n c : Nat) (p : Option Nat) (i : Nat) : (s.dropDev n c p i).tie = s.tie :=
  (dropDev_only (evts_append [.holdOff, .cnt] []) (by decide) (by decide) s n c p i).part .tie (by decide) (by simp)
@[simp] theorem State.dropDev_ecc (s : State) (n c : Nat) (p : Option Nat) (i : Nat) : (s.dropDev n c p i).ecc = s.ecc :=
  (dropDev_only (evts_append [.holdOff, .cnt] []) (by decide) (by decide) s n c p i).part .ecc (by decide) (by simp)
@[simp] theorem State.dropDev_tmp (s : State) (n c : Nat) (p : Option Nat) (i : Nat) : (s.dropDev n c p i).tmp = s.tmp :=
  (dropDev_only (evts_append [.holdOff, .cnt] []) (by decide) (by decide) s n c p i).part .tmp (by decide) (by simp)
@[simp] theorem State.dropDev_par (s : State) (n c : Nat) (p : Option Nat) (i : Nat) : (s.dropDev n c p i).par = s.par :=
  (dropDev_only (evts_append [.holdOff, .cnt] []) (by decide) (by decide) s n c p i).part .par (by decide) (by simp)
@[simp] theorem State.dropDev_ctl (s : State) (n c : Nat) (p : Option Nat) (i : Nat) : (s.dropDev n c p i).ctl = s.ctl :=
  (dropDev_only (evts_append [.holdOff, .cnt] []) (by decide) (by decide) s n c p i).part .ctl (by decide) (by simp)
@[simp] theorem State.dropDev_smbus (s : State) (n c : Nat) (p : Option Nat) (i : Nat) : (s.dropDev n c p i).smbus = s.smbus :=
  (dropDev_only (evts_append [.holdOff, .cnt] []) (by decide) (by decide) s n c p i).part .smbus (by decide) (by simp)
/-- A register that no event moves. -/
theorem State.word_dropDev (s : State) (n c : Nat) (p : Option Nat) (i : Nat) {x : Nat} (h : blockOf x ≠ 17) (h1 : x ≠ 0xF00000) (h2 : x ≠ 0xF00004) :
    (s.dropDev n c p i).word x = s.word x :=
  (dropDev_only (evts_append [.holdOff, .cnt] []) (by decide) (by decide) s n c p i).word x (by simp [evtKeys, F.FBK_STATUS_SEC_USED, F.FBK_SEC_OVF_OVERFLOW, h1, h2]) (by simp [evts, h])

theorem State.fld_dropDev (s : State) (n c : Nat) (p : Option Nat) (i : Nat) {g : Fld} (h : blockOf g.addr ≠ 17) (h1 : g.addr ≠ 0xF00000) (h2 : g.addr ≠ 0xF00004) :
    (s.dropDev n c p i).fld g = s.fld g := by
  simp only [State.fld, State.word_dropDev s n c p i h h1 h2]

end Sys2Proof.Machine
end

