-- ==== Sys2Proof/WellFormed.lean ====
section
/-! DEFINITION. WellFormed.lean: which terms of Instr are commands that the block can be given: the word of a command register
spells the row's OP, a payload fits its LEN field, a message its frame. -/

namespace Sys2Proof

open Machine

/-- The word of a command register spells the OP of the row; a ring command is told by its opcode. -/
def opOk (op : Fld) (n : Nat) : Via → Bool
  | .reg _ word => bitsOf word op.lo op.width == n
  | .ring _ => true

/-- A payload fits LEN of its descriptor (R330). -/
def Desc.wf (d : Desc) : Bool := decide (d.payload.length < 2 ^ 32)

def Via.wf : Via → Bool
  | .reg _ _ => true
  | .ring d => d.wf

/-- A blob is at most 2,048 bytes (R237). -/
def blobWf (b : List Byte) : Bool := decide (b.length ≤ 2048)

def TieItem.wf : TieItem → Bool
  | .assoc _ ctx blob => ctx.length == 64 && blobWf blob
  | .station _ => true
  | .slot _ _ blob => blobWf blob

/-- A command that the block can be given. -/
def Instr.wf : Instr → Bool
  | .registerWrite _ _ _ _ _ => true
  | .unalignedAccess _ _ => true
  | .secureAccessRefused _ _ _ => true
  | .opZeroWrite _ _ _ => true
  | .reservedOpWrite _ _ _ => true
  | .clearFrameArrival _ _ _ _ => true
  | .lineFrameArrival _ _ _ _ => true
  | .contextFetchDone _ _ => true
  | .frameRxEnd _ _ _ => true
  | .tongsDispatch _ => true
  | .reservationDurable _ => true
  | .icvVerdict _ => true
  | .verdictDeadline _ => true
  | .speculativeStart _ => true
  | .framePass _ => true
  | .heatRelease _ => true
  | .transmitSelect _ _ => true
  | .frameTxEnd _ _ => true
  | .controlFrameOriginate _ _ b => decide (64 ≤ b.length)
  | .bypassBucketRefill => true
  | .policerRefill => true
  | .queueSample => true
  | .holdOffExpiry _ => true
  | .ruleRead v => v.wf && opOk F.TRV_RULE_CMD_OP 1 v
  | .ruleWrite v => v.wf && opOk F.TRV_RULE_CMD_OP 2 v
  | .ruleInvalidate v => v.wf && opOk F.TRV_RULE_CMD_OP 3 v
  | .ruleReadClear v => v.wf && opOk F.TRV_RULE_CMD_OP 4 v
  | .generationSwap _ => true
  | .bypassCapWrite _ _ _ _ => true
  | .learnRequest => true
  | .holdDownExpiry _ => true
  | .agingSweep => true
  | .sweepPassEnd => true
  | .rebuildStart _ => true
  | .rebuildMigrate => true
  | .stashThreshold => true
  | .pltLookup v => v.wf && opOk F.PLT_CMD_OP 1 v
  | .pltInsert v => v.wf && opOk F.PLT_CMD_OP 2 v
  | .pltReplace v => v.wf && opOk F.PLT_CMD_OP 3 v
  | .pltDelete v => v.wf && opOk F.PLT_CMD_OP 4 v
  | .pltReadAddr v => v.wf && opOk F.PLT_CMD_OP 5 v
  | .pltReadStash v => v.wf && opOk F.PLT_CMD_OP 6 v
  | .pltFlush v => v.wf && opOk F.PLT_CMD_OP 7 v
  | .pltFlushDone => true
  | .scRead v => v.wf && opOk F.SEC_CMD_OP 1 v
  | .scWrite v => v.wf && opOk F.SEC_CMD_OP 2 v
  | .saRead v => v.wf && opOk F.SEC_CMD_OP 3 v
  | .saInstall v => v.wf && opOk F.SEC_CMD_OP 4 v
  | .saDelete v => v.wf && opOk F.SEC_CMD_OP 5 v
  | .saEnable v => v.wf && opOk F.SEC_CMD_OP 6 v
  | .saRetire v => v.wf && opOk F.SEC_CMD_OP 7 v
  | .scSwitch v => v.wf && opOk F.SEC_CMD_OP 8 v
  | .scSchedule v => v.wf && opOk F.SEC_CMD_OP 9 v
  | .scCancel v => v.wf && opOk F.SEC_CMD_OP 10 v
  | .saRaisePn v => v.wf && opOk F.SEC_CMD_OP 11 v
  | .saRevoke v => v.wf && opOk F.SEC_CMD_OP 12 v
  | .saStats v => v.wf && opOk F.SEC_CMD_OP 13 v
  | .saPn v => v.wf && opOk F.SEC_CMD_OP 14 v
  | .scheduledSwitchDue _ => true
  | .drainExpiry _ => true
  | .quarantineExpiry _ => true
  | .knownAnswerTest _ _ => true
  | .anvilFault _ _ => true
  | .shadowRestore _ => true
  | .anvReturn _ _ => true
  | .anvReturnSelfTestDone _ _ => true
  | .anvRemove _ _ => true
  | .anvRemoveDrained _ => true
  | .powerGate => true
  | .anvilWake => true
  | .anvilWakeDone _ => true
  | .hwmClr => true
  | .stompWindowEnd => true
  | .suspensionEnd _ => true
  | .relResume _ _ => true
  | .qRead v => v.wf && opOk F.BLW_QCMD_OP 1 v
  | .qWrite v => v.wf && opOk F.BLW_QCMD_OP 2 v
  | .qClrMax v => v.wf && opOk F.BLW_QCMD_OP 3 v
  | .gateBoundary _ => true
  | .horizonApply _ => true
  | .listSwap _ => true
  | .gatReadAct v => v.wf && opOk F.GAT_GCL_CMD_OP 1 v
  | .gatReadPend v => v.wf && opOk F.GAT_GCL_CMD_OP 2 v
  | .gatWritePend v => v.wf && opOk F.GAT_GCL_CMD_OP 3 v
  | .gatArm v => v.wf && opOk F.GAT_GCL_CMD_OP 4 v
  | .gatDisarm v => v.wf && opOk F.GAT_GCL_CMD_OP 5 v
  | .mergeVerifyDone _ _ => true
  | .datSet v => v.wf && opOk F.DAT_CMD_OP 1 v
  | .datStep v => v.wf && opOk F.DAT_CMD_OP 2 v
  | .datSlew v => v.wf && opOk F.DAT_CMD_OP 3 v
  | .datReport v => v.wf && opOk F.DAT_CMD_OP 4 v
  | .datSlewAbort v => v.wf && opOk F.DAT_CMD_OP 5 v
  | .datSlewDone => true
  | .ppsInEdge _ _ => true
  | .todMessage b => b.length == 16
  | .sourceLost _ => true
  | .datumHoldoverExpiry => true
  | .freqWrite _ _ => true
  | .sourceChange _ _ => true
  | .nowLatch => true
  | .ppsOutSecond => true
  | .meridInEdge _ _ _ => true
  | .meridianEdgeMissing => true
  | .meridianHoldExpiry => true
  | .benchCapture _ _ _ => true
  | .benchPop _ => true
  | .stakeArm _ _ _ => true
  | .stakeDisarm _ _ _ => true
  | .stakeFiring _ => true
  | .slotAttr v => v.wf && opOk F.HRT_CMD_OP 1 v
  | .slotImport v => v.wf && opOk F.HRT_CMD_OP 2 v
  | .slotGenerate v => v.wf && opOk F.HRT_CMD_OP 3 v
  | .slotDerive v => v.wf && opOk F.HRT_CMD_OP 4 v
  | .slotExport v => v.wf && opOk F.HRT_CMD_OP 5 v
  | .slotRevoke v => v.wf && opOk F.HRT_CMD_OP 6 v
  | .revocationSweepDone => true
  | .slotDelete v => v.wf && opOk F.HRT_CMD_OP 7 v
  | .attrSet v => v.wf && opOk F.HRT_CMD_OP 8 v
  | .sakUnwrap v => v.wf && opOk F.HRT_CMD_OP 9 v
  | .sakFromSlot v => v.wf && opOk F.HRT_CMD_OP 10 v
  | .mkaKdf v => v.wf && opOk F.HRT_CMD_OP 11 v
  | .mkaIcv v => v.wf && opOk F.HRT_CMD_OP 12 v
  | .mkaSakWrap v => v.wf && opOk F.HRT_CMD_OP 13 v
  | .mkaSakUnwrap v => v.wf && opOk F.HRT_CMD_OP 14 v
  | .macGen v => v.wf && opOk F.HRT_CMD_OP 15 v
  | .macVerify v => v.wf && opOk F.HRT_CMD_OP 15 v
  | .hrtSign v => v.wf && opOk F.HRT_CMD_OP 15 v
  | .handoffDrop v => v.wf && opOk F.HRT_CMD_OP 16 v
  | .importPubkey v => v.wf && opOk F.HRT_CMD_OP 17 v
  | .quenchSlot v => v.wf && opOk F.HRT_CMD_OP 18 v
  | .quenchParcel v => v.wf && opOk F.HRT_CMD_OP 18 v
  | .quenchErase v => v.wf && opOk F.HRT_CMD_OP 18 v
  | .quenchPurge v => v.wf && opOk F.HRT_CMD_OP 18 v
  | .quenchComplete _ => true
  | .handoffExpiry _ => true
  | .storeCommitDone _ => true
  | .randomRead _ => true
  | .trngHealthFail => true
  | .trngRecover _ => true
  | .drbgReseed => true
  | .lockstepDivergence => true
  | .recoveryErase _ => true
  | .recoveryWrite _ => true
  | .recoveryBoot _ => true
  | .firmwareBoot _ => true
  | .imageStage d => d.wf
  | .imageVerify d => d.wf
  | .commit d => d.wf
  | .commitAt d => d.wf
  | .commitCancel d => d.wf
  | .prestage => true
  | .commitSwitch _ => true
  | .scheduledCommitUnsync => true
  | .poststage => true
  | .sessionOpen d => d.wf
  | .sessionConfirm d => d.wf
  | .sessionClose d => d.wf
  | .sessionIdleTimeout _ => true
  | .cmdNop d => d.wf
  | .challenge d => d.wf
  | .attest d => d.wf
  | .certGet d => d.wf
  | .fwStage d => d.wf
  | .fwUpdate d _ => d.wf
  | .fwConfirm d => d.wf
  | .trialExpiry => true
  | .takeOwnership d _ _ => d.wf
  | .transferOwner d _ _ => d.wf
  | .sealDevice d _ _ => d.wf
  | .retireDevice d _ _ => d.wf
  | .revokeAuthKey d => d.wf
  | .debugUnlock d => d.wf
  | .jtagInstruction _ => true
  | .callGateRequest _ _ => true
  | .serviceWatchdogExpiry => true
  | .parcelAssign d => d.wf
  | .parcelRelease d => d.wf
  | .parcelReset d => d.wf
  | .parcelResetDone _ => true
  | .parcelResetTimeout _ => true
  | .parcelFreeze d => d.wf
  | .parcelFrozen _ => true
  | .freezeTimeout _ => true
  | .parcelThaw d => d.wf
  | .parcelSave d => d.wf
  | .parcelRestore d img _ => d.wf && decide (img.length < 2 ^ 32)
  | .parcelWindowWrite _ _ _ => true
  | .regRead d => d.wf
  | .regWrite d => d.wf
  | .counterRead d => d.wf
  | .counterClear d => d.wf
  | .fbRead d => d.wf
  | .fbClear d => d.wf
  | .badOpcode d _ => d.wf
  | .cmdTailWrite _ _ => true
  | .cmdErrClear _ _ => true
  | .ringEnable _ _ => true
  | .msgHeadWrite _ _ => true
  | .functionLevelReset _ => true
  | .linkStateChange _ _ _ _ => true
  | .conventionalReset => true
  | .msixUnmask _ _ _ => true
  | .coalescingExpiry _ _ => true
  | .temperRead _ _ _ => true
  | .temperWrite _ _ off b _ => decide (1 ≤ b.length) && decide (off.val + b.length ≤ 64)
  | .patrolScrubLine _ _ => true
  | .tmpScrubStart _ _ => true
  | .eccScrubWord _ _ _ _ => true
  | .eccScrubStart _ _ => true
  | .eccLogClear _ _ => true
  | .eccInjectArm _ _ _ => true
  | .tieHello _ _ _ fw cfg kcv => fw.length == 48 && cfg.length == 48 && kcv.length == 8
  | .tieHeartbeat _ _ _ _ _ marks => decide (marks.length ≤ 8)
  | .tieBlock _ _ _ _ _ marks => decide (marks.length ≤ 32)
  | .tieMirror _ m => decide (m.payload.length ≤ 67108864) && blobWf m.blob
  | .tieSnapshot _ items _ => items.all TieItem.wf
  | .tieFault _ _ => true
  | .tieSelfcheck _ _ _ => true
  | .tieSwap _ _ => true
  | .tieRealign _ _ _ => true
  | .tiePtp _ _ => true
  | .tieMessageError _ => true
  | .heartbeatSend => true
  | .heartbeatLoss => true
  | .tieHoldInChange _ => true
  | .holdWaitDone => true
  | .holdTimerExpiry => true
  | .tieLinkChange _ _ _ => true
  | .formationTimeout => true
  | .digestTimeout _ _ => true
  | .realignTime => true
  | .selfCheckDone _ => true
  | .takeoverComplete => true
  | .tieCtlSwap _ => true
  | .autoSwap => true
  | .swapInstant => true
  | .swapComplete => true
  | .tieCtlRealign _ => true
  | .failOverRestart _ => true
  | .monitorAlarm _ _ _ => true
  | .monitorWarning _ _ => true
  | .monitorReturn _ _ => true
  | .responseRequest => true
  | .doubledDecisionSecond _ => true
  | .evidenceProgrammed => true
  | .batteryAlarm _ _ => true
  | .vbatLoss => true
  | .hourlyCommit _ => true
  | .operatingMinute => true
  | .environmentSample _ => true
  | .samplePairTimeout => true
  | .oneShotArm _ _ => true
  | .samplerRestart _ _ => true
  | .hselWrite _ _ _ => true
  | .bandwidthWindowEnd => true
  | .windowUsWrite _ _ => true
  | .counterLowRead _ _ => true
  | .bandwidthRead _ => true
  | .laneSignalChange _ _ _ => true
  | .trainingDone _ => true
  | .trainingTimeout _ => true
  | .alignmentDone _ => true
  | .alignmentTimeout _ => true
  | .linkDown _ _ => true
  | .remoteFaultChange _ _ => true
  | .laneWakeDone _ _ => true
  | .laneSleepWrite _ _ _ => true
  | .testFieldWrite _ _ _ _ => true
  | .prbsLockChange _ _ => true
  | .prbsInj _ => true
  | .prbsClr _ => true
  | .qualUpdate _ _ => true
  | .portRestart _ _ => true
  | .fecInterval _ _ _ _ _ => true
  | .portOpen _ => true
  | .powerOnReset _ _ => true
  | .chipReset _ _ => true
  | .watchdogReset _ => true
  | .porstNRelease _ _ _ => true
  | .smbusRead _ _ _ => true
  | .policerWrite _ _ _ _ _ => true
  | .takeoverDecisionRetry => true
  | .controlQueueDequeue => true
  | .descriptorReadError _ => true
  | .messageWriteError _ => true
  | .aerUncorrectableError _ _ => true
  | .serdesReferenceChange _ _ => true
  | .corePllLock _ => true
  | .stakePulseEnd _ => true
  | .ppsOutPulseEnd => true

end Sys2Proof
end

