-- ==== Sys2Proof/Tests/Slice0.lean ====
section
/-! SUPPORT. Tests/Slice0.lean: terms that WellFormed refuses, a few steps, and for every statement of Obligations.lean with hypotheses a concrete state and
operands that meet them, clause by clause: `<name>_met` lists, in the order of its clauses, what each asks. -/

namespace Sys2Proof.Tests

set_option Elab.async false

open Machine

/-! ## States and descriptors the tests stand on -/

/-- `s` with these fields set. -/
def put (s : State) (l : List (Fld × Nat)) : State := l.foldl (fun s e => s.setFld e.1 e.2) s

/-- Powered, out of reset, with configuration applied. -/
def up : State := { put State.reset [(F.GLB_BOOT_STAGE, 4)] with env := { held := false, pll := true } }

/-- A session of this class over every parcel. -/
def sess (cls : Nat) : Session :=
  { id := 0, kCmd := [], kRsp := [], cls := cls, parcels := BitVec.allOnes 64, manager := none, lastCmd := 0 }

/-- `s` with both rings of PF0 enabled, one command waiting, and a session of that class. -/
def ring (cls : Nat) (s : State) : State :=
  (put s [(F.R2_CMD_SIZE 0, 64), (F.R2_MSG_SIZE 0, 64), (F.R2_RING_CTL_CMD_EN 0, 1), (F.R2_RING_CTL_MSG_EN 0, 1), (F.R2_CMD_TAIL 0, 1),
    (F.GLB_SESSION_OPEN, 1)]).setFn 0 { session := some (sess cls) }

/-- A descriptor on that ring with this payload, its MAC not yet made. -/
def desc (payload : List Byte) : Desc :=
  { fn := 0, flags := 0, rsvd3 := 0, rsvd44 := 0, sessionId := 0, seq := 1, tag := 7, payAddr := 0, rspAddr := 0, rspLen := 70000, mac := 0,
    payload := payload, readOk := true, writeOk := true, agree := true }

/-- `d` as a command of this opcode, under the session's MAC. -/
def maced (d : Desc) (op : Nat) : Desc := { d with mac := BitVec.ofNat 128 (descMacUnder d op []) }

theorem leNat_lt (l : List Byte) : leNat l < 256 ^ l.length := by
  induction l with
  | nil => simp [leNat]
  | cons b t ih =>
    have h := b.isLt
    simp only [leNat, List.length_cons, Nat.pow_succ]
    omega

theorem maced_mac (d : Desc) (op : Nat) : descMacUnder (maced d op) op [] = (maced d op).mac.toNat := by
  have h : descMacUnder d op [] < 2 ^ 128 := by
    have h := leNat_lt ((Config.kmac256 [] (leBytes 4 d.sessionId.toNat ++ leBytes 8 d.seq.toNat ++ descCmdBytes d op) 128 (label "ZGD cmd mac")).take 16)
    refine Nat.lt_of_lt_of_le h ?_
    have : (256 : Nat) ^ 16 = 2 ^ 128 := by decide
    rw [← this]
    exact Nat.pow_le_pow_right (by decide) (by rw [List.length_take]; omega)
  show descMacUnder d op [] = (BitVec.ofNat 128 (descMacUnder d op [])).toNat
  rw [BitVec.toNat_ofNat, Nat.mod_eq_of_lt h]

theorem sent_of (s : State) (d : Desc) (op : Nat) (cls : Cls) (q : Session)
    (h : ringFetches s d.fn.val = true ∧ (d.rsvd3 = 0 ∧ d.rsvd44 = 0 ∧ d.flags = 0) ∧ d.readOk = true ∧ (s.fn d.fn.val).session = some q ∧
      q.id = d.sessionId.toNat ∧ q.kCmd = [] ∧ q.seqLast = none ∧ q.accepted + 1 < 2 ^ 32 ∧ (cls ≠ .observe → q.cls ≠ 0) ∧
      (cls ≠ .observe → s.isStandby = false ∧ s.otp.retired = false)) : Sent s (maced d op) op cls q := by
  obtain ⟨h1, h2, h3, h4, h5, h6, h7, h8, h9, h10⟩ := h
  exact ⟨h1, h2, h3, h4, h5, by rw [h6]; exact maced_mac d op, by rw [h7]; nofun, h8, h9, h10⟩

theorem signed_of (s : State) (d : Desc) (op : Nat) (q : Session) (n : Nonce)
    (h : ringFetches s d.fn.val = true ∧ (d.rsvd3 = 0 ∧ d.rsvd44 = 0 ∧ d.flags = 1) ∧ 32 + sigBlockLen ≤ d.payload.length ∧ d.readOk = true ∧
      (s.fn d.fn.val).session = some q ∧ q.id = d.sessionId.toNat ∧ q.kCmd = [] ∧ q.seqLast = none ∧ q.accepted + 1 < 2 ^ 32 ∧ q.cls ≠ 0 ∧
      (s.isStandby = false ∧ s.otp.retired = false) ∧ n ∈ (s.fn d.fn.val).nonces ∧ n.bytes = descNonce d ∧ s.elapsed n.at_ < 300 * cycS) :
    SentSigned s (maced d op) op q n := by
  obtain ⟨h1, h2, h3, h4, h5, h6, h7, h8, h9, h10, h11, h12⟩ := h
  exact ⟨h1, h2, h3, h4, h5, h6, by rw [h7]; exact maced_mac d op, by rw [h8]; nofun, h9, h10, h11, h12⟩

/-- The word with these fields. -/
def word (l : List (Fld × Nat)) : Word := BitVec.ofNat 32 ((l.map fun e => e.2 * 2 ^ e.1.lo).sum)

/-- A write of a block's command register from the secure world: command `op` at INDEX `idx`. -/
def cmdWord (b : BlockWay) (op idx : Nat) : Word := word [(b.op, op), (b.idx, idx)]
def cmd (b : BlockWay) (op idx : Nat) : Via := .reg .secure (cmdWord b op idx)

theorem way_cmd (b : BlockWay) (op idx : Nat) (cls : Cls) (ps : List Nat) (s : State)
    (h : s.flag b.busy = false ∧ bitsOf (cmdWord b op idx) b.op.lo b.op.width = op) :
    Way b op cls ps s (cmd b op idx) (bitsOf (cmdWord b op idx) b.idx.lo b.idx.width) (b.arg s (cmdWord b op idx)) (s.words b.win b.len) :=
  ⟨h.1, .inl rfl, h.2, rfl, rfl, rfl⟩

theorem way_ring (b : BlockWay) (op : Nat) (cls : Cls) (ps : List Nat) (s : State) (d : Desc) (q : Session) (hc : cls ≠ .secure)
    (h : s.flag b.busy = false ∧ 16 ≤ (descBody d).length ∧ leAt (descBody d) 8 2 ≤ b.len ∧ (descBody d).length = 16 + 4 * leAt (descBody d) 8 2 ∧
      leAt (descBody d) 10 6 = 0 ∧ 16 + 4 * b.len ≤ d.rspLen.toNat ∧ d.writeOk = true ∧ blkIndex (descBody d) < 2 ^ b.idx.width ∧
      ∀ p ∈ ps, q.parcels.getLsbD p = true ∧ (d.fn.val = 0 ∨ p = d.fn.val))
    (h' : Sent s (maced d (0x1000 + 0x100 * b.n + op)) (0x1000 + 0x100 * b.n + op) cls q) :
    Way b op cls ps s (.ring (maced d (0x1000 + 0x100 * b.n + op))) (blkIndex (descBody d) % 2 ^ b.idx.width) (blkArg (descBody d))
      (winFilled s d b.win b.len) := by
  obtain ⟨h1, h2, h3, h4, h5, h6, h7, h8, h9⟩ := h
  exact ⟨h1, ⟨h2, h3, h4, h5, h6, h7⟩, rfl, h8, rfl, rfl, q, h9, fun _ => h', fun h => absurd h hc⟩

/-- What a boot finds outside, all well. -/
def boot : BootIn := { written := 0, torn := false, huk := true, march := [], agree := true }

/-- `d` as a command of this opcode under a MAC that is not its session's. -/
def unmaced (d : Desc) (op : Nat) : Desc := { d with mac := BitVec.ofNat 128 (descMacUnder d op [] + 1) }

theorem unmaced_mac (d : Desc) (op : Nat) : descMacUnder (unmaced d op) op [] ≠ (unmaced d op).mac.toNat := by
  show descMacUnder d op [] ≠ (BitVec.ofNat 128 (descMacUnder d op [] + 1)).toNat
  rw [BitVec.toNat_ofNat]
  omega

theorem not_ringSize {n : Nat} (h : n ∉ [64, 128, 256, 512, 1024, 2048, 4096]) : ¬ ringSize n := by
  rintro ⟨k, h1, h2, rfl⟩
  obtain rfl | rfl | rfl | rfl | rfl | rfl | rfl : k = 6 ∨ k = 7 ∨ k = 8 ∨ k = 9 ∨ k = 10 ∨ k = 11 ∨ k = 12 := by omega
  all_goals exact h (by decide)

/-- A SESSION_CONFIRM with a manager's signature block, and the opening it answers. -/
def confirm : List Byte := zeros 1572 ++ [0x5A, 0x47, 0x53, 0x47, 3] ++ zeros 7419
def opening (p : List Byte) : Opening :=
  { id := leAt p 0 4, openBytes := [], acceptBytes := [], managerKeys := sigPubs (p.drop 1572), ephemeral := 0 }

/-- The description of the register at key `a`, and its field `i`. -/
def reg (a : Nat) : RegD := (regDesc a).getD ⟨0, 0, 0, []⟩
def field (a i : Nat) : FieldD := (reg a).fields.getD i ⟨0, 0, .ro, false, 0, .chip⟩

/-- A station entry, dynamic and sound. -/
def entry (parcel mac sc port src : Nat) : BitVec 128 :=
  pltSeal (pltPut (pltPut (pltPut (pltPut (pltPut (pltPut 0 127 127 1) 123 118 parcel) 105 58 mac) 57 42 sc) 41 36 port) 23 8 src)

/-- `s` with these words in the window of a block. -/
def win (b : BlockWay) (words : List Word) (s : State) : State := s.setWords b.win words

/-- The first candidate of station 1 of parcel 0 under the seeds 0, and a table that holds it there. -/
def place : Nat := (pltCands 0 0 ⟨0, 0, 1⟩).headD 0
def station (e : BitVec 128) (s : State) : State := { s with plat := { s.plat with ways := [(place, e)] } }
def entryWords (e : BitVec 128) : List Word := leWords 4 (leBytes 16 e.toNat)

theorem of_some {α : Type} {o : Option α} {P : α → Prop} (a : α) (h : o = some a ∧ P a) : ∀ q, o = some q → P q :=
  fun q hq => by cases h.1.symm.trans hq; exact h.2

theorem of_none {α : Type} {o : Option α} {P : α → Prop} (h : o = none) : ∀ q, o = some q → P q :=
  fun q hq => by cases h.symm.trans hq

theorem some_getD {α : Type} {o : Option α} {d : α} (h : o.isSome = true) : o = some (o.getD d) := by
  cases o with
  | none => cases h
  | some a => rfl

def isSc : TxSc → Nat → Bool → Bool
  | .sc m g, n, f => m == n && g == f
  | _, _, _ => false

theorem sc_of {t : TxSc} {n : Nat} {f : Bool} (h : isSc t n f = true) : t = .sc n f := by
  cases t <;> simp [isSc] at h ⊢
  exact h

theorem eta_of {α β : Type} {p : α × β} {b : β} (h : p.2 = b) : p = (p.1, b) := by
  subst h
  rfl

def isTag (o : Option SecTag) (t : SecTag) : Bool :=
  match o with
  | some u => u.tci == t.tci && u.an == t.an && u.sl == t.sl && u.pn == t.pn && u.sci == t.sci && u.len == t.len
  | none => false

theorem tag_of {o : Option SecTag} {t : SecTag} (h : isTag o t = true) : o = some t := by
  cases o with
  | none => cases h
  | some u =>
    obtain ⟨⟩ := u
    obtain ⟨⟩ := t
    simp_all [isTag]

theorem received_of {s : State} {n : Nat} {b : List Byte} {bad : Bool}
    (h : s.portUp n = true ∧ s.portOpen n = true ∧ s.held = false ∧ 64 ≤ b.length ∧ b.length ≤ s.portMax n ∧ badFcs b bad = false) :
    Received s n b bad := ⟨h.1, h.2.1, h.2.2.1, h.2.2.2.1, h.2.2.2.2.1, h.2.2.2.2.2⟩

theorem cmd_ne (b : BlockWay) (op idx : Nat) : ∀ d, cmd b op idx ≠ .ring d := fun _ h => Via.noConfusion h

theorem parent_of {t : Nat × List Byte × Nat × Bool × Nat × Nat × Nat} {a p n g us : Nat} {root : Bool}
    (h : t.1 = a ∧ t.2.2.1 = p ∧ t.2.2.2.1 = root ∧ t.2.2.2.2.1 = n ∧ t.2.2.2.2.2.1 = g ∧ t.2.2.2.2.2.2 = us) : t = (a, t.2.1, p, root, n, g, us) := by
  obtain ⟨rfl, rfl, rfl, rfl, rfl, rfl⟩ := h
  rfl

theorem between {P : Nat → Prop} {lo hi : Nat} (h : ∀ w, w < hi → lo < w → P w) : ∀ w, lo < w → w < hi → P w := fun w a b => h w b a

theorem sound_of {s : State} {k : PKey} (h : ∀ l ∈ s.pltPlaces k, pltValid (s.pltAt l) = true → pltOk (s.pltAt l) = true) : s.soundLookup k := h

/-- The hypotheses of the clauses of StepPerformsTheFrontCommand, each met. -/
theorem StepPerformsTheFrontCommand_met :
    (∃ (c : Instr) (rest : List Instr) (s : State), s.pending = c :: rest) ∧
    (∃ (s : State), s.pending = []) :=
  ⟨⟨.conventionalReset, [], { State.reset with pending := [.conventionalReset] }, by decide +kernel⟩,
   ⟨State.reset, by decide +kernel⟩⟩

/-- The hypotheses of the clauses of ResetGivesEveryFieldItsResetValue, each met. -/
theorem ResetGivesEveryFieldItsResetValue_met :
    (∃ (a : Nat) (d : RegD) (x : FieldD), regDesc a = some d ∧ x ∈ d.fields) :=
  ⟨0x300008, reg 0x300008, field 0x300008 0, by decide +kernel⟩

/-- The hypotheses of the clauses of RegisterFieldsFollowTheirAccessType, each met. -/
theorem RegisterFieldsFollowTheirAccessType_met :
    (∃ (a : Nat) (d : RegD) (x : FieldD), regDesc a = some d ∧ x ∈ d.fields) ∧
    (∃ (a : Nat) (d : RegD) (x : FieldD), regDesc a = some d ∧ x ∈ d.fields) ∧
    (∃ (a : Nat) (d : RegD) (j : Nat), regDesc a = some d ∧ j < 32 ∧ (∀ (x : FieldD), x ∈ d.fields → j < x.lo ∨ x.hi < j)) ∧
    (∃ (a : Nat) (d : RegD) (j : Nat), regDesc a = some d ∧ j < 32 ∧ (∀ (x : FieldD), x ∈ d.fields → j < x.lo ∨ x.hi < j)) :=
  ⟨⟨0x300010, reg 0x300010, field 0x300010 1, by decide +kernel⟩,
   ⟨0x300010, reg 0x300010, field 0x300010 1, by decide +kernel⟩,
   ⟨0x300010, reg 0x300010, 30, by decide +kernel⟩,
   ⟨0x300010, reg 0x300010, 14, by decide +kernel⟩⟩

/-- The hypotheses of the clauses of RegisterAccesses, each met. -/
theorem RegisterAccesses_met :
    (∃ (s : State) (w : World) (a : BitVec 32) (d : RegD), regDesc a.toNat = some d ∧ s.answers w a.toNat = true ∧ (a.toNat / 1048576 = 0 ∨ a.toNat /
      1048576 = 14) ∧ a.toNat ≠ F.GLB_RST_CHIP.addr ∧ a.toNat ≠ F.GLB_RECOVERY_CTL_ERASE.addr) ∧
    (∃ (s : State) (w : World) (a : BitVec 32) (d : RegD), regDesc a.toNat = some d ∧ d.hasSecure = true ∧ w.isSecure = false ∧ s.answers w a.toNat = true
      ∧ a.toNat / 1048576 < 16) ∧
    (∃ (s : State) (w : World) (a : BitVec 32) (d : RegD), regDesc a.toNat = some d ∧ d.hasSecure = true ∧ w.isSecure = false ∧ s.answers w a.toNat = true
      ∧ a.toNat / 1048576 < 16) ∧
    (∃ (s : State) (w : World) (a : BitVec 32) (e : Fld × Nat) (d : RegD) (v : Word), e ∈ cmdRegs ∧ a.toNat = e.fst.addr ∧ regDesc a.toNat = some d ∧
      s.answers w a.toNat = true ∧ (d.hasSecure = false ∨ w.isSecure = true) ∧ opOf e.fst v = 0) ∧
    (∃ (s : State) (w : World) (a : BitVec 32) (v : Word), w.isSecure = true ∧ a.toNat % 4 = 0 ∧ a.toNat = F.TRV_RULE_CMD_OP.addr ∧ 4 < opOf
      F.TRV_RULE_CMD_OP v ∧ s.flag F.TRV_RULE_CMD_BUSY = false) ∧
    (∃ (s : State) (w : World) (a : BitVec 32) (v : Word), w.isSecure = true ∧ a.toNat % 4 = 0 ∧ a.toNat = F.PLT_CMD_OP.addr ∧ 7 < opOf F.PLT_CMD_OP v ∧
      s.flag F.PLT_CMD_BUSY = false) ∧
    (∃ (s : State) (w : World) (a : BitVec 32) (v : Word), w.isSecure = true ∧ a.toNat % 4 = 0 ∧ a.toNat = F.SEC_CMD_OP.addr ∧ 14 < opOf F.SEC_CMD_OP v ∧
      s.flag F.SEC_CMD_BUSY = false) ∧
    (∃ (s : State) (w : World) (a : BitVec 32) (v : Word), w.isSecure = true ∧ a.toNat % 4 = 0 ∧ a.toNat = F.BLW_QCMD_OP.addr ∧ 3 < opOf F.BLW_QCMD_OP v ∧
      s.flag F.BLW_QCMD_BUSY = false) ∧
    (∃ (s : State) (w : World) (a : BitVec 32) (v : Word), w.isSecure = true ∧ a.toNat % 4 = 0 ∧ a.toNat = F.GAT_GCL_CMD_OP.addr ∧ 5 < opOf
      F.GAT_GCL_CMD_OP v ∧ s.flag F.GAT_GCL_CMD_BUSY = false) ∧
    (∃ (s : State) (w : World) (a : BitVec 32) (v : Word), w.isSecure = true ∧ a.toNat % 4 = 0 ∧ a.toNat = F.DAT_CMD_OP.addr ∧ 5 < opOf F.DAT_CMD_OP v ∧
      s.flag F.DAT_CMD_BUSY = false) ∧
    (∃ (s : State) (w : World) (a : BitVec 32) (v : Word), w.isSecure = true ∧ a.toNat % 4 = 0 ∧ a.toNat = F.HRT_CMD_OP.addr ∧ 18 < opOf F.HRT_CMD_OP v ∧
      s.flag F.HRT_CMD_BUSY = false ∧ s.hrtServes = true) :=
  ⟨⟨up, .nonSecure, 0x308, reg 0x308, by decide +kernel⟩,
   ⟨up, .nonSecure, 0x300008, reg 0x300008, by decide +kernel⟩,
   ⟨up, .nonSecure, 0x300008, reg 0x300008, by decide +kernel⟩,
   ⟨up, .secure, 0x300010, (F.TRV_RULE_CMD_OP, 4), reg 0x300010, 5, by decide +kernel⟩,
   ⟨up, .secure, BitVec.ofNat 32 F.TRV_RULE_CMD_OP.addr, word [(F.TRV_RULE_CMD_OP, 5)], by decide +kernel⟩,
   ⟨up, .secure, BitVec.ofNat 32 F.PLT_CMD_OP.addr, word [(F.PLT_CMD_OP, 8)], by decide +kernel⟩,
   ⟨up, .secure, BitVec.ofNat 32 F.SEC_CMD_OP.addr, word [(F.SEC_CMD_OP, 15)], by decide +kernel⟩,
   ⟨up, .secure, BitVec.ofNat 32 F.BLW_QCMD_OP.addr, word [(F.BLW_QCMD_OP, 4)], by decide +kernel⟩,
   ⟨up, .secure, BitVec.ofNat 32 F.GAT_GCL_CMD_OP.addr, word [(F.GAT_GCL_CMD_OP, 6)], by decide +kernel⟩,
   ⟨up, .secure, BitVec.ofNat 32 F.DAT_CMD_OP.addr, word [(F.DAT_CMD_OP, 6)], by decide +kernel⟩,
   ⟨put up [(F.HRT_STATUS_HUK_OK, 1)], .secure, BitVec.ofNat 32 F.HRT_CMD_OP.addr, word [(F.HRT_CMD_OP, 19)], by decide +kernel⟩⟩

/-- The hypotheses of the clauses of RingRegistersAndErrors, each met. -/
theorem RingRegistersAndErrors_met :
    (∃ (f : Fin 64) (s : State) (v : BitVec 13), s.hostUp = true ∧ (s.flag (F.R2_RING_CTL_CMD_EN ↑f) = false ∨ ringAhead v.toNat (s.fld (F.R2_CMD_HEAD
      ↑f)) (s.fld (F.R2_CMD_SIZE ↑f)) ≤ s.fld (F.R2_CMD_SIZE ↑f))) ∧
    (∃ (f : Fin 64) (s : State) (v : BitVec 13), s.hostUp = true ∧ s.flag (F.R2_RING_CTL_CMD_EN ↑f) = true ∧ s.fld (F.R2_CMD_SIZE ↑f) < ringAhead v.toNat
      (s.fld (F.R2_CMD_HEAD ↑f)) (s.fld (F.R2_CMD_SIZE ↑f))) ∧
    (∃ (f : Fin 64) (s : State) (v : Word), s.hostUp = true ∧ (bitsOf v 31 1 = 0 ∨ s.flag (F.R2_RING_CTL_CMD_EN ↑f) = false ∨ ringAhead
      (s.fld (F.R2_CMD_TAIL ↑f)) (s.fld (F.R2_CMD_HEAD ↑f)) (s.fld (F.R2_CMD_SIZE ↑f)) ≤ s.fld (F.R2_CMD_SIZE ↑f)) ∧ (s.fn ↑f).lost = 0) ∧
    (∃ (f : Fin 64) (s : State) (v : Word), ringSize (s.fld (F.R2_CMD_SIZE ↑f)) ∧ s.hostUp = true ∧ bitsOf v 31 1 = 1 ∧ bitsOf v 30 1 = 0 ∧
      s.flag (F.R2_RING_CTL_CMD_EN ↑f) = false) ∧
    (∃ (f : Fin 64) (s : State) (v : Word), (¬ringSize (s.fld (F.R2_CMD_SIZE ↑f))) ∧ s.hostUp = true ∧ bitsOf v 31 1 = 1 ∧ bitsOf v 30 1 = 0 ∧
      s.flag (F.R2_RING_CTL_CMD_EN ↑f) = false) ∧
    (∃ (f : Fin 64) (s : State) (v : Word), ringSize (s.fld (F.R2_MSG_SIZE ↑f)) ∧ s.hostUp = true ∧ bitsOf v 31 1 = 0 ∧ bitsOf v 30 1 = 1 ∧
      s.flag (F.R2_RING_CTL_MSG_EN ↑f) = false ∧ (s.fn ↑f).lost = 0) ∧
    (∃ (f : Fin 64) (s : State) (v : Word), (¬ringSize (s.fld (F.R2_MSG_SIZE ↑f))) ∧ s.hostUp = true ∧ bitsOf v 31 1 = 0 ∧ bitsOf v 30 1 = 1 ∧
      s.flag (F.R2_RING_CTL_MSG_EN ↑f) = false) ∧
    (∃ (f : Fin 64) (s : State) (v : BitVec 13), s.hostUp = true ∧ (s.flag (F.R2_RING_CTL_MSG_EN ↑f) = false ∨ ringAhead v.toNat (s.fld (F.R2_MSG_HEAD
      ↑f)) (s.fld (F.R2_MSG_SIZE ↑f)) ≤ s.msgUsed ↑f) ∧ (s.fn ↑f).lost = 0) ∧
    (∃ (f : Fin 64) (s : State) (v : BitVec 13), s.hostUp = true ∧ s.flag (F.R2_RING_CTL_MSG_EN ↑f) = true ∧ s.msgUsed ↑f < ringAhead v.toNat
      (s.fld (F.R2_MSG_HEAD ↑f)) (s.fld (F.R2_MSG_SIZE ↑f))) ∧
    (∃ (f : Fin 64) (s : State), s.hostUp = true ∧ ringFetches s ↑f = true) ∧
    (∃ (f : Fin 64) (s : State), s.hostUp = true ∧ s.flag (F.R2_RING_CTL_MSG_EN ↑f) = true ∧ (s.fn ↑f).stopped = false) :=
  ⟨⟨0, ring 0 up, 64, by decide +kernel⟩,
   ⟨0, ring 0 up, 65, by decide +kernel⟩,
   ⟨0, ring 0 up, 0x80000000, by decide +kernel⟩,
   ⟨0, put up [(F.R2_CMD_SIZE 0, 4096)], 0x80000000, ⟨12, by decide +kernel⟩, by decide +kernel⟩,
   ⟨0, put up [(F.R2_CMD_SIZE 0, 32)], 0x80000000, not_ringSize (by decide +kernel), by decide +kernel⟩,
   ⟨0, put up [(F.R2_MSG_SIZE 0, 64)], 0x40000000, ⟨6, by decide +kernel⟩, by decide +kernel⟩,
   ⟨0, put up [(F.R2_MSG_SIZE 0, 8191)], 0x40000000, not_ringSize (by decide +kernel), by decide +kernel⟩,
   ⟨0, ring 0 up, 0, by decide +kernel⟩,
   ⟨0, ring 0 up, 1, by decide +kernel⟩,
   ⟨0, ring 0 up, by decide +kernel⟩,
   ⟨0, ring 0 up, by decide +kernel⟩⟩

/-- The hypotheses of the clauses of FunctionEventsAndHostResets, each met. -/
theorem FunctionEventsAndHostResets_met :
    (∃ (f : Fin 64) (s : State) (v : Fin 2) (at_ : BitVec 64), ((s.fn ↑f).vec ↑v).unsignalled = some at_ ∧ (1500 * min 100 (s.fld (if v = 0 then
      F.R2_COALESCE_RSP_US ↑f else F.R2_COALESCE_EVT_US ↑f)) ≤ (s.cyc - at_).toNat)) ∧
    (∃ (s : State), s.linkUp = true) ∧
    (∃ (f : Fin 64) (s : State), (f = 0 ∨ s.parState ↑f ≠ Ps.running)) :=
  ⟨⟨0, { up.setFn 0 { vec0 := { unsignalled := some 0 } } with cyc := 150000 }, 0, 0, by decide +kernel⟩,
   ⟨{ up with linkUp := true }, by decide +kernel⟩,
   ⟨1, up, by decide +kernel⟩⟩

/-- The hypotheses of the clauses of DescriptorsRefusedChangeNothing, each met. -/
theorem DescriptorsRefusedChangeNothing_met :
    (∃ (s : State) (d : Desc) (agree readOk : Bool) (b : BootIn) (img : List Byte) (op : Nat) (c : Instr), ringFetches s ↑d.fn = true ∧ (op, c) ∈
      ringCommands d agree readOk b img ∧ d.rsvd3 ≠ 0) ∧
    (∃ (s : State) (d : Desc) (op : BitVec 16), ringFetches s ↑d.fn = true ∧ inCatalogue op.toNat = false ∧ d.rsvd3 = 0 ∧ d.rsvd44 = 0 ∧ d.flags = 0 ∧
      d.payload.length ≤ 131072) ∧
    (∃ (s : State) (d : Desc) (op : Nat) (c : Instr), ringFetches s ↑d.fn = true ∧ (op, c) ∈ [(3, Instr.sessionClose d), (4, Instr.cmdNop d), (5,
      Instr.challenge d)] ∧ d.rsvd3 = 0 ∧ d.rsvd44 = 0 ∧ d.flags = 0 ∧ d.payload = [] ∧ d.readOk = true ∧ (s.fn ↑d.fn).session = none) ∧
    (∃ (s : State) (d : Desc) (op : Nat) (c : Instr) (q : Session), (op, c) ∈ [(3, Instr.sessionClose d), (4, Instr.cmdNop d), (5, Instr.challenge d)] ∧
      descMacUnder d op q.kCmd ≠ d.mac.toNat ∧ ringFetches s ↑d.fn = true ∧ d.rsvd3 = 0 ∧ d.rsvd44 = 0 ∧ d.flags = 0 ∧ d.payload = [] ∧ d.readOk =
      true ∧ (s.fn ↑d.fn).session = some q ∧ q.id = d.sessionId.toNat ∧ q.accepted + 1 < 2 ^ 32) ∧
    (∃ (s : State) (d : Desc) (op : Nat) (c : Instr) (q : Session) (l : Nat), (op, c) ∈ [(3, Instr.sessionClose d), (4, Instr.cmdNop d), (5,
      Instr.challenge d)] ∧ descMacUnder d op q.kCmd = d.mac.toNat ∧ ringFetches s ↑d.fn = true ∧ d.rsvd3 = 0 ∧ d.rsvd44 = 0 ∧ d.flags = 0 ∧ d.payload
      = [] ∧ d.readOk = true ∧ (s.fn ↑d.fn).session = some q ∧ q.id = d.sessionId.toNat ∧ q.accepted + 1 < 2 ^ 32 ∧ q.seqLast = some l ∧ d.seq.toNat ≤
      l) :=
  ⟨⟨ring 0 up, { desc [] with rsvd3 := 1 }, true, true, boot, [], 0x0004, .cmdNop { desc [] with rsvd3 := 1 }, by decide +kernel⟩,
   ⟨ring 0 up, desc [], 0x0006, by decide +kernel⟩,
   ⟨(ring 0 up).setFn 0 {}, desc [], 4, .cmdNop (desc []), by decide +kernel⟩,
   ⟨ring 0 up, unmaced (desc []) 4, 4, .cmdNop (unmaced (desc []) 4), sess 0, .tail _ (.head _), unmaced_mac _ _, by decide +kernel⟩,
   ⟨(ring 0 up).setFn 0 { session := some { sess 0 with seqLast := some 1 } }, maced (desc []) 4, 4, .cmdNop (maced (desc []) 4),
      { sess 0 with seqLast := some 1 }, 1, .tail _ (.head _), maced_mac _ _, by decide +kernel⟩⟩

/-- The hypotheses of the clauses of SessionCommands, each met. -/
theorem SessionCommands_met :
    (∃ (s : State) (d : Desc), d.payload.length = 2818 ∧ (∀ (q : Session), (s.fn ↑d.fn).session = some q → q.accepted < 2 ^ 32) ∧ ringFetches s ↑d.fn =
      true ∧ d.rsvd3 = 0 ∧ d.rsvd44 = 0 ∧ d.flags = 0 ∧ d.readOk = true ∧ d.writeOk = true ∧ 9125 ≤ d.rspLen.toNat ∧ s.flag F.HRT_STATUS_TRNG_OK =
      true) ∧
    (∃ (s : State) (d : Desc) (o : Opening) (cls : Nat) (mask : BitVec 64) (listed : Bool), d.payload.length = 8996 ∧ ringFetches s ↑d.fn = true ∧ d.rsvd3
      = 0 ∧ d.rsvd44 = 0 ∧ d.flags = 0 ∧ d.readOk = true ∧ (s.fn ↑d.fn).session = none ∧ (s.fn ↑d.fn).opening = some o ∧ o.id = leAt d.payload 0 4 ∧
      sigFormOk (List.drop 1572 d.payload) = true ∧ sigAuthority (List.drop 1572 d.payload) = 3 ∧ sigPubs (List.drop 1572 d.payload) = o.managerKeys ∧
      s.otp.ownerKey (Config.sha384 (sigPubs (List.drop 1572 d.payload))) ≠ some true ∧ s.managerRights (Config.sha384 (sigPubs (List.drop 1572
      d.payload))) = some (cls, mask, listed) ∧ (d.fn = 0 ∨ mask.getLsbD ↑d.fn = true) ∧ s.fld F.GLB_SESSION_OPEN < 127) ∧
    (∃ (s : State) (d : Desc) (q : Session), Sent s d 3 Cls.observe q ∧ d.payload = []) ∧
    (∃ (s : State) (d : Desc) (q : Session), Sent s d 4 Cls.observe q ∧ d.payload = []) ∧
    (∃ (s : State) (d : Desc) (q : Session), Sent s d 5 Cls.observe q ∧ d.payload = [] ∧ s.flag F.HRT_STATUS_TRNG_OK = true ∧ (s.fn ↑d.fn).nonces.length ≤
      16 ∧ 32 ≤ d.rspLen.toNat ∧ d.writeOk = true) ∧
    (∃ (s : State) (f : Fin 64) (q : Session), (s.fn ↑f).session = some q ∧ 1500000000 * max 1 (s.fld F.GLB_SESSION_IDLE_S) ≤ (s.cyc - q.lastCmd).toNat ∧
      ((s.waits.any fun (w : Wait) ↦ w.d.fn == f && !w.mute) = false)) :=
  ⟨⟨put (ring 0 up) [(F.HRT_STATUS_TRNG_OK, 1)], desc (zeros 2818), List.length_replicate, of_some (sess 0) (by decide +kernel), by decide +kernel⟩,
   ⟨(ring 0 up).setFn 0 { opening := some (opening confirm) }, desc confirm, opening confirm, 1, 1, true, by simp only [desc, confirm, zeros,
      List.length_append, List.length_replicate, List.length_cons, List.length_nil], by decide +kernel⟩,
   ⟨ring 0 up, maced (desc []) 3, sess 0, sent_of _ _ _ _ _ (by decide +kernel), by decide +kernel⟩,
   ⟨ring 0 up, maced (desc []) 4, sess 0, sent_of _ _ _ _ _ (by decide +kernel), by decide +kernel⟩,
   ⟨put (ring 0 up) [(F.HRT_STATUS_TRNG_OK, 1)], maced (desc []) 5, sess 0, sent_of _ _ _ _ _ (by decide +kernel), by decide +kernel⟩,
   ⟨{ put (ring 0 up) [(F.GLB_SESSION_IDLE_S, 1)] with cyc := 1500000000 }, 0, sess 0, by decide +kernel⟩⟩

/-- The hypotheses of the clauses of AttestationAndRegisterCommands, each met. -/
theorem AttestationAndRegisterCommands_met :
    (∃ (s : State) (d : Desc) (q : Session), Sent s d 256 Cls.observe q ∧ d.writeOk = true ∧ d.payload.length = 32 ∧ 7664 ≤ d.rspLen.toNat) ∧
    (∃ (s : State) (d : Desc) (q : Session), Sent s d 257 Cls.observe q ∧ d.writeOk = true ∧ d.payload = [] ∧ 65536 ≤ d.rspLen.toNat) ∧
    (∃ (s : State) (d : Desc) (q : Session), Sent s d 512 Cls.observe q ∧ d.writeOk = true ∧ d.payload.length = 8 ∧ leAt d.payload 4 4 = 1 ∧ leAt
      d.payload 0 4 % 4 = 0 ∧ 4 ≤ d.rspLen.toNat ∧ d.fn = 0 ∧ leAt d.payload 0 4 < 9437184) ∧
    (∃ (s : State) (d : Desc) (q : Session) (x : RegD), Sent s d 513 Cls.operate q ∧ d.writeOk = true ∧ d.payload.length = 12 ∧ leAt d.payload 4 4 = 1 ∧
      leAt d.payload 0 4 % 4 = 0 ∧ d.fn = 0 ∧ regDesc (leAt d.payload 0 4) = some x ∧ (leAt d.payload 0 4 / 1048576 = 0 ∨ leAt d.payload 0 4 / 1048576
      = 14) ∧ x.hasSecure = false) ∧
    (∃ (s : State) (d : Desc) (q : Session) (x : RegD), Sent s d 513 Cls.operate q ∧ d.writeOk = true ∧ d.payload.length = 12 ∧ leAt d.payload 4 4 = 1 ∧
      leAt d.payload 0 4 % 4 = 0 ∧ d.fn = 0 ∧ regDesc (leAt d.payload 0 4) = some x ∧ (leAt d.payload 0 4 / 1048576 = 0 ∨ leAt d.payload 0 4 / 1048576
      = 14) ∧ x.hasSecure = true) :=
  ⟨⟨ring 0 up, maced (desc (zeros 32)) 0x100, sess 0, sent_of _ _ _ _ _ (by decide +kernel), by decide +kernel⟩,
   ⟨ring 0 up, maced (desc []) 0x101, sess 0, sent_of _ _ _ _ _ (by decide +kernel), by decide +kernel⟩,
   ⟨ring 0 up, maced (desc (leBytes 4 0x300008 ++ leBytes 4 1)) 0x200, sess 0, sent_of _ _ _ _ _ (by decide +kernel), by decide +kernel⟩,
   ⟨ring 1 up, maced (desc (leBytes 4 0x308 ++ leBytes 4 1 ++ leBytes 4 5)) 0x201, sess 1, reg 0x308, sent_of _ _ _ _ _ (by decide +kernel), by
      decide +kernel⟩,
   ⟨ring 1 up, maced (desc (leBytes 4 0x280 ++ leBytes 4 1 ++ leBytes 4 5)) 0x201, sess 1, reg 0x280, sent_of _ _ _ _ _ (by decide +kernel), by
      decide +kernel⟩⟩

/-- The hypotheses of the clauses of TraverseRuleCommands, each met. -/
theorem TraverseRuleCommands_met :
    (∃ (s : State) (v : Via) (idx arg : Nat) (words : List Word), Way trvWay 1 Cls.observe [s.ruleParcel idx] s v idx arg words) ∧
    (∃ (s : State) (v : Via) (idx arg : Nat) (words : List Word), Way trvWay 2 Cls.secure [s.ruleParcel idx] s v idx arg words ∧ (Rule.ofWords
      words).owner = s.ruleParcel idx) ∧
    (∃ (s : State) (v : Via) (idx arg : Nat) (words : List Word), Way trvWay 2 Cls.secure [s.ruleParcel idx] s v idx arg words ∧ (Rule.ofWords
      words).owner ≠ s.ruleParcel idx) ∧
    (∃ (s : State) (v : Via) (idx arg : Nat) (words : List Word), Way trvWay 3 Cls.secure [s.ruleParcel idx] s v idx arg words) ∧
    (∃ (s : State) (v : Via) (idx arg : Nat) (words : List Word), Way trvWay 4 Cls.operate [s.ruleParcel idx] s v idx arg words) :=
  ⟨⟨up, cmd trvWay 1 0x3FFF, _, _, _, way_cmd _ _ _ _ _ _ (by decide +kernel)⟩,
   ⟨up, cmd trvWay 2 3, _, _, _, way_cmd _ _ _ _ _ _ (by decide +kernel), by decide +kernel⟩,
   ⟨win trvWay (Rule.words { owner := 5 }) up, cmd trvWay 2 3, _, _, _, way_cmd _ _ _ _ _ _ (by decide +kernel), by decide +kernel⟩,
   ⟨up, cmd trvWay 3 3, _, _, _, way_cmd _ _ _ _ _ _ (by decide +kernel)⟩,
   ⟨up, cmd trvWay 4 3, _, _, _, way_cmd _ _ _ _ _ _ (by decide +kernel)⟩⟩

/-- The hypotheses of the clauses of TraverseSwapBypassAndHoldOff, each met. -/
theorem TraverseSwapBypassAndHoldOff_met :
    (∃ (s : State), 1536 ≤ (s.cyc - s.bypAt).toNat) ∧
    (∃ (s : State) (num : BitVec 10) (h : HoldOff), s.hold num.toNat = some h ∧ 1500000 ≤ (s.cyc - h.start).toNat ∧ h.more = none) ∧
    (∃ (s : State) (num : BitVec 10) (h : HoldOff) (scope : Nat) (p : Option Nat) (r : CntRef), s.hold num.toNat = some h ∧ 1500000 ≤ (s.cyc -
      h.start).toNat ∧ h.more = some (scope, p, r) ∧ scope < 2 ^ 32) :=
  ⟨⟨{ up with cyc := 1536 }, by decide +kernel⟩,
   ⟨{ up.setHold 0x104 (some { start := 0 }) with cyc := 1500000 }, 0x104, { start := 0 }, by decide +kernel⟩,
   ⟨{ up.setHold 0x104 (some { start := 0, more := some (7, none, .none) }) with cyc := 1500000 }, 0x104, { start := 0, more := some (7, none, .none) },
      7, none, .none, by decide +kernel⟩⟩

/-- Channel 8, transmit or receive, of port 32 and parcel 0, as it is valid; association 32 of it with this context. -/
def chanTx : Chan := { valid := true, linePort := 32 }
def chanRx : Chan := { valid := true, dir := true, linePort := 32 }
def mat : KeyMat := { sak := zeros 16, salt := none, slot := none, slotGen := 0 }
def assoc (c : Chan) (x : Ctx) : State := (up.setChan 8 c).setCtx 32 x

/-- Association 32 INSTALLED, its key held by a frame, and the retire store full. -/
def crowded : State :=
  { assoc chanTx { st := .installed, key := some mat } with
    sec := { (assoc chanTx { st := .installed, key := some mat }).sec with retired := List.replicate 256 ⟨0, 0⟩ },
    frames := [(0, some { inPort := 0, enc := true, bytes := [], heat := true, sc := 8 })] }

/-- A learn request for station 1 of parcel 0 behind port 40, and a table with it waiting. -/
def req (k : LearnKind) (src : Nat) : LearnReq := { kind := k, parcel := 0, vid := 0, mac := 1, rxSc := src, sc := 9, port := 40 }
def asked (r : LearnReq) (s : State) : State := { s with plat := { s.plat with queue := [r] } }
def room : State := put up [(F.PLT_PARCEL_CFG_QUOTA 0, 4), (F.PLT_PORT_LIMIT 8, 4)]

/-- A table that is being rebuilt, its walker at `w`. -/
def rebuilding (w : Nat) (s : State) : State :=
  { put s [(F.PLT_STATUS_REBUILD_ACTIVE, 1)] with plat := { s.plat with walker := w } }

/-- A FLUSH by descriptor that waits for its end. -/
def flushWait : Wait := { d := desc [], opcode := 0x1407 }
/-- The hypotheses of the clauses of StationTableCommands, each met. -/
theorem StationTableCommands_met :
    (∃ (s : State) (v : Via) (idx arg : Nat) (words : List Word) (l : PLoc), Way pltWay 1 Cls.observe [pltParcel (windowEntry v words)] s v idx arg words
      ∧ s.soundLookup (pltKey (windowEntry v words)) ∧ s.pltFind (pltKey (windowEntry v words)) = some l) ∧
    (∃ (s : State) (v : Via) (idx arg : Nat) (words : List Word), Way pltWay 1 Cls.observe [pltParcel (windowEntry v words)] s v idx arg words ∧
      s.soundLookup (pltKey (windowEntry v words)) ∧ s.pltFind (pltKey (windowEntry v words)) = none) ∧
    (∃ (s : State) (v : Via) (idx arg : Nat) (words : List Word) (i : Nat), Way pltWay 2 Cls.operate [pltParcel (windowEntry v words)] s v idx arg words ∧
      s.soundLookup (pltKey (windowEntry v words)) ∧ s.pltFind (pltKey (windowEntry v words)) = none ∧ s.pltScOwned (windowEntry v words) = true ∧
      s.fld (F.PLT_PARCEL_OCC_COUNT (pltParcel (windowEntry v words))) < s.fld (F.PLT_PARCEL_CFG_QUOTA (pltParcel (windowEntry v words))) ∧ (pltStatic
      (windowEntry v words) = true ∨ pltPort (windowEntry v words) < 32 ∨ s.fld (F.PLT_PORT_OCC_COUNT (pltPort (windowEntry v words) - 32)) <
      s.fld (F.PLT_PORT_LIMIT (pltPort (windowEntry v words) - 32))) ∧ s.pltFreeIn (pltCands s.pltNewGen.snd.fst s.pltNewGen.snd.snd (pltKey
      (windowEntry v words))) = some i) ∧
    (∃ (s : State) (v : Via) (idx arg : Nat) (words : List Word) (l : PLoc), Way pltWay 3 Cls.operate [pltParcel (windowEntry v words)] s v idx arg words
      ∧ s.soundLookup (pltKey (windowEntry v words)) ∧ s.pltScOwned (windowEntry v words) = true ∧ s.pltFind (pltKey (windowEntry v words)) = some l) ∧
    (∃ (s : State) (v : Via) (idx arg : Nat) (words : List Word) (l : PLoc), Way pltWay 4 Cls.operate [pltParcel (windowEntry v words)] s v idx arg words
      ∧ s.soundLookup (pltKey (windowEntry v words)) ∧ s.pltFind (pltKey (windowEntry v words)) = some l) ∧
    (∃ (s : State) (v : Via) (idx arg : Nat) (words : List Word) (op : Nat) (c : Instr) (l : PLoc), (op, c, l) ∈ [(5, Instr.pltReadAddr v, PLoc.way (65536
      * (arg / 2 ^ 18 % 4) + 4 * (arg / 16 % 16384) + arg / 4 % 4)), (6, Instr.pltReadStash v, PLoc.stash (arg / 16 % 64))] ∧ Way pltWay op
      Cls.observe (viaVf v).toList s v idx arg words ∧ (pltValid (s.pltAt l) = true → pltOk (s.pltAt l) = true)) ∧
    (∃ (s : State) (v : Via) (idx arg : Nat) (words : List Word), (Way pltWay 7 Cls.operate
      (match viaVf v with | some p => [p] | none => if s.fld F.PLT_FLUSH_MODE = 1 then [s.fld F.PLT_FLUSH_PARCEL] else []) s v idx arg words) ∧
      s.fld F.PLT_FLUSH_MODE ≤ 3 ∧ (tabWf (fun _ ↦ 0) s.plat.ways = true) ∧ (tabWf (fun _ ↦ 0) s.plat.stash = true)) :=
  ⟨⟨win pltWay (entryWords (entry 0 1 8 40 8)) (station (entry 0 1 8 40 8) up), cmd pltWay 1 0, _, _, _, .way place, way_cmd _ _ _ _ _ _ (by
      decide +kernel), sound_of (by decide +kernel), by decide +kernel⟩,
   ⟨win pltWay (entryWords (entry 0 1 8 40 8)) up, cmd pltWay 1 0, _, _, _, way_cmd _ _ _ _ _ _ (by decide +kernel), sound_of (by decide +kernel), by
      decide +kernel⟩,
   ⟨win pltWay (entryWords (entry 0 1 8 40 8)) (room.setChan 8 chanTx), cmd pltWay 2 0, _, _, _, place, way_cmd _ _ _ _ _ _ (by decide +kernel), sound_of
      (by decide +kernel), by decide +kernel⟩,
   ⟨win pltWay (entryWords (entry 0 1 8 40 8)) (station (entry 0 1 9 41 9) (up.setChan 8 chanTx)), cmd pltWay 3 0, _, _, _, .way place, way_cmd _ _ _ _ _
      _ (by decide +kernel), sound_of (by decide +kernel), by decide +kernel⟩,
   ⟨win pltWay (entryWords (entry 0 1 8 40 8)) (station (entry 0 1 8 40 8) up), cmd pltWay 4 0, _, _, _, .way place, way_cmd _ _ _ _ _ _ (by
      decide +kernel), sound_of (by decide +kernel), by decide +kernel⟩,
   ⟨up, cmd pltWay 6 0, _, _, _, 6, .pltReadStash (cmd pltWay 6 0), _, .tail _ (.head _), way_cmd _ _ _ _ _ _ (by decide +kernel), by decide +kernel⟩,
   ⟨station (entry 0 1 8 40 8) up, cmd pltWay 7 0, _, _, _, way_cmd _ _ _ _ _ _ (by decide +kernel), by decide +kernel⟩⟩

/-- The hypotheses of the clauses of StationLearningAndAging, each met. -/
theorem StationLearningAndAging_met :
    (∃ (s : State) (r : LearnReq) (l : PLoc), s.soundLookup { parcel := r.parcel, vid := r.vid, mac := r.mac } ∧ (List.find? (fun (r : LearnReq) ↦
      !s.pltHeld r) s.plat.queue = some r) ∧ r.kind = LearnKind.refresh ∧ s.pltFind { parcel := r.parcel, vid := r.vid, mac := r.mac } = some l ∧
      pltSrc (s.pltAt l) = r.rxSc) ∧
    (∃ (s : State) (r : LearnReq) (h i : Nat), s.soundLookup { parcel := r.parcel, vid := r.vid, mac := r.mac } ∧ (List.find? (fun (r : LearnReq) ↦
      !s.pltHeld r) s.plat.queue = some r) ∧ r.kind = LearnKind.learn ∧ s.pltFind { parcel := r.parcel, vid := r.vid, mac := r.mac } = none ∧ r.parcel
      < 64 ∧ r.vid < 4096 ∧ r.mac < 2 ^ 48 ∧ 32 ≤ r.port ∧ r.port < 64 ∧ s.fld (F.PLT_PORT_OCC_COUNT (r.port - 32)) < s.fld (F.PLT_PORT_LIMIT (r.port
      - 32)) ∧ s.fld (F.PLT_PARCEL_OCC_COUNT r.parcel) < s.fld (F.PLT_PARCEL_CFG_QUOTA r.parcel) ∧ s.pltFreeHold = some h ∧ s.pltFreeIn (pltCands
      s.pltNewGen.snd.fst s.pltNewGen.snd.snd { parcel := r.parcel, vid := r.vid, mac := r.mac }) = some i) ∧
    (∃ (s : State) (r : LearnReq), s.soundLookup { parcel := r.parcel, vid := r.vid, mac := r.mac } ∧ (List.find? (fun (r : LearnReq) ↦ !s.pltHeld r)
      s.plat.queue = some r) ∧ r.kind = LearnKind.learn ∧ s.pltFind { parcel := r.parcel, vid := r.vid, mac := r.mac } = none ∧
      s.fld (F.PLT_PARCEL_CFG_QUOTA r.parcel) ≤ s.fld (F.PLT_PARCEL_OCC_COUNT r.parcel)) ∧
    (∃ (s : State) (r : LearnReq) (l : PLoc) (h : Nat), s.soundLookup { parcel := r.parcel, vid := r.vid, mac := r.mac } ∧ (List.find? (fun (r : LearnReq)
      ↦ !s.pltHeld r) s.plat.queue = some r) ∧ r.kind = LearnKind.move ∧ s.pltFind { parcel := r.parcel, vid := r.vid, mac := r.mac } = some l ∧
      pltSrc (s.pltAt l) ≠ r.rxSc ∧ pltStatic (s.pltAt l) = false ∧ pltHold (s.pltAt l) = false ∧ r.port < 64 ∧ s.fld (F.PLT_PORT_OCC_COUNT (r.port -
      32)) < s.fld (F.PLT_PORT_LIMIT (r.port - 32)) ∧ s.pltFreeHold = some h) ∧
    (∃ (s : State) (r : LearnReq), s.soundLookup { parcel := r.parcel, vid := r.vid, mac := r.mac } ∧ (List.find? (fun (r : LearnReq) ↦ !s.pltHeld r)
      s.plat.queue = some r) ∧ r.kind = LearnKind.conflict) ∧
    (∃ (s : State) (n : BitVec 12) (h : HoldRec) (l : PLoc), s.soundLookup { parcel := h.parcel, vid := h.vid, mac := h.mac } ∧ tabGet none s.plat.hold
      n.toNat = some h ∧ 1500000 ≤ (s.cyc - h.since).toNat ∧ s.pltFind { parcel := h.parcel, vid := h.vid, mac := h.mac } = some l) ∧
    (∃ (s : State) (visit : List PLoc), (s.plat.sweeper < 65536 ∧ visit = List.map (fun (w : Nat) ↦ PLoc.way (4 * s.plat.sweeper + w)) (List.range 4) ∨
      s.plat.sweeper = 65536 ∧ visit = List.map PLoc.stash (List.range 64)) ∧ (∀ (l : PLoc), l ∈ visit → pltValid (s.pltAt l) = true → pltOk (s.pltAt
      l) = true)) ∧
    (∃ (s : State), 65536 < s.plat.sweeper) :=
  ⟨⟨asked (req .refresh 8) (station (entry 0 1 8 40 8) up), req .refresh 8, .way place, sound_of (by decide +kernel), by decide +kernel⟩,
   ⟨asked (req .learn 8) room, req .learn 8, 0, place, sound_of (by decide +kernel), by decide +kernel⟩,
   ⟨asked (req .learn 8) (put up [(F.PLT_PARCEL_CFG_QUOTA 0, 0)]), req .learn 8, sound_of (by decide +kernel), by decide +kernel⟩,
   ⟨asked (req .move 7) (station (entry 0 1 8 41 8) room), req .move 7, .way place, 0, sound_of (by decide +kernel), by decide +kernel⟩,
   ⟨asked (req .conflict 7) (station (entry 0 1 8 41 8) room), req .conflict 7, sound_of (by decide +kernel), by decide +kernel⟩,
   ⟨{ (station (entry 0 1 8 41 8) up).pltHoldSet 4095 (some ⟨0, 0, 1, 0⟩) with cyc := 1500000 }, 4095, ⟨0, 0, 1, 0⟩, .way place, sound_of (by
      decide +kernel), by decide +kernel⟩,
   ⟨{ up with plat := { up.plat with sweeper := 65536 } }, (List.range 64).map .stash, by decide +kernel⟩,
   ⟨{ up with plat := { up.plat with sweeper := 65537 } }, by decide +kernel⟩⟩

/-- The hypotheses of the clauses of StationRebuildAndFlushEnd, each met. -/
theorem StationRebuildAndFlushEnd_met :
    (∃ (s : State) (w : World), w ≠ World.nonSecure ∧ s.flag F.PLT_STATUS_REBUILD_ACTIVE = false) ∧
    (∃ (s : State) (w : World), w ≠ World.nonSecure ∧ s.flag F.PLT_STATUS_REBUILD_ACTIVE = true ∧ s.flag F.PLT_STATUS_REBUILD_STALLED = true) ∧
    (∃ (s : State), s.flag F.PLT_STATUS_REBUILD_ACTIVE = true ∧ s.flag F.PLT_STATUS_REBUILD_STALLED = false ∧ s.plat.walker < 65536 ∧ (∀ (w : Nat), w < 4
      → pltValid (s.pltWay (4 * s.plat.walker + w)) = true → pltOk (s.pltWay (4 * s.plat.walker + w)) = true ∧ pltGen (s.pltWay (4 * s.plat.walker +
      w)) ≠ s.flag F.PLT_STATUS_SEED_GEN)) ∧
    (∃ (s : State) (i : Nat), (∀ (w : Nat), 0 < w → w < 4 → pltValid (s.pltWay (4 * s.plat.walker + w)) = false) ∧ (∀ (w : Nat), 0 < w → w < 4 → i ≠ 4 *
      s.plat.walker + w) ∧ s.flag F.PLT_STATUS_REBUILD_ACTIVE = true ∧ s.flag F.PLT_STATUS_REBUILD_STALLED = false ∧ s.plat.walker < 65536 ∧ pltValid
      (s.pltWay (4 * s.plat.walker)) = true ∧ pltOk (s.pltWay (4 * s.plat.walker)) = true ∧ pltGen (s.pltWay (4 * s.plat.walker)) =
      s.flag F.PLT_STATUS_SEED_GEN ∧ s.pltFreeIn (pltCands s.plat.next0 s.plat.next1 (pltKey (s.pltWay (4 * s.plat.walker)))) = some i) ∧
    (∃ (s : State), s.flag F.PLT_STATUS_REBUILD_ACTIVE = true ∧ s.flag F.PLT_STATUS_REBUILD_STALLED = false ∧ s.plat.walker = 65599 ∧ pltValid
      (s.pltStashAt 63) = false) ∧
    (∃ (s : State), s.fld F.PLT_STASH_CFG_AUTO_THRESH ≠ 0 ∧ s.fld F.PLT_STASH_CFG_AUTO_THRESH ≤ s.fld F.PLT_STATUS_STASH_USED ∧
      s.flag F.PLT_STATUS_REBUILD_ACTIVE = false) ∧
    (∃ (s : State), s.plat.flush.isSome = true ∧ (∀ (r : LearnReq), r ∈ s.plat.queue → s.pltHeld r = false) ∧ s.waits = []) ∧
    (∃ (s : State) (w : Wait), s.plat.flush.isSome = true ∧ (∀ (r : LearnReq), r ∈ s.plat.queue → s.pltHeld r = false) ∧ s.waits = [w] ∧ w.opcode = 5127 ∧
      w.mute = false ∧ s.plat.flushRing = true ∧ s.flag (F.R2_RING_CTL_MSG_EN ↑w.d.fn) = true ∧ (s.fn ↑w.d.fn).stopped = false ∧ 0 <
      s.fld (F.R2_MSG_SIZE ↑w.d.fn) ∧ 32 ≤ w.d.rspLen.toNat ∧ w.d.writeOk = true) :=
  ⟨⟨up, .service, by decide +kernel⟩,
   ⟨put up [(F.PLT_STATUS_REBUILD_ACTIVE, 1), (F.PLT_STATUS_REBUILD_STALLED, 1)], .secure, by decide +kernel⟩,
   ⟨rebuilding 65535 up, by decide +kernel⟩,
   ⟨{ rebuilding 0 up with plat := { up.plat with ways := [(0, entry 0 1 8 40 8)] } }, place, between (by decide +kernel), between (by decide +kernel),
      by decide +kernel⟩,
   ⟨rebuilding 65599 up, by decide +kernel⟩,
   ⟨put up [(F.PLT_STASH_CFG_AUTO_THRESH, 3), (F.PLT_STATUS_STASH_USED, 3)], by decide +kernel⟩,
   ⟨{ up with plat := { up.plat with flush := some (0, none) } }, by decide +kernel⟩,
   ⟨{ ring 0 up with plat := { up.plat with flush := some (0, none), flushRing := true }, waits := [flushWait] }, flushWait, by decide +kernel⟩⟩

/-- The hypotheses of the clauses of SecureChannelCommands, each met. -/
theorem SecureChannelCommands_met :
    (∃ (s : State) (v : Via) (idx arg : Nat) (words : List Word), (Way secWay 1 Cls.observe (if (s.chan idx).valid = true then [(s.chan idx).parcel] else
      []) s v idx arg words) ∧ idx < 65536 ∧ (s.chan idx).valid = true) ∧
    (∃ (s : State) (v : Via) (idx arg : Nat) (words : List Word), (Way secWay 2 Cls.secure ((if (s.chan idx).valid = true then [(s.chan idx).parcel] else
      []) ++ [(Chan.ofWords words).parcel]) s v idx arg words) ∧ idx < 65536 ∧ (s.chan idx).valid = false ∧ s.scDenied idx (Chan.ofWords words) =
      false ∧ s.fld F.SEC_PIN_PINNED_SCS < 4096 ∧ ((Chan.ofWords words).valid = true → s.fld (F.GLB_PARCEL_USE_W0_SCS (Chan.ofWords words).parcel) <
      s.fld (F.GLB_PARCEL_LIM_W0_SC_MAX (Chan.ofWords words).parcel) ∧ ((Chan.ofWords words).pinned = true → s.fld (F.GLB_PARCEL_USE_W1_PINNED
      (Chan.ofWords words).parcel) < s.fld (F.GLB_PARCEL_LIM_W1_PIN_MAX (Chan.ofWords words).parcel)))) ∧
    (∃ (s : State) (v : Via) (idx arg : Nat) (words : List Word), (Way secWay 2 Cls.secure ((if (s.chan idx).valid = true then [(s.chan idx).parcel] else
      []) ++ [(Chan.ofWords words).parcel]) s v idx arg words) ∧ idx < 65536 ∧ s.scDenied idx (Chan.ofWords words) = true) ∧
    (∃ (s : State) (v : Via) (idx arg : Nat) (words : List Word) (old new : Nat), (Way secWay 8 Cls.operate (if (s.chan idx).valid = true then [(s.chan
      idx).parcel] else []) s v idx arg words) ∧ idx < 65536 ∧ (s.chan idx).valid = true ∧ (s.chan idx).dir = false ∧ old = 4 * idx + (s.chan
      idx).curAn ∧ new = 4 * idx + bitsOf (words.getD 0 0) 0 2 ∧ (s.ctx new).st = SaSt.installed ∧ (s.ctx old).st = SaSt.active ∧ (s.chan idx).curAn <
      4) ∧
    (∃ (s : State) (v : Via) (idx arg : Nat) (words : List Word), (Way secWay 9 Cls.operate (if (s.chan idx).valid = true then [(s.chan idx).parcel] else
      []) s v idx arg words) ∧ idx < 65536 ∧ (s.chan idx).valid = true ∧ (s.chan idx).dir = false ∧ (s.flag F.DAT_STATUS_SYNC = true ∨
      s.flag F.SEC_CFG_ALLOW_UNSYNC = true) ∧ 0 < s.until_ (BitVec.ofNat 64 (val64 words 2))) ∧
    (∃ (s : State) (v : Via) (idx arg : Nat) (words : List Word), (Way secWay 9 Cls.operate (if (s.chan idx).valid = true then [(s.chan idx).parcel] else
      []) s v idx arg words) ∧ idx < 65536 ∧ (s.chan idx).valid = true ∧ (s.chan idx).dir = false ∧ (s.flag F.DAT_STATUS_SYNC = true ∨
      s.flag F.SEC_CFG_ALLOW_UNSYNC = true) ∧ s.until_ (BitVec.ofNat 64 (val64 words 2)) ≤ 0) ∧
    (∃ (s : State) (v : Via) (idx arg : Nat) (words : List Word), (Way secWay 10 Cls.operate (if (s.chan idx).valid = true then [(s.chan idx).parcel] else
      []) s v idx arg words) ∧ idx < 65536 ∧ (s.chan idx).valid = true) ∧
    (∃ (s : State) (sc : BitVec 16), (s.chan sc.toNat).valid = true ∧ (s.chan sc.toNat).swPend = true ∧ s.until_ (s.chan sc.toNat).swAt ≤ 0 ∧
      (s.flag F.DAT_STATUS_SYNC = false ∧ s.flag F.SEC_CFG_ALLOW_UNSYNC = false ∨ (s.ctx (4 * sc.toNat + (s.chan sc.toNat).swAn)).st ≠
      SaSt.installed)) ∧
    (∃ (s : State) (sc : BitVec 16), (s.chan sc.toNat).valid = true ∧ (s.chan sc.toNat).swPend = true ∧ s.until_ (s.chan sc.toNat).swAt ≤ 0 ∧
      (s.flag F.DAT_STATUS_SYNC = true ∨ s.flag F.SEC_CFG_ALLOW_UNSYNC = true) ∧ (s.ctx (4 * sc.toNat + (s.chan sc.toNat).swAn)).st = SaSt.installed) :=
  ⟨⟨up.setChan 65535 chanTx, cmd secWay 1 65535, _, _, _, way_cmd _ _ _ _ _ _ (by decide +kernel), by decide +kernel⟩,
   ⟨win secWay (chanTx.toWords) up, cmd secWay 2 8, _, _, _, way_cmd _ _ _ _ _ _ (by decide +kernel), by decide +kernel⟩,
   ⟨win secWay (Chan.toWords { chanTx with linePort := 31 }) up, cmd secWay 2 8, _, _, _, way_cmd _ _ _ _ _ _ (by decide +kernel), by decide +kernel⟩,
   ⟨win secWay [1] ((assoc chanTx { st := .active }).setCtx 33 { st := .installed }), cmd secWay 8 8, _, _, _, 32, 33, way_cmd _ _ _ _ _ _ (by
      decide +kernel), by decide +kernel⟩,
   ⟨win secWay [1, 0, 1, 0] (put (up.setChan 8 chanTx) [(F.DAT_STATUS_SYNC, 1)]), cmd secWay 9 8, _, _, _, way_cmd _ _ _ _ _ _ (by decide +kernel), by
      decide +kernel⟩,
   ⟨put (up.setChan 8 chanTx) [(F.DAT_STATUS_SYNC, 1)], cmd secWay 9 8, _, _, _, way_cmd _ _ _ _ _ _ (by decide +kernel), by decide +kernel⟩,
   ⟨up.setChan 8 chanTx, cmd secWay 10 8, _, _, _, way_cmd _ _ _ _ _ _ (by decide +kernel), by decide +kernel⟩,
   ⟨up.setChan 8 { chanTx with swPend := true }, 8, by decide +kernel⟩,
   ⟨put ((assoc { chanTx with swPend := true, swAn := 1 } { st := .active }).setCtx 33 { st := .installed }) [(F.DAT_STATUS_SYNC, 1)], 8, by
      decide +kernel⟩⟩

/-- The hypotheses of the clauses of AssociationCommands, each met. -/
theorem AssociationCommands_met :
    (∃ (s : State) (v : Via) (idx arg : Nat) (words : List Word), (Way secWay 3 Cls.observe [(s.saChan idx).parcel] s v idx arg words ∧ (s.saChan
      idx).valid = true)) ∧
    (∃ (s : State) (v : Via) (idx arg : Nat) (words : List Word) (k : Handoff), (Way secWay 4 Cls.operate [(s.saChan idx).parcel] s v idx arg words ∧
      (s.saChan idx).valid = true) ∧ s.handoff arg = some k ∧ (s.ctx idx).st = SaSt.empty ∧ (s.ctx idx).resvWait = false ∧ (s.ctx idx).poison = false
      ∧ k.revoked = false ∧ k.parcel = (s.saChan idx).parcel ∧ k.mat.sak.length = (s.saChan idx).sakLen ∧ ((s.saChan idx).xpn = true →
      k.mat.salt.isSome = true) ∧ val64 words 8 ≤ (s.saChan idx).pnMax ∧ ((s.saChan idx).dir = false → 0 < val64 words 2 ∧ val64 words 2 ≤ if val64
      words 8 = 0 then (s.saChan idx).pnMax else val64 words 8) ∧ ((s.saChan idx).pinned = true ∨ s.needsPin (words.getD 0 0) = false ∧ (s.ddrCtx =
      true ∨ s.unpinnedCount < 32768)) ∧ (s.saChan idx).static_ = false) ∧
    (∃ (s : State) (v : Via) (idx arg : Nat) (words : List Word), (Way secWay 5 Cls.operate [(s.saChan idx).parcel] s v idx arg words ∧ (s.saChan
      idx).valid = true) ∧ (s.ctx idx).st ∈ [SaSt.installed, SaSt.exhausted, SaSt.revoked, SaSt.unusable] ∧ s.retireRoom idx = true) ∧
    (∃ (s : State) (v : Via) (idx arg : Nat) (words : List Word), (Way secWay 5 Cls.operate [(s.saChan idx).parcel] s v idx arg words ∧ (s.saChan
      idx).valid = true) ∧ (s.ctx idx).st ∈ [SaSt.installed, SaSt.exhausted, SaSt.revoked, SaSt.unusable] ∧ s.retireRoom idx = false) ∧
    (∃ (s : State) (v : Via) (idx arg : Nat) (words : List Word), (Way secWay 6 Cls.operate [(s.saChan idx).parcel] s v idx arg words ∧ (s.saChan
      idx).valid = true) ∧ (s.ctx idx).poison = false ∧ (s.saChan idx).dir = true ∧ (s.ctx idx).st = SaSt.installed) ∧
    (∃ (s : State) (v : Via) (idx arg : Nat) (words : List Word), (Way secWay 7 Cls.operate [(s.saChan idx).parcel] s v idx arg words ∧ (s.saChan
      idx).valid = true) ∧ (s.ctx idx).poison = false ∧ (s.saChan idx).dir = true ∧ (s.ctx idx).st = SaSt.active ∧ BitVec.toNat (words.getD 0 0) ≤
      60000000) ∧
    (∃ (s : State) (v : Via) (idx arg : Nat) (words : List Word), (Way secWay 11 Cls.operate [(s.saChan idx).parcel] s v idx arg words ∧ (s.saChan
      idx).valid = true) ∧ (s.ctx idx).poison = false ∧ (s.saChan idx).dir = false ∧ ((s.ctx idx).st = SaSt.installed ∨ (s.ctx idx).st = SaSt.active)
      ∧ tabGet 0 s.tie.armed idx = 0) ∧
    (∃ (s : State) (v : Via) (idx arg : Nat) (words : List Word), (Way secWay 12 Cls.secure [(s.saChan idx).parcel] s v idx arg words ∧ (s.saChan
      idx).valid = true) ∧ (s.ctx idx).poison = false ∧ (¬(s.ctx idx).st ∈ [SaSt.empty, SaSt.unusable, SaSt.revoked])) ∧
    (∃ (s : State) (v : Via) (idx arg : Nat) (words : List Word), (Way secWay 13 Cls.observe [(s.saChan idx).parcel] s v idx arg words ∧ (s.saChan
      idx).valid = true) ∧ (s.ctx idx).poison = false) ∧
    (∃ (s : State) (v : Via) (idx arg : Nat) (words : List Word), (Way secWay 14 Cls.observe [(s.saChan idx).parcel] s v idx arg words ∧ (s.saChan
      idx).valid = true) ∧ (s.ctx idx).poison = false) ∧
    (∃ (s : State) (sa : BitVec 18), (s.ctx sa.toNat).st = SaSt.draining ∧ (s.saChan sa.toNat).dir = true ∧ s.until_ (s.ctx sa.toNat).drainUntil ≤ 0) ∧
    (∃ (s : State) (sa : BitVec 18), (s.ctx sa.toNat).st = SaSt.quarantined ∧ s.until_ (s.ctx sa.toNat).quarUntil ≤ 0) :=
  ⟨⟨up.setChan 8 chanTx, cmd secWay 3 32, _, _, _, ⟨way_cmd _ _ _ _ _ _ (by decide +kernel), by decide +kernel⟩⟩,
   ⟨win secWay [0, 0, 1] { up.setChan 8 chanTx with hrt := { up.hrt with hands := [(0, { held := some ⟨0, mat, 0, 0, false⟩ })] } }, cmd secWay 4 32, _,
      _, _, ⟨0, mat, 0, 0, false⟩, ⟨way_cmd _ _ _ _ _ _ (by decide +kernel), by decide +kernel⟩, by decide +kernel⟩,
   ⟨assoc chanTx { st := .installed, key := some mat }, cmd secWay 5 32, _, _, _, ⟨way_cmd _ _ _ _ _ _ (by decide +kernel), by decide +kernel⟩, by
      decide +kernel⟩,
   ⟨crowded, cmd secWay 5 32, _, _, _, ⟨way_cmd _ _ _ _ _ _ (by decide +kernel), by decide +kernel⟩, by decide +kernel⟩,
   ⟨assoc chanRx { st := .installed, key := some mat }, cmd secWay 6 32, _, _, _, ⟨way_cmd _ _ _ _ _ _ (by decide +kernel), by decide +kernel⟩, by
      decide +kernel⟩,
   ⟨win secWay [60000000] (assoc chanRx { st := .active, key := some mat }), cmd secWay 7 32, _, _, _, ⟨way_cmd _ _ _ _ _ _ (by decide +kernel), by
      decide +kernel⟩, by decide +kernel⟩,
   ⟨assoc chanTx { st := .active, key := some mat }, cmd secWay 11 32, _, _, _, ⟨way_cmd _ _ _ _ _ _ (by decide +kernel), by decide +kernel⟩, by
      decide +kernel⟩,
   ⟨assoc chanTx { st := .active, key := some mat }, cmd secWay 12 32, _, _, _, ⟨way_cmd _ _ _ _ _ _ (by decide +kernel), by decide +kernel⟩, by
      decide +kernel⟩,
   ⟨assoc chanTx { st := .active, key := some mat }, cmd secWay 13 32, _, _, _, ⟨way_cmd _ _ _ _ _ _ (by decide +kernel), by decide +kernel⟩, by
      decide +kernel⟩,
   ⟨assoc chanTx { st := .active, key := some mat }, cmd secWay 14 32, _, _, _, ⟨way_cmd _ _ _ _ _ _ (by decide +kernel), by decide +kernel⟩, by
      decide +kernel⟩,
   ⟨assoc chanRx { st := .draining, key := some mat }, 32, by decide +kernel⟩,
   ⟨assoc chanRx { st := .quarantined, key := some mat }, 32, by decide +kernel⟩⟩

/-- Anvil 39, then anvil 0, in service and awake. -/
def anvil39 : State := put up [(F.ANV_CTL_IN_SVC 39, 1), (F.ANV_CTL_AWAKE 39, 1), (F.ANV_KAT_EN, 1), (F.ANV_KAT_PERIOD_US, 1)]
def anvil0 : State := put up [(F.ANV_CTL_IN_SVC 0, 1), (F.ANV_CTL_AWAKE 0, 1)]

/-- `s` with this frame as its only one, number 0, a thousand cycles after reset. -/
def holding (f : Machine.Frm) (s : State) : State := { s with frames := [(0, some f)], nextFrame := 1, cyc := 1000 }

/-- A frame of 64 bytes, whole, with its FCS; behind a SecTAG, PN 1, with the EtherType 88E5. -/
def bytes64 : List Byte := let b := zeros 5 ++ [1] ++ zeros 5 ++ [2, 8, 0] ++ zeros 46; b ++ fcsOf b
def bytesSec : List Byte := let b := zeros 5 ++ [1] ++ zeros 5 ++ [2, 0x88, 0xE5, 0x0C, 0, 0, 0, 0, 1] ++ zeros 46; b ++ fcsOf b
def secTag : SecTag := ((up.parseHdr bytesSec).secTag bytesSec).getD ⟨0, 0, 0, 0, none, 0⟩

/-- A frame of its port in a heat on anvil 0; from the clear side and from the line. -/
def heatTx : Machine.Frm := { inPort := 0, enc := true, bytes := bytes64, heat := true, anvil := some 0, key := some mat, sc := 8, outPort := 32 }
def heatRx : Machine.Frm := { inPort := 32, enc := false, bytes := bytesSec, heat := true, anvil := some 0, key := some mat, sc := 8 }

/-- Port 0 and port 32 UP and open, of one pair; frames of parcel 0 forwarded on channel 8. -/
def net : State :=
  put up [(F.PRT_PORT_W2_STATE 0, 4), (F.PRT_PORT_W2_OPEN 0, 1), (F.PRT_PORT_W2_TX_AVAIL 0, 1), (F.PRT_PORT_W2_STATE 32, 4), (F.PRT_PORT_W2_OPEN 32, 1),
    (F.PRT_MAP_VALID 0, 1), (F.PRT_MAP_LINE 0, 32), (F.TRV_PARCEL_SC_DEFAULT_SC 0, 8), (F.SEC_LPORT_IMPLIED_VALID 0, 1), (F.SEC_LPORT_IMPLIED_RXSC 0, 8),
    (F.GAT_CLASS_CFG_W0_MAX_FRAME 0, 2000), (F.GAT_CLASS_CFG_W0_MAX_FRAME 256, 2000), (F.BLW_PARCEL_CFG_BUF_QUOTA 0, 4096), (F.BLW_STATUS_FREE_CELLS, 8192), (F.SRD_LANE_W1_TX_SLEEP 0, 0)]
def forwards (s : State) : State := put s [(F.TRV_PARCEL_CFG_DEFAULT_ACTION 0, 1), (F.TRV_PARCEL_CFG_DEF_SC_VALID 0, 1)]

/-- A frame staged for Tongs. -/
def staged (f : Machine.Frm) : Machine.Frm := { f with staged := true, heat := false, anvil := none, slots := 4 }

/-- A frame in a queue of port 0, its first byte there. -/
def queued (q : Nat) : Machine.Frm := { inPort := 32, enc := false, bytes := bytes64, queue := some q, first := true, last := true, lOut := 64, cells := 1 }

/-- The durable reservation of association 32. -/
def pnRec : Rec := { id := 32, gen := 1, pay := .pn 7 }
/-- The hypotheses of the clauses of AnvilServiceAndPower, each met. -/
theorem AnvilServiceAndPower_met :
    (∃ (s : State) (a : Fin 40), (s.anvSvc ↑a = true ∧ s.flag F.ANV_KAT_EN = true ∧ 1500 * max 1 (s.fld F.ANV_KAT_PERIOD_US) ≤ (s.cyc - tabGet 0 s.anvKat
      ↑a).toNat)) ∧
    (∃ (s : State) (a : Fin 40), (s.anvSvc ↑a = true ∧ s.flag F.ANV_KAT_EN = true ∧ 1500 * max 1 (s.fld F.ANV_KAT_PERIOD_US) ≤ (s.cyc - tabGet 0 s.anvKat
      ↑a).toNat) ∧ s.framesOf (s.onAnvil ↑a) = []) ∧
    (∃ (s : State) (a : Fin 40), s.anvSvc ↑a = true ∧ s.framesOf (s.onAnvil ↑a) = []) ∧
    (∃ (s : State) (a : Fin 40) (i : Nat) (f : Machine.Frm), s.anvSvc ↑a = true ∧ s.framesOf (s.onAnvil ↑a) = [(i, f)] ∧ s.frame i = some f ∧ f.first = false ∧
      s.sec.delWait = none) ∧
    (∃ (s : State) (a : Fin 40), s.anvSvc ↑a = false ∧ s.flag (F.ANV_CTL_RETURN ↑a) = false) ∧
    (∃ (s : State) (a : Fin 40), s.anvSvc ↑a = true) ∧
    (∃ (s : State) (a : Fin 40), s.flag (F.ANV_CTL_RETURN ↑a) = true ∧ 150000 ≤ (s.cyc - tabGet 0 s.anvRet ↑a).toNat) ∧
    (∃ (s : State) (a : Fin 40), s.flag (F.ANV_CTL_RETURN ↑a) = true ∧ 150000 ≤ (s.cyc - tabGet 0 s.anvRet ↑a).toNat) ∧
    (∃ (s : State) (a : Fin 40), s.anvSvc ↑a = true) ∧
    (∃ (s : State) (a : Fin 40), s.flag (F.ANV_CTL_REMOVE ↑a) = true ∧ s.framesOf (s.onAnvil ↑a) = []) ∧
    (∃ (s : State) (a : Fin 40), (∀ (b : Nat), ↑a < b → b < 40 → ¬(s.anvSvc b = true ∧ s.anvAwake b = true ∧ ¬b ∈ s.reserve ∧ s.framesOf (s.onAnvil b) =
      [] ∧ 1500 * max 1 (s.fld F.ANV_PWR_IDLE_US) ≤ (s.cyc - tabGet 0 s.anvIdle b).toNat)) ∧ s.flag F.ANV_PWR_GATE_EN = true ∧ max 8 (min 40
      (s.fld F.ANV_PWR_MIN_AWAKE)) < s.fld F.ANV_STATUS_AWAKE ∧ (s.anvSvc ↑a = true ∧ s.anvAwake ↑a = true ∧ ¬↑a ∈ s.reserve ∧ s.framesOf (s.onAnvil
      ↑a) = [] ∧ 1500 * max 1 (s.fld F.ANV_PWR_IDLE_US) ≤ (s.cyc - tabGet 0 s.anvIdle ↑a).toNat)) ∧
    (∃ (s : State) (a : Fin 40), ((∃ (i : Nat), ∃ (f : Machine.Frm), s.frames = [(i, some f)] ∧ f.staged = true ∧ f.waited = true ∧ f.prio = false) ∨ s.busyAnvils
      = true) ∧ (s.anvSvc ↑a = true ∧ s.anvAwake ↑a = false ∧ tabGet none s.anvWake ↑a = none) ∧ (∀ (b : Nat), b < ↑a → ¬(s.anvSvc b = true ∧
      s.anvAwake b = false ∧ tabGet none s.anvWake b = none))) ∧
    (∃ (s : State) (a : Fin 40) (t0 : BitVec 64), tabGet none s.anvWake ↑a = some t0 ∧ 3000 ≤ (s.cyc - t0).toNat) ∧
    (∃ (s : State) (a : Fin 40) (i : Nat) (f : Machine.Frm), ((s.framesOf fun (f : Machine.Frm) ↦ s.onAnvil (↑a) f && f.shadow.isSome) = [(i, f)]) ∧ (s.streams ↑a).length
      < 16 ∧ ↑s.gmin ≤ s.room ↑a) :=
  ⟨⟨{ anvil39 with cyc := 1500 }, 39, by decide +kernel⟩,
   ⟨{ anvil39 with cyc := 1500 }, 39, by decide +kernel⟩,
   ⟨anvil39, 39, by decide +kernel⟩,
   ⟨holding heatTx anvil0, 0, 0, heatTx, by decide +kernel⟩,
   ⟨up, 0, by decide +kernel⟩,
   ⟨anvil0, 0, by decide +kernel⟩,
   ⟨{ put up [(F.ANV_CTL_RETURN 0, 1)] with cyc := 150000 }, 0, by decide +kernel⟩,
   ⟨{ put up [(F.ANV_CTL_RETURN 0, 1)] with cyc := 150000 }, 0, by decide +kernel⟩,
   ⟨anvil0, 0, by decide +kernel⟩,
   ⟨put anvil0 [(F.ANV_CTL_REMOVE 0, 1)], 0, by decide +kernel⟩,
   ⟨{ put anvil39 [(F.ANV_PWR_GATE_EN, 1), (F.ANV_PWR_MIN_AWAKE, 0), (F.ANV_STATUS_AWAKE, 9), (F.ANV_XRES_COUNT, 0), (F.ANV_PWR_IDLE_US, 1)] with cyc := 1500 },
      39, fun b h1 h2 => absurd (Nat.lt_of_lt_of_le h2 h1) (Nat.lt_irrefl _), by decide +kernel⟩,
   ⟨holding { staged heatTx with waited := true } (put up [(F.ANV_CTL_IN_SVC 0, 1)]), 0, .inl ⟨0, { staged heatTx with waited := true }, by
      decide +kernel⟩, by decide +kernel⟩,
   ⟨{ up with anvWake := [(0, some 0)], cyc := 3000 }, 0, 0, by decide +kernel⟩,
   ⟨holding { heatTx with shadow := some 0 } anvil0, 0, 0, { heatTx with shadow := some 0 }, by decide +kernel⟩⟩

/-- The hypotheses of the clauses of ReleaseStage, each met. -/
theorem ReleaseStage_met :
    (∃ (s : State), 1500000000 ≤ (s.cyc - s.sec.stompStart).toNat) ∧
    (∃ (s : State) (n : Fin 32), bitSet (s.fld F.SEC_REL_STATUS_SUSP) ↑n = true ∧ 1500000 * max 1 (min 60000 (s.fld (F.SEC_REL_PORT_QUAR_MS ↑n))) ≤ (s.cyc
      - tabGet 0 s.sec.stompLast ↑n).toNat) ∧
    (∃ (s : State) (n : Fin 32), bitSet (s.fld F.SEC_REL_STATUS_SUSP) ↑n = true) ∧
    (∃ (s : State) (i : Nat) (f : Machine.Frm), s.frame i = some f ∧ f.heat = true ∧ f.first = false ∧ f.ended = none ∧ s.inOrder i f = true ∧ s.leadOk f = true ∧
      f.enc = false ∧ f.specReq = true ∧ f.verdict = none ∧ s.tailSafe f = true ∧ s.demoted f = none) ∧
    (∃ (s : State) (i : Nat) (f : Machine.Frm), s.frame i = some f ∧ f.heat = true ∧ f.first = false ∧ f.ended = none ∧ s.inOrder i f = true ∧ s.leadOk f = true ∧
      (f.enc = true ∧ f.key.isSome = true ∨ f.enc = false ∧ f.verdict = some true)) ∧
    (∃ (s : State) (i : Nat) (f : Machine.Frm) (q : Nat), s.frame i = some f ∧ f.heat = true ∧ f.first = true ∧ f.rxEnd = true ∧ s.streamDone f = true ∧ (f.enc =
      true ∧ f.key.isSome = true ∨ f.enc = false ∧ f.verdict = some true) ∧ f.tailDrop = false ∧ f.queue = some q ∧ s.sec.delWait = none) ∧
    (∃ (s : State) (i : Nat) (f : Machine.Frm) (k : KeyMat) (tag : SecTag), (s.parseHdr f.bytes).secTag f.bytes = some tag ∧ s.frame i = some f ∧ f.heat = true ∧
      f.enc = false ∧ f.verdict = none ∧ f.ended = none ∧ f.rxEnd = true ∧ s.streamDone f = true ∧ f.poison = false ∧ f.key = some k) ∧
    (∃ (s : State) (i : Nat) (f : Machine.Frm), s.frame i = some f ∧ f.heat = true ∧ f.enc = false ∧ f.verdict = none ∧ f.ended = none ∧ f.shadow = none ∧
      s.verdictBy f < s.cycNs ∧ f.first = false ∧ s.sec.delWait = none) :=
  ⟨⟨{ up with cyc := 1500000000 }, by decide +kernel⟩,
   ⟨{ put up [(F.SEC_REL_STATUS_SUSP, 1), (F.SEC_REL_PORT_QUAR_MS 0, 1)] with cyc := 1500000 }, 0, by decide +kernel⟩,
   ⟨put up [(F.SEC_REL_STATUS_SUSP, 1)], 0, by decide +kernel⟩,
   ⟨holding { heatRx with rxEnd := true, specReq := true, lOut := 1000 } (put anvil0 [(F.TRV_PORT_CFG_RELEASE 32, 1)]), 0,
      { heatRx with rxEnd := true, specReq := true, lOut := 1000 }, by decide +kernel⟩,
   ⟨holding { heatTx with rxEnd := true } anvil0, 0, { heatTx with rxEnd := true }, by decide +kernel⟩,
   ⟨holding { heatTx with rxEnd := true, first := true, queue := some 0 } anvil0, 0, { heatTx with rxEnd := true, first := true, queue := some 0 }, 0, by
      decide +kernel⟩,
   ⟨holding { heatRx with rxEnd := true } anvil0, 0, { heatRx with rxEnd := true }, mat, secTag, some_getD (by decide +kernel), by decide +kernel⟩,
   ⟨holding heatRx anvil0, 0, heatRx, by decide +kernel⟩⟩

/-- The hypotheses of the clauses of FramesArrive, each met. -/
theorem FramesArrive_met :
    (∃ (s : State) (n : Fin 32) (lag : BitVec 16) (b : List Byte) (bad : Bool) (port : Nat) (c : Instr), (port, c) ∈ [(n.val, Instr.clearFrameArrival n
      lag b bad), (n.val + 32, Instr.lineFrameArrival n lag b bad)] ∧ s.portUp port = false) ∧
    (∃ (s : State) (n : Fin 32) (lag : BitVec 16) (b : List Byte) (bad : Bool) (port : Nat) (c : Instr), (port, c) ∈ [(n.val, Instr.clearFrameArrival n
      lag b bad), (n.val + 32, Instr.lineFrameArrival n lag b bad)] ∧ s.portUp port = true ∧ s.held = true) ∧
    (∃ (s : State) (n : Fin 32) (lag : BitVec 16) (b : List Byte) (bad : Bool), Received s (↑n) b bad ∧ ((s.enter (↑n) lag b bad).fst.classifyClear (↑n)
      b).snd.res.action = 1) ∧
    (∃ (s : State) (n : Fin 32) (lag : BitVec 16) (b : List Byte) (bad : Bool) (sc : Nat), Received s (↑n) b bad ∧ ((s.enter (↑n) lag b
      bad).fst.classifyClear (↑n) b).snd.tx = TxSc.sc sc false ∧ ((s.enter (↑n) lag b bad).fst.classifyClear (↑n) b).snd.res.action = 0 ∧
      s.parcelStops ((s.enter (↑n) lag b bad).fst.classifyClear (↑n) b).snd.parcel = false ∧ (lensOf (s.chan sc) true ((s.enter (↑n) lag b
      bad).fst.classifyClear (↑n) b).snd.hdr.tags.length ((s.enter (↑n) lag b bad).fst.classifyClear (↑n) b).snd.hdr.off 0 b.length).snd ≤ s.clsMax
      (s.chan sc).linePort ((s.enter (↑n) lag b bad).fst.classifyClear (↑n) b).snd.cls ∧ s.clsExpress (s.chan sc).linePort ((s.enter (↑n) lag b
      bad).fst.classifyClear (↑n) b).snd.cls = false ∧ s.policeStops ((s.enter (↑n) lag b bad).fst.classifyClear (↑n) b).snd.parcel false = false ∧
      s.onChip (4 * sc + (s.chan sc).curAn) = true ∧ s.stagedBytes ↑n + b.length ≤ 131072) ∧
    (∃ (s : State) (n : Fin 32) (lag : BitVec 16) (b : List Byte) (bad : Bool), Received s (n.val + 32) b bad ∧ ((s.enter (n.val + 32) lag b
      bad).fst.classifyLine (n.val + 32) b).snd.res.action = 1) ∧
    (∃ (s : State) (n : Fin 32) (lag : BitVec 16) (b : List Byte) (bad : Bool), Received s (n.val + 32) b bad ∧ ((s.enter (n.val + 32) lag b
      bad).fst.classifyLine (n.val + 32) b).snd.tag = none ∧ ((s.enter (n.val + 32) lag b bad).fst.classifyLine (n.val + 32) b).snd.res.action = 0 ∧
      s.parcelStops ((s.enter (n.val + 32) lag b bad).fst.classifyLine (n.val + 32) b).snd.parcel = false) ∧
    (∃ (s : State) (n : Fin 32) (lag : BitVec 16) (b : List Byte) (bad : Bool) (tag : SecTag) (rx : Nat), Received s (n.val + 32) b bad ∧ ((s.enter (n.val
      + 32) lag b bad).fst.classifyLine (n.val + 32) b).snd.tag = some tag ∧ ((s.enter (n.val + 32) lag b bad).fst.classifyLine (n.val + 32)
      b).snd.res.action = 0 ∧ ((s.enter (n.val + 32) lag b bad).fst.classifyLine (n.val + 32) b).snd.rx = some rx ∧ (s.ctx (4 * rx + tag.an)).st =
      SaSt.active ∧ s.replayBad (4 * rx + tag.an) (s.fullPn (4 * rx + tag.an) tag.pn) = none ∧ s.onChip (4 * rx + tag.an) = true ∧ (s.chan
      rx).returnValid = false ∧ s.parcelStops ((s.enter (n.val + 32) lag b bad).fst.classifyLine (n.val + 32) b).snd.parcel = false ∧ ((lensOf (s.chan
      rx) false ((s.enter (n.val + 32) lag b bad).fst.classifyLine (n.val + 32) b).snd.hdr.tags.length ((s.enter (n.val + 32) lag b
      bad).fst.classifyLine (n.val + 32) b).snd.hdr.off tag.len b.length).snd ≤ s.clsMax (s.chan rx).boundClr (if (s.chan rx).pinned = true ∧ (s.ctx
      (4 * rx + tag.an)).classValid = true then (s.ctx (4 * rx + tag.an)).cls else ((s.enter (n.val + 32) lag b bad).fst.classifyLine (n.val + 32)
      b).snd.cls)) ∧ (s.clsExpress (s.chan rx).boundClr (if (s.chan rx).pinned = true ∧ (s.ctx (4 * rx + tag.an)).classValid = true then (s.ctx (4 *
      rx + tag.an)).cls else ((s.enter (n.val + 32) lag b bad).fst.classifyLine (n.val + 32) b).snd.cls) = false) ∧ s.policeStops ((s.enter (n.val +
      32) lag b bad).fst.classifyLine (n.val + 32) b).snd.parcel true = false ∧ s.stagedBytes (n.val + 32) + b.length ≤ 131072) ∧
    (∃ (s : State) (i : Nat) (f : Machine.Frm) (got : BitVec 16), s.frame i = some f ∧ f.rxEnd = false ∧ f.origin = false ∧ f.ended = none ∧ f.bytes.length ≤
      got.toNat ∧ f.bytes.length ≤ s.portMax f.inPort ∧ badFcs f.bytes f.badFec = false ∧ f.lOut ≤ s.clsMax f.outPort f.cls ∧ f.bypass = false) ∧
    (∃ (s : State) (i : Nat) (f : Machine.Frm) (got : BitVec 16), s.frame i = some f ∧ f.rxEnd = false ∧ f.origin = false ∧ f.ended = none ∧ f.bytes.length ≤
      got.toNat ∧ f.bytes.length ≤ s.portMax f.inPort ∧ badFcs f.bytes f.badFec = true ∧ f.first = false ∧ s.sec.delWait = none) :=
  ⟨⟨up, 0, 0, [], false, 0, .clearFrameArrival 0 0 [] false, .head _, by decide +kernel⟩,
   ⟨put up [(F.PRT_PORT_W2_STATE 63, 4), (F.ENV_STATUS_LEVEL, 2)], 31, 0, [], false, 63, .lineFrameArrival 31 0 [] false, .tail _ (.head _), by
      decide +kernel⟩,
   ⟨net, 0, 0, bytes64, false, received_of (by decide +kernel), by decide +kernel⟩,
   ⟨(forwards net).setChan 8 chanTx, 0, 0, bytes64, false, 8, received_of (by decide +kernel), sc_of (by decide +kernel), by decide +kernel⟩,
   ⟨net, 0, 0, bytes64, false, received_of (by decide +kernel), by decide +kernel⟩,
   ⟨forwards net, 0, 0, bytes64, false, received_of (by decide +kernel), Option.isNone_iff_eq_none.1 (by decide +kernel), by decide +kernel⟩,
   ⟨((forwards net).setChan 8 chanRx).setCtx 32 { st := .active, key := some mat }, 0, 0, bytesSec, false, secTag, 8, received_of (by decide +kernel),
      tag_of (by decide +kernel), by decide +kernel⟩,
   ⟨holding heatTx net, 0, heatTx, 64, by decide +kernel⟩,
   ⟨holding { heatTx with badFec := true } net, 0, { heatTx with badFec := true }, 64, by decide +kernel⟩⟩

/-- The hypotheses of the clauses of FramesGoOn, each met. -/
theorem FramesGoOn_met :
    (∃ (s : State) (i : Nat) (f : Machine.Frm) (a : Nat) (g : Rat), s.frame i = some f ∧ s.dispatchable i f = true ∧ s.heatFree f.prio = true ∧ s.dispatchSa f =
      (s, f) ∧ s.onChip f.sa = true ∧ f.express = s.clsExpress f.outPort f.cls ∧ s.place f (needPace f.slots (s.rate f.inPort) f.bytes.length) = some
      (a, g, none) ∧ f.enc = true ∧ (s.ctx f.sa).st = SaSt.active ∧ (s.ctx f.sa).resvWait = false) ∧
    (∃ (s : State) (i : Nat) (f : Machine.Frm) (a : Nat) (g : Rat), s.frame i = some f ∧ s.dispatchable i f = true ∧ s.heatFree f.prio = true ∧ s.dispatchSa f =
      (s, f) ∧ s.onChip f.sa = true ∧ f.express = s.clsExpress f.outPort f.cls ∧ s.place f (needPace f.slots (s.rate f.inPort) f.bytes.length) = some
      (a, g, none) ∧ f.enc = false ∧ (s.ctx f.sa).st = SaSt.active ∧ s.replayBad f.sa (s.fullPn f.sa f.pn) = none ∧ (s.ctx f.sa).classValid = false ∧
      (s.ctx f.sa).cmd = false) ∧
    (∃ (s : State) (i : Nat) (f : Machine.Frm), s.frame i = some f ∧ s.dispatchable i f = true ∧ s.heatFree f.prio = true ∧ s.dispatchSa f = (s, f) ∧ s.onChip
      f.sa = true ∧ f.enc = true ∧ (s.ctx f.sa).resvWait = false ∧ (s.ctx f.sa).st ≠ SaSt.active ∧ s.sec.delWait = none ∧ f.first = false) ∧
    (∃ (s : State) (sa : BitVec 18), sa.toNat ∈ s.sec.misses ∧ s.sec.ddrLost = false) ∧
    (∃ (s : State) (sa : BitVec 18), sa.toNat ∈ s.sec.misses ∧ (s.ctx sa.toNat).st ≠ SaSt.empty) ∧
    (∃ (s : State) (sa : BitVec 18) (v : Nat) (r : Rec), (s.ctx sa.toNat).resvNext = some v ∧ s.current 2 sa.toNat = some r ∧ r.pay = Pay.pn v) ∧
    (∃ (s : State) (n : Fin 64) (c i : Nat) (f : Machine.Frm) (u : State), (s.wake ↑n).takeFrom (↑n) c = (u, some (i, f)) ∧ s.canSend ↑n = true ∧ s.onWire ↑n =
      none ∧ s.held_ ↑n = none ∧ ((s.pickClass ↑n fun _ ↦ true) = some c) ∧ f.outPoison = false) ∧
    (∃ (s : State) (n : Fin 64) (i : Nat) (f : Machine.Frm), s.canSend ↑n = true ∧ s.onWire ↑n = none ∧ s.held_ ↑n = some (i, f) ∧ ((s.pickClass ↑n fun (c : Nat)
      ↦ !s.clsPreempt (↑n) c) = none) ∧ s.resumes f = true) ∧
    (∃ (s : State) (n : Fin 64) (i : Nat) (f : Machine.Frm), s.onWire ↑n = some (i, f) ∧ f.last = true ∧ f.outPoison = false ∧ f.ended = none ∧ f.heat = false ∧
      s.tieOn = false ∧ (∀ (l : Nat), l ∈ s.txLanes ↑n → s.flag (F.SRD_LANE_W1_TX_SLEEP l) = false)) ∧
    (∃ (s : State) (n : Fin 64) (c : Fin 8) (b : List Byte), s.isStandby = false ∧ s.held = false ∧ 60 ≤ b.length ∧ b.length + 4 ≤ s.portMax ↑n ∧
      s.enqFails (queueIdx (↑n) (↑c) 0) 0 (cellsOf (b.length + 4)) false (s.clsExpress ↑n ↑c) = false) ∧
    (∃ (s : State) (i : Nat) (f : Machine.Frm), s.headOf ctlQueue = some (i, f) ∧ f.cells ≠ 0) :=
  ⟨⟨holding (staged heatTx) ((((put net [(F.ANV_CTL_IN_SVC 0, 1), (F.ANV_CTL_AWAKE 0, 1)]).setChan 8 chanTx)).setCtx 32
      { st := .active, key := some mat }), 0, staged heatTx, 0, 10, by decide +kernel⟩,
   ⟨holding (staged { heatRx with pn := 1 }) ((((put net [(F.ANV_CTL_IN_SVC 0, 1), (F.ANV_CTL_AWAKE 0, 1)]).setChan 8 chanRx)).setCtx 32
      { st := .active, key := some mat }), 0, staged { heatRx with pn := 1 }, 0, 64 / 7, by decide +kernel⟩,
   ⟨holding (staged heatTx) ((net.setChan 8 chanTx).setCtx 32 { st := .installed, key := some mat }), 0, staged heatTx, by decide +kernel⟩,
   ⟨{ up with sec := { up.sec with misses := [5] } }, 5, by decide +kernel⟩,
   ⟨{ up.setCtx 5 { st := .active } with sec := { (up.setCtx 5 { st := .active }).sec with misses := [5] } }, 5, by decide +kernel⟩,
   ⟨(up.setCtx 32 { st := .installed, resvNext := some 7 }).setRecSlot 2 767 { copy := some pnRec }, 32, 7, pnRec, by decide +kernel⟩,
   ⟨holding (queued 0) net, 0, 0, 0, queued 0, _, eta_of (by decide +kernel), by decide +kernel⟩,
   ⟨holding { queued 0 with sending := true, preempted := true } net, 0, 0, { queued 0 with sending := true, preempted := true }, by decide +kernel⟩,
   ⟨holding { queued 0 with sending := true } net, 0, 0, { queued 0 with sending := true }, by decide +kernel⟩,
   ⟨net, 0, 0, zeros 60, by decide +kernel⟩,
   ⟨holding (queued ctlQueue) net, 0, queued ctlQueue, by decide +kernel⟩⟩

/-- The hypotheses of the clauses of BellowsQueuesAndPolicers, each met. -/
theorem BellowsQueuesAndPolicers_met :
    (∃ (s : State) (v : Via) (idx arg : Nat) (words : List Word), (Way blwWay 1 Cls.observe [if idx < ctlQueue then idx % 64 else 0] s v idx arg words) ∧
      idx ≤ ctlQueue) ∧
    (∃ (s : State) (v : Via) (idx arg : Nat) (words : List Word), (Way blwWay 1 Cls.observe [if idx < ctlQueue then idx % 64 else 0] s v idx arg words) ∧
      ctlQueue < idx) ∧
    (∃ (s : State) (v : Via) (idx arg : Nat) (words : List Word), (Way blwWay 2 Cls.secure [if idx < ctlQueue then idx % 64 else 0] s v idx arg words) ∧
      (∀ (w : World) (word : Word), v = Via.reg w word → w.isSecure = true) ∧ idx < ctlQueue) ∧
    (∃ (s : State) (v : Via) (idx arg : Nat) (words : List Word) (w : World) (word : Word), (Way blwWay 2 Cls.secure [if idx < ctlQueue then idx % 64 else
      0] s v idx arg words) ∧ v = Via.reg w word ∧ w.isSecure = false) ∧
    (∃ (s : State) (v : Via) (idx arg : Nat) (words : List Word), (Way blwWay 3 Cls.operate [if idx < ctlQueue then idx % 64 else 0] s v idx arg words) ∧
      idx ≤ ctlQueue) ∧
    (∃ (s : State), 1536 ≤ (s.cyc - s.polAt).toNat) ∧
    (∃ (s : State), s.flag F.BLW_CFG_SAMPLE_EN = true ∧ 1536 ≤ (s.cyc - s.sampAt).toNat) :=
  ⟨⟨up, cmd blwWay 1 32768, _, _, _, way_cmd _ _ _ _ _ _ (by decide +kernel), by decide +kernel⟩,
   ⟨up, cmd blwWay 1 32769, _, _, _, way_cmd _ _ _ _ _ _ (by decide +kernel), by decide +kernel⟩,
   ⟨up, cmd blwWay 2 32767, _, _, _, way_cmd _ _ _ _ _ _ (by decide +kernel), fun w word h => by cases h; rfl, by decide +kernel⟩,
   ⟨up, .reg .nonSecure (cmdWord blwWay 2 0), _, _, _, .nonSecure, cmdWord blwWay 2 0, ⟨by decide +kernel, .inr (by decide +kernel), by decide +kernel,
      rfl, rfl, rfl⟩, by decide +kernel⟩,
   ⟨up, cmd blwWay 3 32768, _, _, _, way_cmd _ _ _ _ _ _ (by decide +kernel), by decide +kernel⟩,
   ⟨{ up with cyc := 1536 }, by decide +kernel⟩,
   ⟨{ put up [(F.BLW_CFG_SAMPLE_EN, 1)] with cyc := 1536 }, by decide +kernel⟩⟩

/-- Gates of port 0 as given. -/
def gated (g : Gate) (s : State) : State := s.setGate 0 g

/-- A PPS message of that flag byte and second. -/
def tod (flags sec : Nat) : List Byte :=
  let b := [0x5A, 0x44, 1] ++ leBytes 1 flags ++ leBytes 6 sec ++ zeros 4
  b ++ leBytes 2 (crc16 b)

/-- PPS_IN is the source, and its edge at `edge` quarter-nanoseconds awaits the message. -/
def pps (edge : Int) (prev : Option Nat) : State :=
  let s := put up [(F.DAT_CFG_SRC, 1), (F.DAT_STATUS_STATE, 2), (F.DAT_SYNC_UNSYNC_NS, 1000)]
  { s with dat := { s.dat with pps := some (edge, 0), tod := prev } }

/-- Meridian enabled, 40 to 70 Hz, in this state, its last edge at 0 and its frequency 50 Hz; Datum at `ns`. -/
def meridian (st ns : Nat) : State :=
  let s := put up [(F.MER_CFG_EN, 1), (F.MER_CFG_EDGE, 0), (F.MER_STATUS_STATE, st), (F.MER_RANGE_MIN_HZ, 40), (F.MER_RANGE_MAX_HZ, 70), (F.MER_LOCK_THRESH, 1000)]
  { s with datum := BitVec.ofNat 96 (ns * 2 ^ 32), dat := { s.dat with merF := 50 * 65536, merPrev := some 0 } }

/-- Stake 7 with this mode word ready to arm: a pulse of 10 ns at 1,024 ns, every 100 ns. -/
def stakeReady : State :=
  put up [(F.DAT_STAKE_W1_TIME_LO 7, 1024), (F.DAT_STAKE_W3_PERIOD_PHASE 7, 100), (F.DAT_STAKE_W5_DIVIDE 7, 1), (F.DAT_STAKE_W6_WIDTH_NS 7, 10)]
def stakeOn (x : Stake) : State := { up with dat := { up.dat with stakes := [(7, x)] } }

/-- A benchmark input enabled for both edges, its FIFO as given. -/
def bench (b : Bench) : State :=
  let s := put up [(F.DAT_BENCH_W0_EN 7, 1), (F.DAT_BENCH_W0_EDGE 7, 3)]
  { s with dat := { s.dat with bench := [(7, b)] } }
def cap : BenchCap := { ns := 0, quarter := 3, rise := true, sync := false, mlock := false, phase := 0 }
/-- The hypotheses of the clauses of GateListsAndBoundaries, each met. -/
theorem GateListsAndBoundaries_met :
    (∃ (s : State) (v : Via) (idx arg : Nat) (words : List Word), Way gatWay 1 Cls.observe [] s v idx arg words ∧ idx < 1024) ∧
    (∃ (s : State) (v : Via) (idx arg : Nat) (words : List Word), Way gatWay 2 Cls.observe [] s v idx arg words ∧ idx < 1024) ∧
    (∃ (s : State) (v : Via) (idx arg : Nat) (words : List Word), Way gatWay 3 Cls.secure [] s v idx arg words ∧ idx < 1024 ∧
      s.flag (F.GAT_PORT_STATUS_ARMED (arg / 2 ^ 16 % 64)) = false) ∧
    (∃ (s : State) (v : Via) (idx arg : Nat) (words : List Word), Way gatWay 3 Cls.secure [] s v idx arg words ∧ idx < 1024 ∧
      s.flag (F.GAT_PORT_STATUS_ARMED (arg / 2 ^ 16 % 64)) = true) ∧
    (∃ (s : State) (v : Via) (idx arg : Nat) (words : List Word), Way gatWay 4 Cls.secure [] s v idx arg words ∧ s.flag (F.GAT_PORT_STATUS_ARMED (arg / 2
      ^ 16 % 64)) = false ∧ s.listOk (s.pendList (arg / 2 ^ 16 % 64)) = true) ∧
    (∃ (s : State) (v : Via) (idx arg : Nat) (words : List Word), Way gatWay 4 Cls.secure [] s v idx arg words ∧ s.flag (F.GAT_PORT_STATUS_ARMED (arg / 2
      ^ 16 % 64)) = false ∧ s.listOk (s.pendList (arg / 2 ^ 16 % 64)) = false) ∧
    (∃ (s : State) (v : Via) (idx arg : Nat) (words : List Word), Way gatWay 5 Cls.secure [] s v idx arg words ∧ s.flag (F.GAT_PORT_STATUS_ARMED (arg / 2
      ^ 16 % 64)) = true ∧ (s.gate (arg / 2 ^ 16 % 64)).swapAt = none) ∧
    (∃ (s : State) (v : Via) (idx arg : Nat) (words : List Word), Way gatWay 5 Cls.secure [] s v idx arg words ∧ s.flag (F.GAT_PORT_STATUS_ARMED (arg / 2
      ^ 16 % 64)) = true ∧ (s.gate (arg / 2 ^ 16 % 64)).swapAt ≠ none) ∧
    (∃ (s : State) (m : Fin 64) (b : Bound) (rest : List Bound), (∀ (e : Nat × Option Machine.Frm), e ∈ s.frames → ∀ (f : Machine.Frm), e.snd = some f → ¬(f.sending =
      true ∧ f.preempted = false ∧ f.outPort = ↑m ∧ s.clsPreempt (↑m) f.cls = true ∧ s.clsGated (↑m) f.cls = true ∧ bitSet b.gates f.cls = false)) ∧
      (s.gate ↑m).laid = b :: rest ∧ s.macNs (↑m) b.at_ ≤ s.cycNs ∧ b.gates < 256 ∧ b.entry < 1024 ∧ b.state < 3) ∧
    (∃ (s : State) (m : Fin 64) (u : Int), (s.gate ↑m).swapAt = some u ∧ s.macNs (↑m) u ≤ s.cycNs) ∧
    (∃ (s : State) (m : Fin 64), s.fld (F.GAT_PORT_STATUS_MM_STATE ↑m) = 1) ∧
    (∃ (s : State) (m : Fin 64), s.fld (F.GAT_PORT_STATUS_MM_STATE ↑m) = 1) :=
  ⟨⟨up, cmd gatWay 1 1023, _, _, _, way_cmd _ _ _ _ _ _ (by decide +kernel), by decide +kernel⟩,
   ⟨up, cmd gatWay 2 1023, _, _, _, way_cmd _ _ _ _ _ _ (by decide +kernel), by decide +kernel⟩,
   ⟨up, cmd gatWay 3 1023, _, _, _, way_cmd _ _ _ _ _ _ (by decide +kernel), by decide +kernel⟩,
   ⟨put up [(F.GAT_PORT_STATUS_ARMED 0, 1)], cmd gatWay 3 0, _, _, _, way_cmd _ _ _ _ _ _ (by decide +kernel), by decide +kernel⟩,
   ⟨gated { pend := [(0, (32, 255))] } (put up [(F.GAT_PEND_W3_LENGTH 0, 1), (F.GAT_PEND_W2_CYCLE_TIME 0, 32)]), cmd gatWay 4 0, _, _, _, way_cmd _ _ _ _
      _ _ (by decide +kernel), by decide +kernel⟩,
   ⟨gated { pend := [(0, (31, 255))] } (put up [(F.GAT_PEND_W3_LENGTH 0, 1), (F.GAT_PEND_W2_CYCLE_TIME 0, 32)]), cmd gatWay 4 0, _, _, _, way_cmd _ _ _ _
      _ _ (by decide +kernel), by decide +kernel⟩,
   ⟨put up [(F.GAT_PORT_STATUS_ARMED 0, 1)], cmd gatWay 5 0, _, _, _, way_cmd _ _ _ _ _ _ (by decide +kernel), by decide +kernel⟩,
   ⟨gated { swapAt := some 0 } (put up [(F.GAT_PORT_STATUS_ARMED 0, 1)]), cmd gatWay 5 0, _, _, _, way_cmd _ _ _ _ _ _ (by decide +kernel), by
      decide +kernel⟩,
   ⟨gated { laid := [⟨0, 255, 1023, 2⟩] } up, 0, ⟨0, 255, 1023, 2⟩, [], fun e h => absurd h List.not_mem_nil, by decide +kernel⟩,
   ⟨gated { swapAt := some 0 } up, 0, 0, by decide +kernel⟩,
   ⟨put up [(F.GAT_PORT_STATUS_MM_STATE 63, 1)], 63, by decide +kernel⟩,
   ⟨put up [(F.GAT_PORT_STATUS_MM_STATE 63, 1)], 63, by decide +kernel⟩⟩

/-- The hypotheses of the clauses of DatumCommands, each met. -/
theorem DatumCommands_met :
    (∃ (s : State) (v : Via) (idx arg : Nat) (words : List Word), Way datWay 1 Cls.secure [] s v idx arg words ∧ (s.fld F.DAT_CFG_SRC = 0 ∨
      s.fld F.DAT_CFG_SRC = 3)) ∧
    (∃ (s : State) (v : Via) (idx arg : Nat) (words : List Word), Way datWay 1 Cls.secure [] s v idx arg words ∧ (s.fld F.DAT_CFG_SRC = 1 ∨
      s.fld F.DAT_CFG_SRC = 2)) ∧
    (∃ (s : State) (v : Via) (idx arg : Nat) (words : List Word), Way datWay 2 Cls.secure [] s v idx arg words) ∧
    (∃ (s : State) (v : Via) (idx arg : Nat) (words : List Word), Way datWay 3 Cls.operate [] s v idx arg words ∧ s.datOpnd.natAbs ≤ 1000000) ∧
    (∃ (s : State) (v : Via) (idx arg : Nat) (words : List Word), Way datWay 3 Cls.operate [] s v idx arg words ∧ 1000000 < s.datOpnd.natAbs) ∧
    (∃ (s : State) (v : Via) (idx arg : Nat) (words : List Word), Way datWay 5 Cls.operate [] s v idx arg words) ∧
    (∃ (s : State) (v : Via) (idx arg : Nat) (words : List Word) (w : World) (word : Word), v = Via.reg w word ∧ Way datWay 4 Cls.operate [] s v idx arg
      words ∧ s.fld F.DAT_CFG_SRC = 2 ∧ s.fld F.DAT_STATUS_STATE = 2 ∧ s.datOpnd.natAbs ≤ s.fld F.DAT_SYNC_UNSYNC_NS ∧ s.datOpnd.natAbs < 2 ^ 31) ∧
    (∃ (s : State) (v : Via) (idx arg : Nat) (words : List Word) (d : Desc), v = Via.ring d ∧ Way datWay 4 Cls.operate [] s v idx arg words ∧
      d.payload.length ≤ 16) ∧
    (∃ (s : State), s.dat.slew = 0 ∧ s.flag F.DAT_STATUS_SLEWING = true) ∧
    (∃ (s : State) (announce : Bool), s.fld F.DAT_STATUS_STATE = 2 ∧ (announce = true ∧ s.fld F.DAT_CFG_SRC = 2 ∨ 2250000000 ≤ (s.cyc -
      s.dat.meas).toNat)) ∧
    (∃ (s : State), s.fld F.DAT_STATUS_STATE = 3 ∧ 1500000000 * s.fld F.DAT_HOLD_HOLDOVER_S ≤ (s.cyc - s.dat.hold).toNat) :=
  ⟨⟨put up [(F.DAT_CFG_SRC, 3)], cmd datWay 1 0, _, _, _, way_cmd _ _ _ _ _ _ (by decide +kernel), by decide +kernel⟩,
   ⟨put up [(F.DAT_CFG_SRC, 1)], cmd datWay 1 0, _, _, _, way_cmd _ _ _ _ _ _ (by decide +kernel), by decide +kernel⟩,
   ⟨up, cmd datWay 2 0, _, _, _, way_cmd _ _ _ _ _ _ (by decide +kernel)⟩,
   ⟨put up [(F.DAT_OPND_LO, 1000000)], cmd datWay 3 0, _, _, _, way_cmd _ _ _ _ _ _ (by decide +kernel), by decide +kernel⟩,
   ⟨put up [(F.DAT_OPND_LO, 1000001)], cmd datWay 3 0, _, _, _, way_cmd _ _ _ _ _ _ (by decide +kernel), by decide +kernel⟩,
   ⟨up, cmd datWay 5 0, _, _, _, way_cmd _ _ _ _ _ _ (by decide +kernel)⟩,
   ⟨put up [(F.DAT_CFG_SRC, 2), (F.DAT_STATUS_STATE, 2), (F.DAT_OPND_LO, 1000), (F.DAT_SYNC_UNSYNC_NS, 1000)], cmd datWay 4 0, _, _, _, .secure, cmdWord
      datWay 4 0, rfl, way_cmd _ _ _ _ _ _ (by decide +kernel), by decide +kernel⟩,
   ⟨ring 1 up, .ring (maced (desc (zeros 16)) (0x1000 + 0x100 * datWay.n + 4)), _, _, _, maced (desc (zeros 16)) (0x1000 + 0x100 * datWay.n + 4), rfl,
      way_ring _ _ _ _ _ _ (sess 1) (by decide) (by decide +kernel) (sent_of _ _ _ _ _ (by decide +kernel)), by decide +kernel⟩,
   ⟨put up [(F.DAT_STATUS_SLEWING, 1)], by decide +kernel⟩,
   ⟨{ put up [(F.DAT_STATUS_STATE, 2)] with cyc := 2250000000 }, false, by decide +kernel⟩,
   ⟨{ put up [(F.DAT_STATUS_STATE, 3), (F.DAT_HOLD_HOLDOVER_S, 1)] with cyc := 1500000000 }, by decide +kernel⟩⟩

/-- The hypotheses of the clauses of SecondsAndTimeOfDay, each met. -/
theorem SecondsAndTimeOfDay_met :
    (∃ (s : State) (rise : Bool), s.fld F.DAT_CFG_SRC = 1 ∧ rise ≠ s.flag F.DAT_CFG_PPS_EDGE) ∧
    (∃ (s : State) (b : List Byte) (edge : Int) (at_ : BitVec 64), s.fld F.DAT_CFG_SRC = 1 ∧ b.length = 16 ∧ List.take 3 b = [90, 68, 1] ∧ s.dat.pps =
      some (edge, at_) ∧ (crc16 (List.take 14 b) ≠ leAt b 14 2 ∨ 750000001 ≤ (s.cyc - at_).toNat)) ∧
    (∃ (s : State) (b : List Byte) (edge : Int) (at_ : BitVec 64) (prev : Nat), s.fld F.DAT_CFG_SRC = 1 ∧ b.length = 16 ∧ List.take 3 b = [90, 68, 1] ∧
      s.dat.pps = some (edge, at_) ∧ (¬(crc16 (List.take 14 b) ≠ leAt b 14 2 ∨ 750000001 ≤ (s.cyc - at_).toNat)) ∧ s.dat.tod = some prev ∧ leAt b 4 6
      ≠ prev + 1) ∧
    (∃ (s : State) (b : List Byte) (edge : Int) (at_ : BitVec 64), (∀ (prev : Nat), s.dat.tod = some prev → leAt b 4 6 = prev + 1) ∧ s.fld F.DAT_CFG_SRC =
      1 ∧ b.length = 16 ∧ List.take 3 b = [90, 68, 1] ∧ s.dat.pps = some (edge, at_) ∧ (¬(crc16 (List.take 14 b) ≠ leAt b 14 2 ∨ 750000001 ≤ (s.cyc -
      at_).toNat)) ∧ leAt b 3 1 % 2 = 0) ∧
    (∃ (s : State) (b : List Byte) (edge : Int) (at_ : BitVec 64), (∀ (prev : Nat), s.dat.tod = some prev → leAt b 4 6 = prev + 1) ∧ s.fld F.DAT_CFG_SRC =
      1 ∧ b.length = 16 ∧ List.take 3 b = [90, 68, 1] ∧ s.dat.pps = some (edge, at_) ∧ (¬(crc16 (List.take 14 b) ≠ leAt b 14 2 ∨ 750000001 ≤ (s.cyc -
      at_).toNat)) ∧ leAt b 3 1 % 2 = 1 ∧ s.fld F.DAT_STATUS_STATE = 2 ∧ ((4 * ↑(leAt b 4 6) * 1000000000 - edge + 2) / 4).natAbs ≤
      s.fld F.DAT_SYNC_UNSYNC_NS ∧ ((4 * ↑(leAt b 4 6) * 1000000000 - edge + 2) / 4).natAbs < 2 ^ 31) ∧
    (∃ (s : State), s.datumNs.toInt / 1000000000 ≠ s.dat.ppsSec ∧ s.flag F.DAT_CFG_PPS_OUT_EN = true ∧ (s.synced = true ∨ s.flag F.DAT_CFG_PPS_FREE =
      true)) ∧
    (∃ (s : State), s.datumNs.toInt / 1000000000 ≠ s.dat.ppsSec ∧ (s.flag F.DAT_CFG_PPS_OUT_EN = false ∨ s.synced = false ∧ s.flag F.DAT_CFG_PPS_FREE =
      false)) ∧
    (∃ (s : State) (c : BitVec 64), s.dat.ppsOut = some c ∧ 1500000 * max 1 (min 250 (s.fld F.DAT_CFG_PPS_WIDTH_MS)) ≤ (s.cyc - c).toNat) :=
  ⟨⟨put up [(F.DAT_CFG_SRC, 1)], true, by decide +kernel⟩,
   ⟨{ pps 0 none with cyc := 750000001 }, tod 0 5, 0, 0, by decide +kernel⟩,
   ⟨{ pps 0 (some 3) with cyc := 750000000 }, tod 0 5, 0, 0, 3, by decide +kernel⟩,
   ⟨pps 0 none, tod 0 5, 0, 0, of_none (by decide +kernel), by decide +kernel⟩,
   ⟨pps 19999996000 (some 4), tod 1 5, 19999996000, 0, of_some 4 (by decide +kernel), by decide +kernel⟩,
   ⟨{ put up [(F.DAT_CFG_PPS_OUT_EN, 1), (F.DAT_CFG_PPS_FREE, 1)] with datum := BitVec.ofNat 96 (1000000000 * 2 ^ 32) }, by decide +kernel⟩,
   ⟨{ put up [(F.DAT_CFG_PPS_OUT_EN, 0)] with datum := BitVec.ofNat 96 (1000000000 * 2 ^ 32) }, by decide +kernel⟩,
   ⟨{ put up [(F.DAT_CFG_PPS_WIDTH_MS, 1)] with dat := { up.dat with ppsOut := some 0 }, cyc := 1500000 }, 0, by decide +kernel⟩⟩

/-- The hypotheses of the clauses of MeridianAndBenchmarks, each met. -/
theorem MeridianAndBenchmarks_met :
    (∃ (s : State) (rise : Bool) (us : BitVec 32), s.flag F.MER_CFG_EN = true ∧ rise ≠ s.flag F.MER_CFG_EDGE ∧ s.fld F.MER_CFG_MIN_PULSE_US ≤ us.toNat ∧
      s.merState = 0 ∧ s.dat.merPrev = none) ∧
    (∃ (s : State) (rise : Bool) (q : BitVec 8) (us : BitVec 32) (prev : Rat), s.flag F.MER_CFG_EN = true ∧ rise ≠ s.flag F.MER_CFG_EDGE ∧
      s.fld F.MER_CFG_MIN_PULSE_US ≤ us.toNat ∧ s.merState = 1 ∧ s.dat.merPrev = some prev ∧ (1000000000 ≤ (↑((s.datumRat * 4).floor - ↑q.toNat) / 4 -
      prev) * ↑s.merMax ∧ (↑((s.datumRat * 4).floor - ↑q.toNat) / 4 - prev) * ↑s.merMin ≤ 1000000000) ∧ (signed 32 ((s.merPhase (↑((s.datumRat *
      4).floor - ↑q.toNat) / 4) + 2 ^ 32 - s.fld F.MER_PHASE_OFFSET) % 2 ^ 32)).natAbs ≤ s.fld F.MER_LOCK_THRESH) ∧
    (∃ (s : State) (rise : Bool) (q : BitVec 8) (us : BitVec 32), s.flag F.MER_CFG_EN = true ∧ rise ≠ s.flag F.MER_CFG_EDGE ∧ s.fld F.MER_CFG_MIN_PULSE_US
      ≤ us.toNat ∧ 2 ≤ s.merState ∧ (1000000000 ≤ (↑((s.datumRat * 4).floor - ↑q.toNat) / 4 - s.dat.merLast) / ↑(max 1 (s.merCycles (↑((s.datumRat *
      4).floor - ↑q.toNat) / 4) - s.merCycles s.dat.merLast + 1 / 2).floor) * ↑s.merMax ∧ (↑((s.datumRat * 4).floor - ↑q.toNat) / 4 - s.dat.merLast) /
      ↑(max 1 (s.merCycles (↑((s.datumRat * 4).floor - ↑q.toNat) / 4) - s.merCycles s.dat.merLast + 1 / 2).floor) * ↑s.merMin ≤ 1000000000) ∧ (signed
      32 ((s.merPhase (↑((s.datumRat * 4).floor - ↑q.toNat) / 4) + 2 ^ 32 - s.fld F.MER_PHASE_OFFSET) % 2 ^ 32)).natAbs ≤ 2 ^ 26 ∧ (signed 32
      ((s.merPhase (↑((s.datumRat * 4).floor - ↑q.toNat) / 4) + 2 ^ 32 - s.fld F.MER_PHASE_OFFSET) % 2 ^ 32)).natAbs ≤ s.fld F.MER_LOCK_THRESH) ∧
    (∃ (s : State) (rise : Bool) (q : BitVec 8) (us : BitVec 32), s.flag F.MER_CFG_EN = true ∧ rise ≠ s.flag F.MER_CFG_EDGE ∧ s.fld F.MER_CFG_MIN_PULSE_US
      ≤ us.toNat ∧ 2 ≤ s.merState ∧ (1000000000 ≤ (↑((s.datumRat * 4).floor - ↑q.toNat) / 4 - s.dat.merLast) / ↑(max 1 (s.merCycles (↑((s.datumRat *
      4).floor - ↑q.toNat) / 4) - s.merCycles s.dat.merLast + 1 / 2).floor) * ↑s.merMax ∧ (↑((s.datumRat * 4).floor - ↑q.toNat) / 4 - s.dat.merLast) /
      ↑(max 1 (s.merCycles (↑((s.datumRat * 4).floor - ↑q.toNat) / 4) - s.merCycles s.dat.merLast + 1 / 2).floor) * ↑s.merMin ≤ 1000000000) ∧ 2 ^ 26 <
      (signed 32 ((s.merPhase (↑((s.datumRat * 4).floor - ↑q.toNat) / 4) + 2 ^ 32 - s.fld F.MER_PHASE_OFFSET) % 2 ^ 32)).natAbs) ∧
    (∃ (s : State) (rise : Bool) (q : BitVec 8) (us : BitVec 32), s.flag F.MER_CFG_EN = true ∧ rise ≠ s.flag F.MER_CFG_EDGE ∧ s.fld F.MER_CFG_MIN_PULSE_US
      ≤ us.toNat ∧ 2 ≤ s.merState ∧ (¬(1000000000 ≤ (↑((s.datumRat * 4).floor - ↑q.toNat) / 4 - s.dat.merLast) / ↑(max 1 (s.merCycles (↑((s.datumRat *
      4).floor - ↑q.toNat) / 4) - s.merCycles s.dat.merLast + 1 / 2).floor) * ↑s.merMax ∧ (↑((s.datumRat * 4).floor - ↑q.toNat) / 4 - s.dat.merLast) /
      ↑(max 1 (s.merCycles (↑((s.datumRat * 4).floor - ↑q.toNat) / 4) - s.merCycles s.dat.merLast + 1 / 2).floor) * ↑s.merMin ≤ 1000000000))) ∧
    (∃ (s : State), s.merState = 2 ∧ 3 / 2 < s.merRate * (s.datumRat - s.dat.merLast)) ∧
    (∃ (s : State), s.merState = 3 ∧ max 1 (s.fld F.MER_HOLD_HOLD_CYCLES) ≤ (s.merRate * (s.datumRat - s.dat.merHold)).floor.toNat) ∧
    (∃ (s : State) (i : Fin 8) (rise : Bool), ((∃ (e : BitVec 64), (s.bench ↑i).edge = some e ∧ (s.cyc - e).toNat < 150) ∨ 16 ≤ (s.bench ↑i).fifo.length)
      ∧ s.flag (F.DAT_BENCH_W0_EN ↑i) = true ∧ (s.fld (F.DAT_BENCH_W0_EDGE ↑i) = 3 ∨ s.fld (F.DAT_BENCH_W0_EDGE ↑i) = if rise = true then 1 else 2)) ∧
    (∃ (s : State) (i : Fin 8) (rise : Bool), (¬∃ (e : BitVec 64), (s.bench ↑i).edge = some e ∧ (s.cyc - e).toNat < 150) ∧ s.flag (F.DAT_BENCH_W0_EN ↑i) =
      true ∧ (s.fld (F.DAT_BENCH_W0_EDGE ↑i) = 3 ∨ s.fld (F.DAT_BENCH_W0_EDGE ↑i) = if rise = true then 1 else 2) ∧ (s.bench ↑i).fifo.length < 16) ∧
    (∃ (s : State) (i : Fin 8), (s.bench ↑i).fifo = []) ∧
    (∃ (s : State) (i : Fin 8) (c : BenchCap) (rest : List BenchCap), (s.bench ↑i).fifo = c :: rest ∧ rest.length < 16 ∧ c.quarter < 4) :=
  ⟨⟨{ meridian 0 0 with dat := {} }, true, 255, by decide +kernel⟩,
   ⟨meridian 1 20000000, true, 0, 255, 0, by decide +kernel⟩,
   ⟨meridian 2 20000000, true, 0, 255, by decide +kernel⟩,
   ⟨meridian 2 21000000, true, 0, 255, by decide +kernel⟩,
   ⟨meridian 3 10000000, true, 0, 255, by decide +kernel⟩,
   ⟨meridian 2 30000001, by decide +kernel⟩,
   ⟨put (meridian 3 20000000) [(F.MER_HOLD_HOLD_CYCLES, 1)], by decide +kernel⟩,
   ⟨{ bench { edge := some 0 } with cyc := 149 }, 7, true, .inl ⟨0, by decide +kernel⟩, by decide +kernel⟩,
   ⟨bench {}, 7, true, (fun ⟨e, h⟩ => nomatch h.1), by decide +kernel⟩,
   ⟨bench {}, 7, by decide +kernel⟩,
   ⟨bench { fifo := [cap] }, 7, cap, [], by decide +kernel⟩⟩

/-- The hypotheses of the clauses of StakesFire, each met. -/
theorem StakesFire_met :
    (∃ (s : State) (k : Fin 8) (v : Word), bitsOf v 31 1 = 1 ∧ bitsOf v 30 1 = 0 ∧ ((s.fld (F.DAT_STAKE_W6_WIDTH_NS ↑k) < 10 ∨ bitsOf v 24 2 = 2 ∧
      (s.fld (F.DAT_STAKE_W3_PERIOD_PHASE ↑k) < s.fld (F.DAT_STAKE_W6_WIDTH_NS ↑k) + 10 ∨ s.fld (F.DAT_STAKE_W3_PERIOD_PHASE ↑k) < 100) ∨ bitsOf v 24
      2 = 3 ∧ s.fld (F.DAT_STAKE_W5_DIVIDE ↑k) = 0) ∨ (bitsOf v 24 2 = 1 ∨ bitsOf v 24 2 = 2) ∧ (BitVec.ofNat 64 (s.fld (F.DAT_STAKE_W1_TIME_LO ↑k) +
      2 ^ 32 * s.fld (F.DAT_STAKE_W2_TIME_HI ↑k)) - s.datumNs).toInt < 1024)) ∧
    (∃ (s : State) (k : Fin 8) (v : Word), bitsOf v 31 1 = 1 ∧ bitsOf v 30 1 = 0 ∧ (¬(s.fld (F.DAT_STAKE_W6_WIDTH_NS ↑k) < 10 ∨ bitsOf v 24 2 = 2 ∧
      (s.fld (F.DAT_STAKE_W3_PERIOD_PHASE ↑k) < s.fld (F.DAT_STAKE_W6_WIDTH_NS ↑k) + 10 ∨ s.fld (F.DAT_STAKE_W3_PERIOD_PHASE ↑k) < 100) ∨ bitsOf v 24
      2 = 3 ∧ s.fld (F.DAT_STAKE_W5_DIVIDE ↑k) = 0)) ∧ (¬((bitsOf v 24 2 = 1 ∨ bitsOf v 24 2 = 2) ∧ (BitVec.ofNat 64 (s.fld (F.DAT_STAKE_W1_TIME_LO
      ↑k) + 2 ^ 32 * s.fld (F.DAT_STAKE_W2_TIME_HI ↑k)) - s.datumNs).toInt < 1024))) ∧
    (∃ (v : Word), bitsOf v 30 1 = 1 ∧ bitsOf v 31 1 = 0) ∧
    (∃ (v : Word), bitsOf v 30 1 = 1 ∧ bitsOf v 31 1 = 1) ∧
    (∃ (s : State) (k : Fin 8) (c : BitVec 64) (need : Nat) (rest : List (BitVec 64 × Nat)), (s.fixStakes.stake ↑k).fixed = (c, need) :: rest ∧ (c -
      s.cyc).toInt ≤ 0 ∧ (¬(need = 1 ∧ s.synced = false ∨ need = 2 ∧ s.merState < 2))) ∧
    (∃ (s : State) (k : Fin 8) (c : BitVec 64) (need : Nat) (rest : List (BitVec 64 × Nat)), (s.fixStakes.stake ↑k).fixed = (c, need) :: rest ∧ (c -
      s.cyc).toInt ≤ 0 ∧ (need = 1 ∧ s.synced = false ∨ need = 2 ∧ s.merState < 2)) ∧
    (∃ (s : State) (k : Fin 8) (c : BitVec 64), (s.stake ↑k).on = some c ∧ (c - s.cyc).toInt ≤ 0) :=
  ⟨⟨{ stakeReady with datum := BitVec.ofNat 96 (2 ^ 32) }, 7, word [(F.DAT_STAKE_W0_ARM 7, 1), (F.DAT_STAKE_W0_MODE 7, 1)], by decide +kernel⟩,
   ⟨stakeReady, 7, word [(F.DAT_STAKE_W0_ARM 7, 1), (F.DAT_STAKE_W0_MODE 7, 2)], by decide +kernel⟩,
   ⟨0x40000000, by decide +kernel⟩,
   ⟨0xC0000000, by decide +kernel⟩,
   ⟨stakeOn { fixed := [(0, 0)] }, 7, 0, 0, [], by decide +kernel⟩,
   ⟨stakeOn { fixed := [(0, 1)] }, 7, 0, 1, [], by decide +kernel⟩,
   ⟨stakeOn { on := some 0 }, 7, 0, by decide +kernel⟩⟩

/-- Hearth in service, with this argument in HRT_CMD_ARG and these slots. -/
def hearth (arg : Nat) (slots : List (Nat × Slot)) : State :=
  let s := put up [(F.HRT_STATUS_HUK_OK, 1), (F.HRT_STATUS_TRNG_OK, 1), (F.HRT_CMD_ARG, arg)]
  { s with hrt := { s.hrt with slots := slots } }

/-- A loaded slot of this type that may be used for everything. -/
def slotOf (typ : Nat) : Slot :=
  { st := 1, typ := typ, exportable := true, usage := 15, key := zeros 16, hidden := if 3 ≤ typ then some ([], []) else none }

/-- A signed descriptor, its nonce 32 zero bytes, and the ring that takes it. -/
def sgn (body : List Byte) : Desc := { desc (body ++ zeros (32 + 7424)) with flags := 1 }
def nonce : Nonce := ⟨zeros 32, 0⟩
def nonced (s : State) : State := (ring 1 s).setFn 0 { session := some (sess 1), nonces := [nonce] }

/-- A configuration image with one empty section. -/
def imgBytes : List Byte :=
  [0x5A, 0x47, 0x43, 0x46] ++ leBytes 2 1 ++ zeros 2 ++ leBytes 4 7504 ++ leBytes 4 1 ++ zeros 14 ++ leBytes 2 1 ++ zeros 32 ++
    leBytes 2 1 ++ [1, 0] ++ leBytes 4 80 ++ zeros 8 ++ zeros 7424
def img : Img := (imgOf imgBytes).getD ⟨[], [], []⟩

/-- It stands staged and verified, and commits need no SYNC. -/
def verified (s : State) : State :=
  put { s with ctl := { s.ctl with cfgA := imgBytes, cfgB := imgBytes, verified := some ⟨zeros 48, 1, false⟩ } } [(F.DAT_CFG_COMMIT_UNSYNC, 1)]

/-- A commit, and a state in which it runs. -/
def run : Run := { meas := zeros 48, at_ := none, drain := 500, replaces := false }
def running (r : Run) (s : State) : State := { s with ctl := { s.ctl with run := some r } }

/-- OWNED, with two owner authority keys. -/
def owned (s : State) : State := { s with otp := { s.otp with owned := true, owners := [⟨[zeros 48, zeros 48], 0⟩] } }
/-- The hypotheses of the clauses of HearthRefusesWithoutEffect, each met. -/
theorem HearthRefusesWithoutEffect_met :
    (∃ (s : State) (v : Via) (idx arg : Nat) (words : List Word) (c : Instr) (op sel : Nat) (d : Desc), (c, op, sel) ∈ hrtCommands v ∧ Way hrtWay op
      (hrtClass op) [] s v idx arg words ∧ v = Via.ring d ∧ (11 ≤ op ∧ op ≤ 14)) ∧
    (∃ (s : State) (v : Via) (idx arg : Nat) (words : List Word) (c : Instr) (op sel : Nat), (c, op, sel) ∈ hrtCommands v ∧ Way hrtWay op (hrtClass op) []
      s v idx arg words ∧ (11 ≤ op ∧ op ≤ 14 → ∀ (d : Desc), v ≠ Via.ring d) ∧ ((s.setWords hrtWin words).hrtOp op sel (hrtReq v idx arg)).snd.fst ≠ 0
      ∧ ((s.setWords hrtWin words).hrtOp op sel (hrtReq v idx arg)).snd.fst < 16) ∧
    (∃ (s : State) (v : Via) (idx arg : Nat) (words : List Word) (c : Instr) (op sel : Nat), (c, op, sel) ∈ hrtCommands v ∧ Way hrtWay op (hrtClass op) []
      s v idx arg words ∧ (11 ≤ op ∧ op ≤ 14 → ∀ (d : Desc), v ≠ Via.ring d) ∧ (s.otp.retired = false ∨ ∀ (d : Desc), v ≠ Via.ring d) ∧
      (s.flag F.HRT_STATUS_HUK_OK = false ∨ s.otp.retired = true ∨ s.hrt.purged = true)) :=
  ⟨⟨ring 1 up, .ring (maced (desc (zeros 16)) (0x1000 + 0x100 * hrtWay.n + 11)), _, _, _, .mkaKdf (.ring (maced (desc (zeros 16)) (0x1000 + 0x100 *
      hrtWay.n + 11))), 11, 0, maced (desc (zeros 16)) (0x1000 + 0x100 * hrtWay.n + 11), by simp [hrtCommands], way_ring _ _ _ _ _ _ (sess 1) (by
      decide) (by decide +kernel) (sent_of _ _ _ _ _ (by decide +kernel)), rfl, by decide +kernel⟩,
   ⟨hearth 0 [], cmd hrtWay 6 3, _, _, _, .slotRevoke (cmd hrtWay 6 3), 6, 0, by simp [hrtCommands], way_cmd _ _ _ _ _ _ (by decide +kernel), fun _ =>
      cmd_ne _ _ _, by decide +kernel⟩,
   ⟨up, cmd hrtWay 18 3, _, _, _, .quenchPurge (cmd hrtWay 18 3), 18, 5, by simp [hrtCommands], way_cmd _ _ _ _ _ _ (by decide +kernel), fun _ => cmd_ne
      _ _ _, .inl rfl, by decide +kernel⟩⟩

/-- The hypotheses of the clauses of SlotsAreMade, each met. -/
theorem SlotsAreMade_met :
    (∃ (s : State) (v : Via) (idx arg : Nat) (words : List Word), Way hrtWay 1 Cls.observe [] s v idx arg words ∧ s.hrtServes = true ∧ ((hrtReq v idx
      arg).may (s.slot idx).parcel = true ∨ (s.slot idx).st = 0)) ∧
    (∃ (s : State) (v : Via) (idx arg : Nat) (words : List Word), Way hrtWay 2 Cls.secure [] s v idx arg words ∧ s.hrtServes = true) ∧
    (∃ (s : State) (v : Via) (idx arg : Nat) (words : List Word) (k : List Byte) (p : Nat) (root : Bool) (n g us : Nat), s.slotPlace p (arg % 65536 / 256
      % 2 == 1) ∧ (s.storeRoom 1 (if (arg % 65536 / 256 % 2 == 1) = true then 1 else 0)) ∧ Way hrtWay 3 Cls.secure [] s v idx arg words ∧ (s.setWords
      hrtWin words).parentOf (hrtReq v idx arg) 0 = (0, k, p, root, n, g, us) ∧ s.hrtServes = true ∧ genForm (arg % 65536) = true ∧ (arg % 65536 / 16
      % 16).land us = arg % 65536 / 16 % 16 ∧ (s.slot idx).st = 0 ∧ s.flag F.HRT_STATUS_TRNG_OK = true) ∧
    (∃ (s : State) (v : Via) (idx arg : Nat) (words : List Word) (k : List Byte) (p : Nat) (root : Bool) (n g us : Nat), s.slotPlace p (arg % 65536 / 256
      % 2 == 1) ∧ (s.storeRoom 1 (if (arg % 65536 / 256 % 2 == 1) = true then 1 else 0)) ∧ Way hrtWay 4 Cls.secure [] s v idx arg words ∧ (s.setWords
      hrtWin words).parentOf (hrtReq v idx arg) 1 = (0, k, p, root, n, g, us) ∧ s.hrtServes = true ∧ genForm (arg % 65536) = true ∧ (arg % 65536 / 16
      % 16).land us = arg % 65536 / 16 % 16 ∧ (s.slot idx).st = 0 ∧ arg % 65536 / 1024 % 8 ≠ 2 ∧ 1 ≤ leAt (s.setWords hrtWin words).hrtBytes 0 1 ∧
      leAt (s.setWords hrtWin words).hrtBytes 0 1 ≤ 64 ∧ leAt (s.setWords hrtWin words).hrtBytes 65 1 ≤ 32 ∧ (leAt (s.setWords hrtWin words).hrtBytes
      65 1 = 0 ∨ 3 ≤ arg % 65536 / 1024 % 8)) ∧
    (∃ (s : State) (v : Via) (idx arg : Nat) (words : List Word), Way hrtWay 5 Cls.secure [] s v idx arg words ∧ (s.storeRoom 1 (if (s.slot (arg / 65536 %
      65536)).persist = true then 1 else 0)) ∧ s.hrtServes = true ∧ s.slotCheck (hrtReq v idx arg) idx 0 = 0 ∧ s.slotCheck (hrtReq v idx arg) (arg /
      65536 % 65536) 2 = 0 ∧ (s.slot idx).exportable = true ∧ (s.slot idx).parcel = (s.slot (arg / 65536 % 65536)).parcel) :=
  ⟨⟨hearth 0 [], cmd hrtWay 1 4095, _, _, _, way_cmd _ _ _ _ _ _ (by decide +kernel), by decide +kernel⟩,
   ⟨hearth 0 [], cmd hrtWay 2 3, _, _, _, way_cmd _ _ _ _ _ _ (by decide +kernel), by decide +kernel⟩,
   ⟨hearth 0xFFFF0010 [], cmd hrtWay 3 3, _, _, _, _, 0, true, 0, 0, 15, ⟨by decide +kernel, by decide +kernel⟩, .inl (by decide +kernel), way_cmd _ _ _
      _ _ _ (by decide +kernel), parent_of (by decide +kernel), by decide +kernel⟩,
   ⟨win hrtWay [64] (hearth 0xFFFF0010 []), cmd hrtWay 4 3, _, _, _, _, 0, true, 0, 0, 15, ⟨by decide +kernel, by decide +kernel⟩, .inl (by
      decide +kernel), way_cmd _ _ _ _ _ _ (by decide +kernel), parent_of (by decide +kernel), by decide +kernel⟩,
   ⟨hearth 0x40000 [(3, slotOf 0), (4, slotOf 1)], cmd hrtWay 5 3, _, _, _, way_cmd _ _ _ _ _ _ (by decide +kernel), .inl (by decide +kernel), by
      decide +kernel⟩⟩

/-- The hypotheses of the clauses of SlotsAreRevokedAndDeleted, each met. -/
theorem SlotsAreRevokedAndDeleted_met :
    (∃ (s : State) (v : Via) (idx arg : Nat) (words : List Word), Way hrtWay 6 Cls.secure [] s v idx arg words ∧ s.hrtServes = true ∧ (s.slot idx).st = 1
      ∧ (hrtReq v idx arg).may (s.slot idx).parcel = true) ∧
    (∃ (s : State) (v : Via) (idx arg : Nat) (words : List Word) (c : Instr) (op : Nat), (c, op) ∈ [(Instr.slotDelete v, 7), (Instr.quenchSlot v, 18)] ∧
      Way hrtWay op Cls.secure [] s v idx arg words ∧ s.hrtServes = true ∧ ((s.slot idx).st = 1 ∨ (s.slot idx).st = 2) ∧ (hrtReq v idx arg).may
      (s.slot idx).parcel = true ∧ s.childSlots idx = 0) ∧
    (∃ (s : State) (v : Via) (idx arg : Nat) (words : List Word) (c : Instr) (op : Nat), (c, op) ∈ [(Instr.slotDelete v, 7), (Instr.quenchSlot v, 18)] ∧
      Way hrtWay op Cls.secure [] s v idx arg words ∧ s.hrtServes = true ∧ ((s.slot idx).st = 1 ∨ (s.slot idx).st = 2) ∧ (hrtReq v idx arg).may
      (s.slot idx).parcel = true ∧ s.childSlots idx ≠ 0) ∧
    (∃ (s : State) (v : Via) (idx arg : Nat) (words : List Word), Way hrtWay 8 Cls.secure [] s v idx arg words ∧ (s.storeRoom 1 (if (s.slot idx).persist =
      true then 1 else 0)) ∧ s.hrtServes = true ∧ s.slotCheck (hrtReq v idx arg) idx 0 = 0 ∧ arg % 2 = 1) ∧
    (∃ (s : State) (v : Via) (idx arg : Nat) (words : List Word), Way hrtWay 8 Cls.secure [] s v idx arg words ∧ s.hrtServes = true ∧ s.slotCheck (hrtReq
      v idx arg) idx 0 = 0 ∧ arg % 2 = 0) :=
  ⟨⟨hearth 0 [(3, slotOf 0)], cmd hrtWay 6 3, _, _, _, way_cmd _ _ _ _ _ _ (by decide +kernel), by decide +kernel⟩,
   ⟨hearth 0 [(3, slotOf 0)], cmd hrtWay 7 3, _, _, _, .slotDelete (cmd hrtWay 7 3), 7, .head _, way_cmd _ _ _ _ _ _ (by decide +kernel), by
      decide +kernel⟩,
   ⟨hearth 0 [(3, slotOf 0), (4, { slotOf 0 with parent := 3 })], cmd hrtWay 18 3, _, _, _, .quenchSlot (cmd hrtWay 18 3), 18, .tail _ (.head _), way_cmd
      _ _ _ _ _ _ (by decide +kernel), by decide +kernel⟩,
   ⟨hearth 1 [(3, slotOf 0)], cmd hrtWay 8 3, _, _, _, way_cmd _ _ _ _ _ _ (by decide +kernel), .inl (by decide +kernel), by decide +kernel⟩,
   ⟨hearth 0 [(3, slotOf 0)], cmd hrtWay 8 3, _, _, _, way_cmd _ _ _ _ _ _ (by decide +kernel), by decide +kernel⟩⟩

/-- The hypotheses of the clauses of KeysAreUsed, each met. -/
theorem KeysAreUsed_met :
    (∃ (s : State) (v : Via) (idx arg : Nat) (words : List Word), Way hrtWay 9 Cls.operate [] s v idx arg words ∧ (∃ (i : Nat), i < 64 ∧ (tabGet { }
      s.hrt.hands i).held = none) ∧ s.hrtServes = true) ∧
    (∃ (s : State) (v : Via) (idx arg : Nat) (words : List Word), Way hrtWay 10 Cls.operate [] s v idx arg words ∧ (∃ (i : Nat), i < 64 ∧ (tabGet { }
      s.hrt.hands i).held = none) ∧ s.hrtServes = true ∧ s.slotCheck (hrtReq v idx arg) idx 4 = 0 ∧ (s.slot idx).typ ≤ 1) ∧
    (∃ (s : State) (v : Via) (idx arg : Nat) (words : List Word), (∀ (d : Desc), v ≠ Via.ring d) ∧ Way hrtWay 11 Cls.operate [] s v idx arg words ∧
      s.hrtServes = true ∧ 3 ≤ (s.slot idx).typ ∧ s.slotCheck (hrtReq v idx arg) idx 0 = 0) ∧
    (∃ (s : State) (v : Via) (idx arg : Nat) (words : List Word) (ick kek : List Byte), (∀ (d : Desc), v ≠ Via.ring d) ∧ Way hrtWay 12 Cls.operate [] s v
      idx arg words ∧ s.hrtServes = true ∧ 3 ≤ (s.slot idx).typ ∧ (s.slot idx).hidden = some (ick, kek) ∧ s.slotCheck (hrtReq v idx arg) idx 0 = 0 ∧
      arg % 65536 ≤ 2032 ∧ arg / 65536 % 2 = 0) ∧
    (∃ (s : State) (v : Via) (idx arg : Nat) (words : List Word) (ick kek : List Byte), (∀ (d : Desc), v ≠ Via.ring d) ∧ Way hrtWay 12 Cls.operate [] s v
      idx arg words ∧ s.hrtServes = true ∧ 3 ≤ (s.slot idx).typ ∧ (s.slot idx).hidden = some (ick, kek) ∧ s.slotCheck (hrtReq v idx arg) idx 0 = 0 ∧
      arg % 65536 ≤ 2032 ∧ arg / 65536 % 2 = 1) ∧
    (∃ (s : State) (v : Via) (idx arg : Nat) (words : List Word) (ick kek : List Byte), (∀ (d : Desc), v ≠ Via.ring d) ∧ Way hrtWay 13 Cls.operate [] s v
      idx arg words ∧ (∃ (i : Nat), i < 64 ∧ (tabGet { } s.hrt.hands i).held = none) ∧ s.hrtServes = true ∧ 3 ≤ (s.slot idx).typ ∧ (s.slot idx).hidden
      = some (ick, kek) ∧ s.slotCheck (hrtReq v idx arg) idx 4 = 0 ∧ s.flag F.HRT_STATUS_TRNG_OK = true) ∧
    (∃ (s : State) (v : Via) (idx arg : Nat) (words : List Word) (ick kek : List Byte), (∀ (d : Desc), v ≠ Via.ring d) ∧ Way hrtWay 14 Cls.operate [] s v
      idx arg words ∧ (∃ (i : Nat), i < 64 ∧ (tabGet { } s.hrt.hands i).held = none) ∧ s.hrtServes = true ∧ 3 ≤ (s.slot idx).typ ∧ (s.slot idx).hidden
      = some (ick, kek) ∧ s.slotCheck (hrtReq v idx arg) idx 4 = 0) ∧
    (∃ (s : State) (v : Via) (idx arg : Nat) (words : List Word), Way hrtWay 15 Cls.operate [] s v idx arg words ∧ s.hrtServes = true ∧ s.slotCheck
      (hrtReq v idx arg) idx 8 = 0 ∧ arg / 65536 % 4 = 0 ∧ arg % 65536 ≤ 2048 ∧ (s.slot idx).typ ≤ 1) ∧
    (∃ (s : State) (v : Via) (idx arg : Nat) (words : List Word), Way hrtWay 15 Cls.operate [] s v idx arg words ∧ s.hrtServes = true ∧ s.slotCheck
      (hrtReq v idx arg) idx 8 = 0 ∧ arg / 65536 % 4 = 1 ∧ arg % 65536 ≤ 2032 ∧ (s.slot idx).typ ≤ 1) ∧
    (∃ (s : State) (v : Via) (idx arg : Nat) (words : List Word), Way hrtWay 15 Cls.operate [] s v idx arg words ∧ s.hrtServes = true ∧ s.slotCheck
      (hrtReq v idx arg) idx 8 = 0 ∧ arg / 65536 % 4 = 2 ∧ arg % 65536 ≤ 2048 ∧ (s.slot idx).typ = 2) ∧
    (∃ (s : State) (v : Via) (idx arg : Nat) (words : List Word) (h : Handoff), Way hrtWay 16 Cls.operate [] s v idx arg words ∧ s.hrtServes = true ∧
      s.handoff (arg % 65536) = some h ∧ (hrtReq v idx arg).may h.parcel = true) ∧
    (∃ (s : State) (v : Via) (idx arg : Nat) (words : List Word) (seed : List Byte), Way hrtWay 17 Cls.observe [] s v idx arg words ∧ s.importSeed (arg %
      64) = some seed ∧ s.hrtServes = true ∧ (hrtReq v idx arg).may (arg % 64) = true) :=
  ⟨⟨hearth 0 [(3, slotOf 0)], cmd hrtWay 9 3, _, _, _, way_cmd _ _ _ _ _ _ (by decide +kernel), ⟨63, by decide +kernel⟩, by decide +kernel⟩,
   ⟨hearth 0 [(3, slotOf 1)], cmd hrtWay 10 3, _, _, _, way_cmd _ _ _ _ _ _ (by decide +kernel), ⟨63, by decide +kernel⟩, by decide +kernel⟩,
   ⟨hearth 0 [(3, slotOf 3)], cmd hrtWay 11 3, _, _, _, cmd_ne _ _ _, way_cmd _ _ _ _ _ _ (by decide +kernel), by decide +kernel⟩,
   ⟨hearth 2032 [(3, slotOf 3)], cmd hrtWay 12 3, _, _, _, [], [], cmd_ne _ _ _, way_cmd _ _ _ _ _ _ (by decide +kernel), by decide +kernel⟩,
   ⟨hearth 0x10000 [(3, slotOf 3)], cmd hrtWay 12 3, _, _, _, [], [], cmd_ne _ _ _, way_cmd _ _ _ _ _ _ (by decide +kernel), by decide +kernel⟩,
   ⟨hearth 0 [(3, slotOf 4)], cmd hrtWay 13 3, _, _, _, [], [], cmd_ne _ _ _, way_cmd _ _ _ _ _ _ (by decide +kernel), ⟨63, by decide +kernel⟩, by
      decide +kernel⟩,
   ⟨hearth 0 [(3, slotOf 4)], cmd hrtWay 14 3, _, _, _, [], [], cmd_ne _ _ _, way_cmd _ _ _ _ _ _ (by decide +kernel), ⟨63, by decide +kernel⟩, by
      decide +kernel⟩,
   ⟨hearth 2048 [(3, slotOf 0)], cmd hrtWay 15 3, _, _, _, way_cmd _ _ _ _ _ _ (by decide +kernel), by decide +kernel⟩,
   ⟨hearth (0x10000 + 2032) [(3, slotOf 0)], cmd hrtWay 15 3, _, _, _, way_cmd _ _ _ _ _ _ (by decide +kernel), by decide +kernel⟩,
   ⟨hearth (0x20000 + 2048) [(3, slotOf 2)], cmd hrtWay 15 3, _, _, _, way_cmd _ _ _ _ _ _ (by decide +kernel), by decide +kernel⟩,
   ⟨{ hearth 63 [] with hrt := { (hearth 63 []).hrt with hands := [(63, { held := some ⟨0, mat, 0, 0, false⟩ })] } }, cmd hrtWay 16 3, _, _, _, ⟨0, mat,
      0, 0, false⟩, way_cmd _ _ _ _ _ _ (by decide +kernel), by decide +kernel⟩,
   ⟨hearth 0 [], cmd hrtWay 17 3, _, _, _, _, way_cmd _ _ _ _ _ _ (by decide +kernel), some_getD (d := []) (by decide +kernel), by decide +kernel⟩⟩

/-- The hypotheses of the clauses of QuenchAndSweeps, each met. -/
theorem QuenchAndSweeps_met :
    (∃ (s : State) (v : Via) (idx arg : Nat) (words : List Word) (c : Instr) (scope : Nat), (c, scope) ∈ [(Instr.quenchParcel v, 3), (Instr.quenchErase v,
      4), (Instr.quenchPurge v, 5)] ∧ Way hrtWay 18 Cls.secure [] s v idx arg words ∧ s.hrtServes = true ∧ ((hrtReq v idx arg).may (if scope = 3 then
      arg % 64 else 0) = true)) ∧
    (∃ (s : State) (q : Quench) (rest : List Quench), s.hrt.quench = q :: rest ∧ s.waits = [] ∧ s.sec.delWait = none) ∧
    (∃ (s : State) (w : Sweep) (rest : List Sweep), s.sec.sweeps = w :: rest) ∧
    (∃ (s : State) (e : BitVec 6) (h : Handoff), (tabGet { } s.hrt.hands e.toNat).held = some h ∧ 1500000000 ≤ (s.cyc - h.made).toNat) :=
  ⟨⟨hearth 63 [], cmd hrtWay 18 3, _, _, _, .quenchParcel (cmd hrtWay 18 3), 3, .head _, way_cmd _ _ _ _ _ _ (by decide +kernel), by decide +kernel⟩,
   ⟨{ up with hrt := { up.hrt with quench := [⟨5, 0, 0, false⟩] } }, ⟨5, 0, 0, false⟩, [], by decide +kernel⟩,
   ⟨{ up with sec := { up.sec with sweeps := [⟨3, 0, []⟩] } }, ⟨3, 0, []⟩, [], by decide +kernel⟩,
   ⟨{ up with hrt := { up.hrt with hands := [(63, { held := some ⟨0, mat, 0, 0, false⟩ })] }, cyc := 1500000000 }, 63, ⟨0, mat, 0, 0, false⟩, by
      decide +kernel⟩⟩

/-- The hypotheses of the clauses of StoreAndRandomness, each met. -/
theorem StoreAndRandomness_met :
    (∃ (s : State) (c : Commit) (rest : List Commit), s.storeRoom c.area 1 ∧ s.hrt.commits = c :: rest) ∧
    (∃ (s : State) (c : Commit) (rest : List Commit), s.storeRoom c.area 1 ∧ s.hrt.commits = c :: rest) ∧
    (∃ (s : State) (c : Commit) (rest : List Commit), s.hrt.commits = c :: rest ∧ s.flag (F.HRT_STORE_AREA_W0_READ_ONLY c.area) = true) ∧
    (∃ (s : State), s.flag F.HRT_STATUS_TRNG_OK = true) ∧
    (∃ (s : State), s.flag F.HRT_STATUS_TRNG_OK = false) ∧
    (∃ (s : State), s.flag F.HRT_STATUS_TRNG_OK = true ∧ (1500000000 ≤ (s.cyc - s.hrt.reseed).toNat ∨ 2 ^ 20 ≤ s.hrt.draws)) :=
  ⟨⟨{ up with hrt := { up.hrt with commits := [⟨1, 3, .tombstone, false⟩] } }, ⟨1, 3, .tombstone, false⟩, [], .inr ⟨by decide +kernel, by
      decide +kernel⟩, by decide +kernel⟩,
   ⟨{ up with hrt := { up.hrt with commits := [⟨1, 3, .tombstone, false⟩] } }, ⟨1, 3, .tombstone, false⟩, [], .inr ⟨by decide +kernel, by
      decide +kernel⟩, by decide +kernel⟩,
   ⟨put { up with hrt := { up.hrt with commits := [⟨1, 3, .tombstone, false⟩] } } [(F.HRT_STORE_AREA_W0_READ_ONLY 1, 1)], ⟨1, 3, .tombstone, false⟩, [],
      by decide +kernel⟩,
   ⟨put up [(F.HRT_STATUS_TRNG_OK, 1)], by decide +kernel⟩,
   ⟨put up [(F.HRT_STATUS_TRNG_OK, 0)], by decide +kernel⟩,
   ⟨{ put up [(F.HRT_STATUS_TRNG_OK, 1)] with cyc := 1500000000 }, by decide +kernel⟩⟩

/-- The hypotheses of the clauses of CommitCommands, each met. -/
theorem CommitCommands_met :
    (∃ (s : State) (d : Desc) (q : Session), Sent s d 768 Cls.operate q ∧ 8 < d.payload.length ∧ d.payload.length ≤ 65544 ∧ leAt d.payload 0 8 +
      (d.payload.length - 8) ≤ 8388608 ∧ s.ctl.run = none) ∧
    (∃ (s : State) (d : Desc) (q : Session) (r : Run), Sent s d 768 Cls.operate q ∧ 8 < d.payload.length ∧ d.payload.length ≤ 65544 ∧ leAt d.payload 0 8 +
      (d.payload.length - 8) ≤ 8388608 ∧ s.ctl.run = some r) ∧
    (∃ (s : State) (d : Desc) (q : Session), Sent s d 769 Cls.operate q ∧ d.payload = [] ∧ 56 ≤ d.rspLen.toNat ∧ d.writeOk = true ∧ s.ctl.run = none) ∧
    (∃ (s : State) (d : Desc) (q : Session) (r : Run), Sent s d 769 Cls.operate q ∧ d.payload = [] ∧ 56 ≤ d.rspLen.toNat ∧ d.writeOk = true ∧ s.ctl.run =
      some r) ∧
    (∃ (s : State) (d : Desc) (q : Session) (i : Img), Sent s d 770 Cls.operate q ∧ (s.ctl.run = none ∧ s.ctl.trial = none ∧ imgOf (s.cfgFlash
      s.stageSlot) = some i ∧ ∃ (v : Verified), s.ctl.verified = some v ∧ v.meas = List.take 48 d.payload ∧ (v.disrupt = true → i.disruptOk = true)) ∧
      (d.payload.length = 48 ∨ d.payload.length = 52) ∧ drainMs d.payload 48 ≤ 60000) ∧
    (∃ (s : State) (d : Desc) (q : Session) (i : Img), Sent s d 771 Cls.operate q ∧ (s.ctl.run = none ∧ s.ctl.trial = none ∧ imgOf (s.cfgFlash
      s.stageSlot) = some i ∧ ∃ (v : Verified), s.ctl.verified = some v ∧ v.meas = List.take 48 d.payload ∧ (v.disrupt = true → i.disruptOk = true)) ∧
      (d.payload.length = 56 ∨ d.payload.length = 60) ∧ drainMs d.payload 56 ≤ 60000 ∧ (s.synced || s.flag F.DAT_CFG_COMMIT_UNSYNC) = true ∧
      ↑((s.prestageMs + 10) * 1000000) ≤ s.until_ (BitVec.ofNat 64 (leAt d.payload 48 8))) ∧
    (∃ (s : State) (d : Desc) (q : Session) (i : Img), Sent s d 771 Cls.operate q ∧ (s.ctl.run = none ∧ s.ctl.trial = none ∧ imgOf (s.cfgFlash
      s.stageSlot) = some i ∧ ∃ (v : Verified), s.ctl.verified = some v ∧ v.meas = List.take 48 d.payload ∧ (v.disrupt = true → i.disruptOk = true)) ∧
      (d.payload.length = 56 ∨ d.payload.length = 60) ∧ drainMs d.payload 56 ≤ 60000 ∧ (s.synced || s.flag F.DAT_CFG_COMMIT_UNSYNC) = true ∧ s.until_
      (BitVec.ofNat 64 (leAt d.payload 48 8)) < ↑((s.prestageMs + 10) * 1000000)) ∧
    (∃ (s : State) (d : Desc) (q : Session) (i : Img), Sent s d 771 Cls.operate q ∧ (s.ctl.run = none ∧ s.ctl.trial = none ∧ imgOf (s.cfgFlash
      s.stageSlot) = some i ∧ ∃ (v : Verified), s.ctl.verified = some v ∧ v.meas = List.take 48 d.payload ∧ (v.disrupt = true → i.disruptOk = true)) ∧
      (d.payload.length = 56 ∨ d.payload.length = 60) ∧ drainMs d.payload 56 ≤ 60000 ∧ (s.synced || s.flag F.DAT_CFG_COMMIT_UNSYNC) = false) ∧
    (∃ (s : State) (d : Desc) (q : Session), Sent s d 772 Cls.operate q ∧ d.payload = [] ∧ s.ctl.run = none) ∧
    (∃ (s : State) (d : Desc) (q : Session) (r : Run), Sent s d 772 Cls.operate q ∧ d.payload = [] ∧ s.ctl.run = some r ∧ r.at_.isSome = true ∧
      s.fld F.GLB_COMMIT_STATE = 3) ∧
    (∃ (s : State) (d : Desc) (q : Session) (r : Run), Sent s d 772 Cls.operate q ∧ d.payload = [] ∧ s.ctl.run = some r ∧ (r.at_ = none ∨
      s.fld F.GLB_COMMIT_STATE ≠ 3)) :=
  ⟨⟨ring 1 up, maced (desc (leBytes 8 (8388608 - 1) ++ [1])) 768, sess 1, sent_of _ _ _ _ _ (by decide +kernel), by decide +kernel⟩,
   ⟨running run (ring 1 up), maced (desc (leBytes 8 (8388608 - 1) ++ [1])) 768, sess 1, run, sent_of _ _ _ _ _ (by decide +kernel), by decide +kernel⟩,
   ⟨ring 1 up, maced (desc []) 769, sess 1, sent_of _ _ _ _ _ (by decide +kernel), by decide +kernel⟩,
   ⟨running run (ring 1 up), maced (desc []) 769, sess 1, run, sent_of _ _ _ _ _ (by decide +kernel), by decide +kernel⟩,
   ⟨verified (ring 1 up), maced (desc (zeros 48)) 770, sess 1, img, sent_of _ _ _ _ _ (by decide +kernel), ⟨by decide +kernel, by decide +kernel,
      some_getD (by decide +kernel), ⟨zeros 48, 1, false⟩, by decide +kernel⟩, by decide +kernel⟩,
   ⟨verified (ring 1 up), maced (desc (zeros 48 ++ leBytes 8 10000000000 ++ leBytes 4 60000)) 771, sess 1, img, sent_of _ _ _ _ _ (by decide +kernel),
      ⟨by decide +kernel, by decide +kernel, some_getD (by decide +kernel), ⟨zeros 48, 1, false⟩, by decide +kernel⟩, by decide +kernel⟩,
   ⟨verified (ring 1 up), maced (desc (zeros 56)) 771, sess 1, img, sent_of _ _ _ _ _ (by decide +kernel), ⟨by decide +kernel, by decide +kernel,
      some_getD (by decide +kernel), ⟨zeros 48, 1, false⟩, by decide +kernel⟩, by decide +kernel⟩,
   ⟨put (verified (ring 1 up)) [(F.DAT_CFG_COMMIT_UNSYNC, 0)], maced (desc (zeros 56)) 771, sess 1, img, sent_of _ _ _ _ _ (by decide +kernel), ⟨by
      decide +kernel, by decide +kernel, some_getD (by decide +kernel), ⟨zeros 48, 1, false⟩, by decide +kernel⟩, by decide +kernel⟩,
   ⟨ring 1 up, maced (desc []) 772, sess 1, sent_of _ _ _ _ _ (by decide +kernel), by decide +kernel⟩,
   ⟨put (running { run with at_ := some 0 } (ring 1 up)) [(F.GLB_COMMIT_STATE, 3)], maced (desc []) 772, sess 1, { run with at_ := some 0 }, sent_of _ _
      _ _ _ (by decide +kernel), by decide +kernel⟩,
   ⟨put (running run (ring 1 up)) [(F.GLB_COMMIT_STATE, 3)], maced (desc []) 772, sess 1, run, sent_of _ _ _ _ _ (by decide +kernel), by decide +kernel⟩⟩

/-- The hypotheses of the clauses of CommitStages, each met. -/
theorem CommitStages_met :
    (∃ (s : State) (r : Run), (∀ (t : BitVec 64), r.at_ = some t → s.until_ t ≤ ↑(s.prestageMs * 1000000)) ∧ s.ctl.run = some r ∧ r.prestaged = false ∧
      r.switched = none ∧ s.blocksBusy = false ∧ s.held = true) ∧
    (∃ (s : State) (r : Run), (∀ (t : BitVec 64), r.at_ = some t → s.until_ t ≤ ↑(s.prestageMs * 1000000)) ∧ s.ctl.run = some r ∧ r.prestaged = false ∧
      r.switched = none ∧ s.blocksBusy = false ∧ s.held = false) ∧
    (∃ (s : State) (r : Run) (new : Img), (∀ (t : BitVec 64), r.at_ = some t → s.until_ t ≤ 0 ∧ s.unsyncNow = false) ∧ s.newImg r = some new ∧ s.ctl.run =
      some r ∧ r.switched = none ∧ r.prestaged = true ∧ s.held = false) ∧
    (∃ (s : State) (r : Run) (a : BitVec 64), s.ctl.run = some r ∧ r.switched = none ∧ r.at_ = some a ∧ s.until_ a ≤ 0 ∧ s.unsyncNow = false ∧ (s.held =
      true ∨ r.prestaged = false)) ∧
    (∃ (s : State) (r : Run) (a : BitVec 64) (caps : BitVec 256) (c : Instr), (c = Instr.commitSwitch caps ∨ c = Instr.scheduledCommitUnsync) ∧ s.ctl.run
      = some r ∧ r.switched = none ∧ r.at_ = some a ∧ s.until_ a ≤ 0 ∧ s.unsyncNow = true) ∧
    (∃ (s : State) (r : Run) (u : BitVec 64) (new : Img), s.newImg r = some new ∧ s.ctl.run = some r ∧ r.switched = some u ∧ 1500000 ≤ (s.cyc - u).toNat ∧
      r.recorded = false) ∧
    (∃ (s : State) (r : Run) (u : BitVec 64) (new : Img), s.newImg r = some new ∧ s.ctl.run = some r ∧ r.switched = some u ∧ 1500000 ≤ (s.cyc - u).toNat ∧
      r.recorded = true ∧ (∀ (sa : Nat), sa ∈ r.draining → (s.ctx sa).st ≠ SaSt.draining) ∧ s.blocksBusy = false) :=
  ⟨⟨put (running run up) [(F.ENV_STATUS_LEVEL, 2)], run, of_none (by decide +kernel), by decide +kernel⟩,
   ⟨running { run with at_ := some 0 } up, { run with at_ := some 0 }, of_some 0 (by decide +kernel), by decide +kernel⟩,
   ⟨running { run with prestaged := true } (verified up), { run with prestaged := true }, img, of_none (by decide +kernel), some_getD (by
      decide +kernel), by decide +kernel⟩,
   ⟨running { run with at_ := some 0 } (verified up), { run with at_ := some 0 }, 0, by decide +kernel⟩,
   ⟨running { run with at_ := some 0 } up, { run with at_ := some 0 }, 0, 0, .scheduledCommitUnsync, .inr rfl, by decide +kernel⟩,
   ⟨{ running { run with switched := some 0 } (verified up) with cyc := 1500000 }, { run with switched := some 0 }, 0, img, some_getD (by
      decide +kernel), by decide +kernel⟩,
   ⟨{ running { run with switched := some 0, recorded := true } (verified up) with cyc := 1500000 }, { run with switched := some 0, recorded := true },
      0, img, some_getD (by decide +kernel), by decide +kernel⟩⟩

/-- The hypotheses of the clauses of FirmwareUpdateAndRecovery, each met. -/
theorem FirmwareUpdateAndRecovery_met :
    (∃ (s : State) (d : Desc) (q : Session), Sent s d 784 Cls.operate q ∧ 8 < d.payload.length ∧ d.payload.length ≤ 65544 ∧ leAt d.payload 0 8 +
      (d.payload.length - 8) ≤ 16777216) ∧
    (∃ (s : State) (d : Desc) (q : Session) (n : Nonce), SentSigned s d 785 q n ∧ d.agree = true ∧ (descBody d).length = 48 ∧ s.ctl.run = none ∧
      s.ctl.trial = none) ∧
    (∃ (s : State) (d : Desc) (q : Session) (t0 : BitVec 64), Sent s d 786 Cls.operate q ∧ d.payload = [] ∧ s.ctl.trial = some t0) ∧
    (∃ (s : State) (t0 : BitVec 64), s.ctl.trial = some t0 ∧ 1500000000 * max 1 (s.fld F.GLB_FW_CONFIRM_S) ≤ (s.cyc - t0).toNat) ∧
    (∃ (s : State) (t0 : BitVec 64), s.ctl.trial = some t0 ∧ s.hostUp = true) ∧
    (∃ (s : State), s.ctl.trial = none ∧ s.hostUp = true ∧ (∀ (w : Wait), w ∈ s.waits → w.opcode ≠ 770)) ∧
    (∃ (s : State), s.fld F.GLB_BOOT_STAGE = 8) ∧
    (∃ (s : State), s.fld F.GLB_BOOT_STAGE = 8) ∧
    (∃ (s : State), s.fld F.GLB_BOOT_STAGE = 8 ∧ s.fld F.GLB_RECOVERY_OFS % 4096 = 0 ∧ s.fld F.GLB_RECOVERY_OFS < 16777216 ∧ s.fld F.GLB_RECOVERY_LEN % 4
      = 0 ∧ 4 ≤ s.fld F.GLB_RECOVERY_LEN ∧ s.fld F.GLB_RECOVERY_LEN ≤ 4096) ∧
    (∃ (s : State), s.fld F.GLB_BOOT_STAGE = 8 ∧ s.fld F.GLB_RECOVERY_OFS % 4096 = 0 ∧ s.fld F.GLB_RECOVERY_OFS < 16777216 ∧ s.fld F.GLB_RECOVERY_LEN % 4
      = 0 ∧ 4 ≤ s.fld F.GLB_RECOVERY_LEN ∧ s.fld F.GLB_RECOVERY_LEN ≤ 4096) ∧
    (∃ (s : State), s.fld F.GLB_BOOT_STAGE = 8 ∧ (s.fld F.GLB_RECOVERY_OFS % 4096 ≠ 0 ∨ 16777216 ≤ s.fld F.GLB_RECOVERY_OFS ∨ s.fld F.GLB_RECOVERY_LEN % 4
      ≠ 0 ∨ s.fld F.GLB_RECOVERY_LEN < 4 ∨ 4096 < s.fld F.GLB_RECOVERY_LEN)) ∧
    (∃ (s : State), s.fld F.GLB_BOOT_STAGE = 8) :=
  ⟨⟨ring 1 up, maced (desc (leBytes 8 (16777216 - 1) ++ [1])) 784, sess 1, sent_of _ _ _ _ _ (by decide +kernel), by decide +kernel⟩,
   ⟨nonced up, maced (sgn (zeros 48)) 785, sess 1, nonce, signed_of _ _ _ _ _ (by decide +kernel), by decide +kernel⟩,
   ⟨{ ring 1 up with ctl := { (ring 1 up).ctl with trial := some 0 } }, maced (desc []) 786, sess 1, 0, sent_of _ _ _ _ _ (by decide +kernel), by
      decide +kernel⟩,
   ⟨{ put up [(F.GLB_FW_CONFIRM_S, 0)] with ctl := { up.ctl with trial := some 0 }, cyc := 1500000000 }, 0, by decide +kernel⟩,
   ⟨{ up with ctl := { up.ctl with trial := some 0 } }, 0, by decide +kernel⟩,
   ⟨up, by decide +kernel⟩,
   ⟨put up [(F.GLB_BOOT_STAGE, 8)], by decide +kernel⟩,
   ⟨put up [(F.GLB_BOOT_STAGE, 8)], by decide +kernel⟩,
   ⟨put up [(F.GLB_BOOT_STAGE, 8), (F.GLB_RECOVERY_OFS, 16777216 - 4096), (F.GLB_RECOVERY_LEN, 4096)], by decide +kernel⟩,
   ⟨put up [(F.GLB_BOOT_STAGE, 8), (F.GLB_RECOVERY_OFS, 0), (F.GLB_RECOVERY_LEN, 4)], by decide +kernel⟩,
   ⟨put up [(F.GLB_BOOT_STAGE, 8), (F.GLB_RECOVERY_OFS, 16777216), (F.GLB_RECOVERY_LEN, 4)], by decide +kernel⟩,
   ⟨put up [(F.GLB_BOOT_STAGE, 8)], by decide +kernel⟩⟩

/-- The hypotheses of the clauses of LifeCycleCommands, each met. -/
theorem LifeCycleCommands_met :
    (∃ (s : State) (d : Desc) (q : Session) (n : Nonce) (k : Nat), SentSigned s d 1024 q n ∧ d.agree = true ∧ s.ctl.lcsNew = false ∧ s.ctl.run = none ∧
      s.ctl.trial = none ∧ 1 ≤ k ∧ k ≤ 4 ∧ (descBody d).length = 48 * k + 7424 * (k - 1) ∧ s.otp.lcs = 0) ∧
    (∃ (s : State) (d : Desc) (q : Session) (n : Nonce) (k : Nat), SentSigned s d 1025 q n ∧ d.agree = true ∧ s.ctl.lcsNew = false ∧ s.ctl.run = none ∧
      s.ctl.trial = none ∧ 1 ≤ k ∧ k ≤ 4 ∧ (descBody d).length = 7472 * k ∧ s.otp.lcs = 1 ∧ s.otp.epoch < 4) ∧
    (∃ (s : State) (d : Desc) (q : Session) (n : Nonce), SentSigned s d 1026 q n ∧ d.agree = true ∧ s.ctl.lcsNew = false ∧ s.ctl.run = none ∧ s.ctl.trial
      = none ∧ descBody d = [] ∧ s.otp.lcs = 1) ∧
    (∃ (s : State) (d : Desc) (q : Session) (n : Nonce), SentSigned s d 1027 q n ∧ d.agree = true ∧ s.ctl.lcsNew = false ∧ s.ctl.run = none ∧ s.ctl.trial
      = none ∧ descBody d = []) ∧
    (∃ (s : State) (d : Desc) (q : Session) (n : Nonce), SentSigned s d 1028 q n ∧ d.agree = true ∧ s.ctl.lcsNew = false ∧ s.ctl.run = none ∧ s.ctl.trial
      = none ∧ (descBody d).length = 4 ∧ leAt (descBody d) 0 4 ≤ 3 ∧ s.otp.lcs ≠ 0 ∧ s.otp.lastKey (leAt (descBody d) 0 4) = false) :=
  ⟨⟨nonced up, maced (sgn (zeros 48)) 1024, sess 1, nonce, 1, signed_of _ _ _ _ _ (by decide +kernel), by decide +kernel⟩,
   ⟨owned (nonced up), maced (sgn (zeros 7472)) 1025, sess 1, nonce, 1, signed_of _ _ _ _ _ (by decide +kernel), by decide +kernel⟩,
   ⟨owned (nonced up), maced (sgn []) 1026, sess 1, nonce, signed_of _ _ _ _ _ (by decide +kernel), by decide +kernel⟩,
   ⟨nonced up, maced (sgn []) 1027, sess 1, nonce, signed_of _ _ _ _ _ (by decide +kernel), by decide +kernel⟩,
   ⟨owned (nonced up), maced (sgn (leBytes 4 1)) 1028, sess 1, nonce, signed_of _ _ _ _ _ (by decide +kernel), by decide +kernel⟩⟩

/-- The hypotheses of the clauses of DebugAndCallGate, each met. -/
theorem DebugAndCallGate_met :
    (∃ (s : State) (d : Desc) (q : Session) (n : Nonce), Sent s d 1029 Cls.operate q ∧ d.agree = true ∧ tokenForm d.payload = true ∧ s.otp.lcs = 1 ∧ n ∈
      (s.fn ↑d.fn).nonces ∧ n.bytes = slice d.payload 24 32 ∧ s.elapsed n.at_ < 300 * cycS) ∧
    (∃ (i : Jtag), i ∈ [Jtag.bypass, Jtag.idcode, Jtag.samplePreload]) ∧
    (∃ (s : State) (i : Jtag), i ∈ [Jtag.extest, Jtag.intest, Jtag.clamp] ∧ s.env.held = false ∧ s.fld F.ENV_STATUS_LEVEL < 2) ∧
    (∃ (s : State) (i : Jtag), i ∈ [Jtag.extest, Jtag.intest, Jtag.clamp] ∧ s.env.held = false ∧ 2 ≤ s.fld F.ENV_STATUS_LEVEL) ∧
    (∃ (s : State) (a : BitVec 24) (v : Word), s.gateOpens a.toNat v = true) ∧
    (∃ (s : State) (a : BitVec 24) (v : Word), s.gateOpens a.toNat v = false) :=
  ⟨⟨owned (nonced up), maced (desc ([0x5A, 0x47, 0x44, 0x42, 1] ++ zeros 7475)) 1029, sess 1, nonce, sent_of _ _ _ _ _ (by decide +kernel), by
      decide +kernel⟩,
   ⟨.bypass, by decide +kernel⟩,
   ⟨up, .clamp, by decide +kernel⟩,
   ⟨put up [(F.ENV_STATUS_LEVEL, 2)], .clamp, by decide +kernel⟩,
   ⟨up, BitVec.ofNat 24 F.DAT_OPND_LO.addr, 0, by decide +kernel⟩,
   ⟨up, 0, 0, by decide +kernel⟩⟩

/-- The hypotheses of the clauses of ResetsAndBoot, each met. -/
theorem ResetsAndBoot_met :
    (∃ (s : State), s.env.held = false) ∧
    (∃ (s : State), s.env.held = true) ∧
    (∃ (s : State), s.env.held = true) ∧
    (∃ (s : State), s.env.held = false ∧ s.env.pll = false) ∧
    (∃ (s : State) (b : BootIn) (c : Instr) (cause : Fld), (c, cause) ∈ [(Instr.chipReset World.secure b, F.GLB_RST_CAUSE_CHIP_CMD), (Instr.watchdogReset
      b, F.GLB_RST_CAUSE_WATCHDOG)] ∧ s.env.held = false ∧ s.env.pll = true) ∧
    (∃ (s : State), s.env.held = false ∧ s.fld F.GLB_BOOT_STAGE = 1) :=
  ⟨⟨up, by decide +kernel⟩,
   ⟨State.reset, by decide +kernel⟩,
   ⟨State.reset, by decide +kernel⟩,
   ⟨{ State.reset with env := { held := false } }, by decide +kernel⟩,
   ⟨up, boot, .watchdogReset boot, F.GLB_RST_CAUSE_WATCHDOG, .tail _ (.head _), by decide +kernel⟩,
   ⟨put up [(F.GLB_BOOT_STAGE, 1)], by decide +kernel⟩⟩

/-- The hypotheses of the clauses of ParcelCommands, each met. -/
theorem ParcelCommands_met :
    (∃ (s : State) (d : Desc) (q : Session), ((∃ (n : Nonce), SentSigned s d 1280 q n) ∧ d.agree = true ∧ (descBody d).length = 16) ∧ s.storeRoom 0 1 ∧
      d.fn = 0 ∧ parNum (descBody d) < 64 ∧ q.parcels.getLsbD (parNum (descBody d)) = true ∧ parNum (descBody d) ≠ 0 ∧ s.parState (parNum (descBody
      d)) = Ps.unassigned ∧ leAt (descBody d) 4 4 ≠ 0) ∧
    (∃ (s : State) (d : Desc) (q : Session), ((∃ (n : Nonce), SentSigned s d 1281 q n) ∧ d.agree = true ∧ (descBody d).length = 4) ∧ d.fn = 0 ∧ parNum
      (descBody d) < 64 ∧ q.parcels.getLsbD (parNum (descBody d)) = true ∧ parNum (descBody d) ≠ 0 ∧ s.parState (parNum (descBody d)) ≠ Ps.unassigned
      ∧ (s.parOf (parNum (descBody d))).reset = none ∧ s.sec.delWait = none ∧ (tabWf (fun _ ↦ none) s.frames = true)) ∧
    (∃ (s : State) (d : Desc) (q : Session), (Sent s d 1282 Cls.operate q ∧ (descBody d).length = 8) ∧ d.fn = 0 ∧ parNum (descBody d) < 64 ∧
      q.parcels.getLsbD (parNum (descBody d)) = true ∧ leAt (descBody d) 4 4 ≠ 1 ∧ s.parState (parNum (descBody d)) = Ps.running ∧ (s.parOf (parNum
      (descBody d))).reset = none) ∧
    (∃ (s : State) (d : Desc) (q : Session), (Sent s d 1282 Cls.operate q ∧ (descBody d).length = 8) ∧ d.fn = 0 ∧ parNum (descBody d) < 64 ∧
      q.parcels.getLsbD (parNum (descBody d)) = true ∧ leAt (descBody d) 4 4 = 1 ∧ (s.parState (parNum (descBody d)) = Ps.running ∨ s.parState (parNum
      (descBody d)) = Ps.freezing ∨ s.parState (parNum (descBody d)) = Ps.frozen) ∧ (s.parOf (parNum (descBody d))).reset = none ∧ s.sec.delWait =
      none ∧ (tabWf (fun _ ↦ none) s.frames = true)) ∧
    (∃ (s : State) (d : Desc) (q : Session), (Sent s d 1283 Cls.operate q ∧ (descBody d).length = 4) ∧ d.fn = 0 ∧ parNum (descBody d) < 64 ∧
      q.parcels.getLsbD (parNum (descBody d)) = true ∧ parNum (descBody d) ≠ 0 ∧ s.parState (parNum (descBody d)) = Ps.running) ∧
    (∃ (s : State) (d : Desc) (q : Session), (Sent s d 1284 Cls.operate q ∧ (descBody d).length = 4) ∧ d.fn = 0 ∧ parNum (descBody d) < 64 ∧
      q.parcels.getLsbD (parNum (descBody d)) = true ∧ s.parState (parNum (descBody d)) = Ps.frozen) ∧
    (∃ (s : State) (d : Desc) (q : Session), ((∃ (n : Nonce), SentSigned s d 1285 q n) ∧ d.agree = true ∧ (descBody d).length = 1693) ∧ d.fn = 0 ∧ parNum
      (descBody d) < 64 ∧ q.parcels.getLsbD (parNum (descBody d)) = true ∧ parNum (descBody d) ≠ 0 ∧ s.parState (parNum (descBody d)) = Ps.frozen ∧
      d.writeOk = true) ∧
    (∃ (s : State) (d : Desc) (q : Session) (img : List Byte), ((∃ (n : Nonce), SentSigned s d 1286 q n) ∧ d.agree = true ∧ (descBody d).length = 128) ∧
      s.storeRoom 0 1 ∧ d.fn = 0 ∧ parNum (descBody d) < 64 ∧ q.parcels.getLsbD (parNum (descBody d)) = true ∧ s.parState (parNum (descBody d)) =
      Ps.frozen ∧ ((List.any s.sec.chans fun (e : Nat × Chan) ↦ e.snd.valid && e.snd.parcel == parNum (descBody d)) = false) ∧ ((List.any s.hrt.slots
      fun (e : Nat × Slot) ↦ e.snd.st != 0 && e.snd.parcel == parNum (descBody d)) = false) ∧ s.imageRoom img.length = true) ∧
    (∃ (s : State) (d : Desc) (q : Session) (c : Instr) (op : Nat), (c, op) ∈ [(Instr.parcelFreeze d, 1283), (Instr.parcelThaw d, 1284)] ∧ (Sent s d op
      Cls.operate q ∧ (descBody d).length = 4) ∧ d.fn = 0 ∧ parNum (descBody d) < 64 ∧ q.parcels.getLsbD (parNum (descBody d)) = true ∧ s.parState
      (parNum (descBody d)) = Ps.unassigned) :=
  ⟨⟨nonced up, maced (sgn (leBytes 4 63 ++ leBytes 12 5)) 1280, sess 1, ⟨⟨nonce, signed_of _ _ _ _ _ (by decide +kernel)⟩, by decide +kernel⟩, .inr ⟨by
      decide +kernel, by decide +kernel⟩, by decide +kernel⟩,
   ⟨nonced (put up [(F.GLB_PARCEL_W0_STATE 63, 1)]), maced (sgn (leBytes 4 63)) 1281, sess 1, ⟨⟨nonce, signed_of _ _ _ _ _ (by decide +kernel)⟩, by
      decide +kernel⟩, by decide +kernel⟩,
   ⟨ring 1 (put up [(F.GLB_PARCEL_W0_STATE 63, 1)]), maced (desc (leBytes 8 63)) 1282, sess 1, ⟨sent_of _ _ _ _ _ (by decide +kernel), by
      decide +kernel⟩, by decide +kernel⟩,
   ⟨ring 1 (put up [(F.GLB_PARCEL_W0_STATE 63, 3)]), maced (desc (leBytes 4 63 ++ leBytes 4 1)) 1282, sess 1, ⟨sent_of _ _ _ _ _ (by decide +kernel), by
      decide +kernel⟩, by decide +kernel⟩,
   ⟨ring 1 (put up [(F.GLB_PARCEL_W0_STATE 63, 1)]), maced (desc (leBytes 4 63)) 1283, sess 1, ⟨sent_of _ _ _ _ _ (by decide +kernel), by
      decide +kernel⟩, by decide +kernel⟩,
   ⟨ring 1 (put up [(F.GLB_PARCEL_W0_STATE 63, 3)]), maced (desc (leBytes 4 63)) 1284, sess 1, ⟨sent_of _ _ _ _ _ (by decide +kernel), by
      decide +kernel⟩, by decide +kernel⟩,
   ⟨nonced (put up [(F.GLB_PARCEL_W0_STATE 63, 3)]), maced (sgn (leBytes 4 63 ++ zeros 1689)) 1285, sess 1, ⟨⟨nonce, signed_of _ _ _ _ _ (by
      decide +kernel)⟩, by decide +kernel⟩, by decide +kernel⟩,
   ⟨nonced { put up [(F.GLB_PARCEL_W0_STATE 63, 3), (F.TMP_STATUS_PRESENT, 1)] with tmp := { up.tmp with regions := [(3, some { size := 1 })] } }, maced
      (sgn (leBytes 4 63 ++ zeros 124)) 1286, sess 1, [], ⟨⟨nonce, signed_of _ _ _ _ _ (by decide +kernel)⟩, by decide +kernel⟩, .inr ⟨by
      decide +kernel, by decide +kernel⟩, by decide +kernel⟩,
   ⟨ring 1 up, maced (desc (leBytes 4 63)) 1284, sess 1, .parcelThaw (maced (desc (leBytes 4 63)) 1284), 1284, .tail _ (.head _), ⟨sent_of _ _ _ _ _ (by
      decide +kernel), by decide +kernel⟩, by decide +kernel⟩⟩

/-- Parcel 63 in this state, with what it has in progress. -/
def parcel63 (st : Nat) (x : Par) : State := (put up [(F.GLB_PARCEL_W0_STATE 63, st)]).setPar 63 x

/-- DDR5 of one MiB, all of it region 0, its tables as given. -/
def ddr (prot : Bool) (t : Tmp) : State :=
  { put up [(F.TMP_STATUS_PRESENT, 1), (F.TMP_STATUS_HALTED, 0), (F.TMP_STATUS_KEYS_VALID, 1), (F.TMP_LAYOUT_FITTED_MIB, 1), (F.TMP_CFG_SCRUB_EN, 1)] with
    tmp := { t with regions := [(0, some { prot := prot, base := 0, size := 1 })] } }
def region0 (prot : Bool) : Region := { prot := prot, base := 0, size := 1 }

/-- The ECC scrubber runs, this many words into its pass. -/
def scrubbing (n : Nat) : State := { put up [(F.ECC_CFG_SCRUB_EN, 1)] with ecc := { up.ecc with words := n } }

/-- A sample that waits for its pair, and a battery entry that waits for its evidence bit. -/
def sample : Sample :=
  { inTs := 0, latency := 0, sa := 0, anvil := 0, cls := 0, cellsAhead := 0, length := 0, inPort := 0, release := 0, outPort := 0, express := false,
    command := false, parcel := 0, trigger := 0, outcome := 0, event := 0, poisoned := false, synced := false, shadow := false, stored := false,
    bypass := false, seq := 1 }
def owed (n : Nat) : State :=
  let s := put up [(F.ENV_BAT_W0_VALID 15, 1), (F.ENV_BAT_W0_PENDING 15, 1)]
  { s with env := { s.env with evAt := some 0 }, cyc := 30000, otp := { s.otp with evidence := n } }

/-- A decision whose second computation is due. -/
def dec (scope : Nat) : Dec := { scope := scope, source := 9, start := 0, delay := 255 }
/-- The hypotheses of the clauses of ParcelsComplete, each met. -/
theorem ParcelsComplete_met :
    (∃ (s : State) (p : Fin 64) (r : PReset), (s.parOf ↑p).reset = some r ∧ s.parHolders (↑p) r = [] ∧ s.parState ↑p = Ps.resetting ∧ r.release = false) ∧
    (∃ (s : State) (p : Fin 64) (r : PReset), (s.parOf ↑p).reset = some r ∧ s.parHolders (↑p) r = [] ∧ s.parState ↑p = Ps.resetting ∧ r.release = true ∧ p
      ≠ 0) ∧
    (∃ (s : State) (p : Fin 64) (r : PReset), (s.parOf ↑p).reset = some r ∧ r.hard = false ∧ 15000 ≤ (s.cyc - r.at_).toNat) ∧
    (∃ (s : State) (p : Fin 64) (t0 : BitVec 64), (s.parOf ↑p).freeze = some t0 ∧ (s.parOf ↑p).reset = none ∧ 15000 ≤ (s.cyc - t0).toNat) ∧
    (∃ (s : State) (p : Fin 64) (t0 : BitVec 64), (s.parOf ↑p).freeze = some t0 ∧ max 1 (s.fld F.GLB_PARCEL_CTL_FREEZE_MS) * 1500000 ≤ (s.cyc - t0).toNat
      ∧ (tabWf (fun _ ↦ none) s.frames = true)) ∧
    (∃ (s : State) (p : Fin 64), s.parState ↑p = Ps.freezing ∧ ((s.parFrames (↑p) s.nextFrame fun _ ↦ true) = [])) ∧
    (∃ (s : State) (p : Fin 64) (off : BitVec 16) (k : Nat), (∃ (q : Session), (s.fn ↑p).session = some q ∧ q.cls = 1) ∧ p ≠ 0 ∧ k < 4 ∧ off =
      BitVec.ofNat 16 (272 + 4 * k)) ∧
    (∃ (s : State) (p : Fin 64) (off : BitVec 16) (r : RegD), (∃ (q : Session), (s.fn ↑p).session = some q ∧ q.cls = 1) ∧ p ≠ 0 ∧ off = 260 ∧ regDesc
      F.PLT_FLUSH_MODE.addr = some r) ∧
    (∃ (s : State) (p : Fin 64) (off : BitVec 16), ((¬∃ (q : Session), (s.fn ↑p).session = some q ∧ q.cls = 1) ∨ ¬off.toNat ∈ [256, 260, 272, 276, 280,
      284, 512]) ∧ p ≠ 0) :=
  ⟨⟨parcel63 4 { reset := some { hard := false, at_ := 0, bound := 0, frozen := false } }, 63, { hard := false, at_ := 0, bound := 0, frozen := false },
      by decide +kernel⟩,
   ⟨parcel63 4 { reset := some { hard := true, at_ := 0, bound := 0, frozen := false, release := true } }, 63,
      { hard := true, at_ := 0, bound := 0, frozen := false, release := true }, by decide +kernel⟩,
   ⟨{ parcel63 4 { reset := some { hard := false, at_ := 0, bound := 0, frozen := false } } with cyc := 15000 }, 63,
      { hard := false, at_ := 0, bound := 0, frozen := false }, by decide +kernel⟩,
   ⟨{ parcel63 2 { freeze := some 0 } with cyc := 15000 }, 63, 0, by decide +kernel⟩,
   ⟨{ put (parcel63 2 { freeze := some 0 }) [(F.GLB_PARCEL_CTL_FREEZE_MS, 0)] with cyc := 1500000 }, 63, 0, by decide +kernel⟩,
   ⟨parcel63 2 {}, 63, by decide +kernel⟩,
   ⟨up.setFn 63 { session := some (sess 1) }, 63, 284, 3, ⟨sess 1, by decide +kernel⟩, by decide +kernel⟩,
   ⟨up.setFn 63 { session := some (sess 1) }, 63, 260, reg F.PLT_FLUSH_MODE.addr, ⟨sess 1, by decide +kernel⟩, by decide +kernel⟩,
   ⟨up, 63, 0x120, .inr (by decide), by decide +kernel⟩⟩

/-- The hypotheses of the clauses of CountersAndFieldBookCommands, each met. -/
theorem CountersAndFieldBookCommands_met :
    (∃ (s : State) (d : Desc) (q : Session), Sent s d 514 Cls.observe q ∧ d.fn = 0 ∧ ((descBody d).length = 4 ∧ 1 ≤ leAt (descBody d) 2 2 ∧ leAt (descBody
      d) 2 2 ≤ 1024 ∧ leAt (descBody d) 0 2 + leAt (descBody d) 2 2 ≤ 8192) ∧ 16 + 8 * leAt (descBody d) 2 2 ≤ d.rspLen.toNat ∧ d.writeOk = true) ∧
    (∃ (s : State) (d : Desc) (q : Session), Sent s d 515 Cls.operate q ∧ d.fn = 0 ∧ ((descBody d).length = 4 ∧ 1 ≤ leAt (descBody d) 2 2 ∧ leAt (descBody
      d) 2 2 ≤ 1024 ∧ leAt (descBody d) 0 2 + leAt (descBody d) 2 2 ≤ 8192)) ∧
    (∃ (d : Desc), d.fn = 0) ∧
    (∃ (s : State) (d : Desc) (q : Session) (kind start count : Nat), Sent s d 516 Cls.observe q ∧ d.fn = 0 ∧ kind ≤ 5 ∧ (descBody d).length = 12 ∧ leAt
      (descBody d) 0 1 = kind ∧ leAt (descBody d) 1 3 = 0 ∧ start = leAt (descBody d) 4 4 ∧ count = leAt (descBody d) 8 4 ∧ (kind ∈ [2, 3, 4] ∨ 1 ≤
      count ∧ count ≤ 4096) ∧ ((if kind ∈ [2, 3, 4] then 49168 else 16 + 32 * count) ≤ d.rspLen.toNat) ∧ d.writeOk = true) ∧
    (∃ (s : State) (d : Desc) (q : Session) (nc : Nonce), SentSigned s d 517 q nc ∧ d.fn = 0 ∧ d.agree = true ∧ (descBody d).length = 4) :=
  ⟨⟨ring 0 up, maced (desc (leBytes 2 7168 ++ leBytes 2 1024)) 514, sess 0, sent_of _ _ _ _ _ (by decide +kernel), by decide +kernel⟩,
   ⟨ring 1 up, maced (desc (leBytes 2 8191 ++ leBytes 2 1)) 515, sess 1, sent_of _ _ _ _ _ (by decide +kernel), by decide +kernel⟩,
   ⟨desc [], by decide +kernel⟩,
   ⟨ring 0 up, maced (desc (leBytes 4 5 ++ leBytes 4 0 ++ leBytes 4 2187)) 516, sess 0, 5, 0, 2187, sent_of _ _ _ _ _ (by decide +kernel), by
      decide +kernel⟩,
   ⟨nonced up, maced (sgn (zeros 4)) 517, sess 1, nonce, signed_of _ _ _ _ _ (by decide +kernel), by decide +kernel⟩⟩

/-- The hypotheses of the clauses of HistogramsAndLifeBlock, each met. -/
theorem HistogramsAndLifeBlock_met :
    (∃ (h : Fin 32) (d : RegD), regDesc (F.FBK_HSEL_VALID ↑h).addr = some d) ∧
    (∃ (s : State), 90000000000 ≤ (s.cyc - s.fbk.minAt).toNat) ∧
    (∃ (s : State), s.fbk.hourAt + 60 ≤ s.opMin) ∧
    (∃ (s : State), s.fbk.hourAt + 60 ≤ s.opMin) :=
  ⟨⟨31, reg (F.FBK_HSEL_VALID 31).addr, by decide +kernel⟩,
   ⟨{ up with cyc := 90000000000 }, by decide +kernel⟩,
   ⟨{ up with opMin := 60 }, by decide +kernel⟩,
   ⟨{ up with opMin := 60 }, by decide +kernel⟩⟩

/-- The hypotheses of the clauses of SamplerAndBandwidth, each met. -/
theorem SamplerAndBandwidth_met :
    (∃ (d : RegD), regDesc F.FBK_SMP_ONE_ARM.addr = some d) ∧
    (∃ (s : State) (v : Word) (d : RegD), regDesc F.FBK_SMP_CFG_EN.addr = some d ∧ s.flag F.FBK_SMP_CFG_RESTART = false ∧ bitsOf v
      F.FBK_SMP_CFG_RESTART.lo 1 = 0) ∧
    (∃ (s : State) (v : Word) (d : RegD), regDesc F.FBK_SMP_CFG_EN.addr = some d ∧ s.flag F.FBK_SMP_CFG_RESTART = false ∧ bitsOf v
      F.FBK_SMP_CFG_RESTART.lo 1 = 1) ∧
    (∃ (s : State) (x : Sample) (at_ : BitVec 64), s.fbk.buffer = [(x, at_)] ∧ x.seq % 2 = 1 ∧ 1500 ≤ (s.cyc - at_).toNat ∧ 30 ≤ (s.cyc -
      s.fbk.bufAt).toNat ∧ s.smpRegion = false) ∧
    (∃ (s : State), 1500 * s.windowUs ≤ (s.cyc - s.fbk.winAt).toNat) ∧
    (∃ (d : RegD), regDesc F.FBK_BW_CFG_WINDOW_US.addr = some d) :=
  ⟨⟨reg F.FBK_SMP_ONE_ARM.addr, by decide +kernel⟩,
   ⟨up, 0, reg F.FBK_SMP_CFG_EN.addr, by decide +kernel⟩,
   ⟨up, word [(F.FBK_SMP_CFG_RESTART, 1)], reg F.FBK_SMP_CFG_EN.addr, by decide +kernel⟩,
   ⟨{ up with fbk := { up.fbk with buffer := [(sample, 0)] }, cyc := 1500 }, sample, 0, by decide +kernel⟩,
   ⟨{ put up [(F.FBK_BW_CFG_WINDOW_US, 1)] with cyc := 1500 }, by decide +kernel⟩,
   ⟨reg F.FBK_BW_CFG_WINDOW_US.addr, by decide +kernel⟩⟩

/-- The hypotheses of the clauses of TemperReads, each met. -/
theorem TemperReads_met :
    (∃ (s : State), s.flag F.TMP_STATUS_HALTED = true) ∧
    (∃ (s : State) (m : TMaster) (line : BitVec 32), s.flag F.TMP_STATUS_HALTED = false ∧ s.tmpCheck m line.toNat 1 = none) ∧
    (∃ (s : State) (m : TMaster) (line : BitVec 32) (r : Nat) (x : Region) (l : Line), s.flag F.TMP_STATUS_HALTED = false ∧ s.tmpCheck m line.toNat 1 =
      some (r, x) ∧ x.prot = false ∧ tabGet none s.tmp.plain line.toNat = some l) ∧
    (∃ (s : State) (m : TMaster) (line : BitVec 32) (r : Nat) (x : Region), s.flag F.TMP_STATUS_HALTED = false ∧ s.tmpCheck m line.toNat 1 = some (r, x) ∧
      x.prot = false ∧ tabGet none s.tmp.plain line.toNat = none) ∧
    (∃ (s : State) (m : TMaster) (line : BitVec 32) (r : Nat) (x : Region), s.flag F.TMP_STATUS_HALTED = false ∧ s.tmpCheck m line.toNat 1 = some (r, x) ∧
      x.prot = true ∧ s.flag F.TMP_STATUS_KEYS_VALID = true ∧ s.beneath line.toNat = false) ∧
    (∃ (s : State) (m : TMaster) (line : BitVec 32) (r : Nat) (x : Region), s.flag F.TMP_STATUS_HALTED = false ∧ s.tmpCheck m line.toNat 1 = some (r, x) ∧
      x.prot = true ∧ s.flag F.TMP_STATUS_KEYS_VALID = true ∧ s.beneath line.toNat = false) ∧
    (∃ (s : State) (m : TMaster) (line : BitVec 32) (r : Nat) (x : Region), s.flag F.TMP_STATUS_HALTED = false ∧ s.tmpCheck m line.toNat 1 = some (r, x) ∧
      x.prot = true ∧ s.flag F.TMP_STATUS_KEYS_VALID = true ∧ s.beneath line.toNat = false) ∧
    (∃ (s : State) (m : TMaster) (line : BitVec 32) (r : Nat) (x : Region), s.flag F.TMP_STATUS_HALTED = false ∧ s.tmpCheck m line.toNat 1 = some (r, x) ∧
      x.prot = true ∧ s.flag F.TMP_STATUS_KEYS_VALID = true ∧ s.beneath line.toNat = false ∧ s.tmpWritten line.toNat = true) ∧
    (∃ (s : State) (m : TMaster) (line : BitVec 32) (r : Nat) (x : Region), s.flag F.TMP_STATUS_HALTED = false ∧ s.tmpCheck m line.toNat 1 = some (r, x) ∧
      x.prot = true ∧ s.flag F.TMP_STATUS_KEYS_VALID = true ∧ s.beneath line.toNat = false ∧ s.tmpWritten line.toNat = false) ∧
    (∃ (s : State) (m : TMaster) (line : BitVec 32) (r : Nat) (x : Region), s.flag F.TMP_STATUS_HALTED = false ∧ s.tmpCheck m line.toNat 1 = some (r, x) ∧
      x.prot = true ∧ s.flag F.TMP_STATUS_KEYS_VALID = true ∧ s.beneath line.toNat = false) :=
  ⟨⟨put (ddr true {}) [(F.TMP_STATUS_HALTED, 1)], by decide +kernel⟩,
   ⟨ddr true {}, .monitor, 16384, by decide +kernel⟩,
   ⟨ddr false { plain := [(16383, some { bytes := zeros 64 })] }, .monitor, 16383, 0, region0 false, { bytes := zeros 64 }, by decide +kernel⟩,
   ⟨ddr false {}, .monitor, 0, 0, region0 false, by decide +kernel⟩,
   ⟨ddr true {}, .monitor, 16383, 0, region0 true, by decide +kernel⟩,
   ⟨ddr true {}, .monitor, 0, 0, region0 true, by decide +kernel⟩,
   ⟨ddr true {}, .monitor, 0, 0, region0 true, by decide +kernel⟩,
   ⟨ddr true { minors := [(0, 1)] }, .monitor, 0, 0, region0 true, by decide +kernel⟩,
   ⟨ddr true {}, .monitor, 0, 0, region0 true, by decide +kernel⟩,
   ⟨ddr true {}, .monitor, 0, 0, region0 true, by decide +kernel⟩⟩

/-- The hypotheses of the clauses of TemperWrites, each met. -/
theorem TemperWrites_met :
    (∃ (s : State) (off : Fin 64) (b : List Byte), off.val + b.length ≤ 64 ∧ s.flag F.TMP_STATUS_HALTED = true) ∧
    (∃ (s : State) (m : TMaster) (line : BitVec 32) (off : Fin 64) (b : List Byte), off.val + b.length ≤ 64 ∧ s.flag F.TMP_STATUS_HALTED = false ∧
      s.tmpCheck m line.toNat 2 = none) ∧
    (∃ (s : State) (m : TMaster) (line : BitVec 32) (off : Fin 64) (b : List Byte) (r : Nat) (x : Region), off.val + b.length ≤ 64 ∧
      s.flag F.TMP_STATUS_HALTED = false ∧ s.tmpCheck m line.toNat 2 = some (r, x) ∧ x.prot = false ∧ b.length = 64) ∧
    (∃ (s : State) (m : TMaster) (line : BitVec 32) (off : Fin 64) (b : List Byte) (r : Nat) (x : Region) (l : Line), off.val + b.length ≤ 64 ∧
      s.flag F.TMP_STATUS_HALTED = false ∧ s.tmpCheck m line.toNat 2 = some (r, x) ∧ x.prot = false ∧ b.length ≠ 64 ∧ tabGet none s.tmp.plain
      line.toNat = some l) ∧
    (∃ (s : State) (m : TMaster) (line : BitVec 32) (off : Fin 64) (b : List Byte) (r : Nat) (x : Region), off.val + b.length ≤ 64 ∧
      s.flag F.TMP_STATUS_HALTED = false ∧ s.tmpCheck m line.toNat 2 = some (r, x) ∧ x.prot = true ∧ s.readOnly line.toNat = true) ∧
    (∃ (s : State) (m : TMaster) (line : BitVec 32) (off : Fin 64) (b : List Byte) (r : Nat) (x : Region), off.val + b.length ≤ 64 ∧
      s.flag F.TMP_STATUS_HALTED = false ∧ s.tmpCheck m line.toNat 2 = some (r, x) ∧ x.prot = true ∧ s.readOnly line.toNat = false ∧
      s.flag F.TMP_STATUS_KEYS_VALID = true ∧ s.beneath line.toNat = false ∧ b.length = 64 ∧ s.tmpMinor line.toNat ≠ 127) ∧
    (∃ (s : State) (m : TMaster) (line : BitVec 32) (off : Fin 64) (b : List Byte) (r : Nat) (x : Region), off.val + b.length ≤ 64 ∧
      s.flag F.TMP_STATUS_HALTED = false ∧ s.tmpCheck m line.toNat 2 = some (r, x) ∧ x.prot = true ∧ s.readOnly line.toNat = false ∧
      s.flag F.TMP_STATUS_KEYS_VALID = true ∧ s.beneath line.toNat = false ∧ b.length ≠ 64 ∧ s.tmpMinor line.toNat ≠ 127 ∧ (s.tmpLine
      line.toNat).poison = false) ∧
    (∃ (s : State) (m : TMaster) (line : BitVec 32) (off : Fin 64) (b : List Byte) (r : Nat) (x : Region), off.val + b.length ≤ 64 ∧
      s.flag F.TMP_STATUS_HALTED = false ∧ s.tmpCheck m line.toNat 2 = some (r, x) ∧ x.prot = true ∧ s.readOnly line.toNat = false ∧
      s.flag F.TMP_STATUS_KEYS_VALID = true ∧ s.beneath line.toNat = false ∧ b.length ≠ 64 ∧ (s.tmpLine line.toNat).poison = true) ∧
    (∃ (s : State) (m : TMaster) (line : BitVec 32) (off : Fin 64) (b : List Byte) (r : Nat) (x : Region), off.val + b.length ≤ 64 ∧
      s.flag F.TMP_STATUS_HALTED = false ∧ s.tmpCheck m line.toNat 2 = some (r, x) ∧ x.prot = true ∧ s.readOnly line.toNat = false ∧
      s.flag F.TMP_STATUS_KEYS_VALID = true ∧ s.beneath line.toNat = false ∧ b.length = 64 ∧ s.tmpMinor line.toNat = 127 ∧ s.tmpMajor (line.toNat /
      64) + 1 ≠ BitVec.allOnes 64) :=
  ⟨⟨put (ddr true {}) [(F.TMP_STATUS_HALTED, 1)], 63, [0], by decide +kernel⟩,
   ⟨ddr true {}, .monitor, 16384, 0, zeros 64, by decide +kernel⟩,
   ⟨ddr false {}, .monitor, 16383, 0, zeros 64, 0, region0 false, by decide +kernel⟩,
   ⟨ddr false { plain := [(0, some { bytes := zeros 64 })] }, .monitor, 0, 1, zeros 63, 0, region0 false, { bytes := zeros 64 }, by decide +kernel⟩,
   ⟨ddr true { ro := [0] }, .monitor, 63, 0, zeros 64, 0, region0 true, by decide +kernel⟩,
   ⟨ddr true {}, .monitor, 16383, 0, zeros 64, 0, region0 true, by decide +kernel⟩,
   ⟨ddr true {}, .monitor, 0, 63, [0], 0, region0 true, by decide +kernel⟩,
   ⟨ddr true { lines := [(0, some { bytes := zeros 64, poison := true })] }, .monitor, 0, 63, [0], 0, region0 true, by decide +kernel⟩,
   ⟨ddr true { minors := [(0, 127)] }, .monitor, 0, 0, zeros 64, 0, region0 true, by decide +kernel⟩⟩

/-- The hypotheses of the clauses of ScrubbersAndInjection, each met. -/
theorem ScrubbersAndInjection_met :
    (∃ (s : State) (line : BitVec 32), (s.flag F.TMP_CFG_SCRUB_EN = true ∨ s.flag F.TMP_SCRUB_START = true) ∧ s.flag F.TMP_STATUS_PRESENT = true ∧
      s.flag F.TMP_STATUS_HALTED = false ∧ line.toNat < s.tmpLines ∧ s.flag F.TMP_STATUS_KEYS_VALID = true ∧ s.beneath line.toNat = false ∧
      s.tmp.walked + 1 < s.tmpLines) ∧
    (∃ (s : State) (line : BitVec 32), (s.flag F.TMP_CFG_SCRUB_EN = true ∨ s.flag F.TMP_SCRUB_START = true) ∧ s.flag F.TMP_STATUS_PRESENT = true ∧
      s.flag F.TMP_STATUS_HALTED = false ∧ line.toNat < s.tmpLines ∧ s.flag F.TMP_STATUS_KEYS_VALID = true ∧ s.beneath line.toNat = false ∧ s.tmpLines
      ≤ s.tmp.walked + 1) ∧
    (∃ (s : State) (line : BitVec 32), (s.flag F.TMP_CFG_SCRUB_EN = true ∨ s.flag F.TMP_SCRUB_START = true) ∧ s.flag F.TMP_STATUS_PRESENT = true ∧
      s.flag F.TMP_STATUS_HALTED = false ∧ line.toNat < s.tmpLines ∧ s.flag F.TMP_STATUS_KEYS_VALID = true ∧ s.beneath line.toNat = false ∧
      s.tmp.walked + 1 < s.tmpLines) ∧
    (∃ (s : State) (v : Word), s.flag F.TMP_SCRUB_START = false ∧ bitsOf v 31 1 = 1) ∧
    (∃ (s : State) (v : Word), s.flag F.TMP_SCRUB_START = false ∧ bitsOf v 31 1 = 0) ∧
    (∃ (s : State) (mem : Fin 10) (addr : Word), (s.flag F.ECC_CFG_SCRUB_EN = true ∨ s.flag F.ECC_SCRUB_START = true) ∧ BitVec.toNat addr < eccWords ↑mem
      ∧ s.ecc.words + 1 < eccAllWords) ∧
    (∃ (s : State) (mem : Fin 10) (addr : Word), (s.flag F.ECC_CFG_SCRUB_EN = true ∨ s.flag F.ECC_SCRUB_START = true) ∧ BitVec.toNat addr < eccWords ↑mem
      ∧ eccAllWords ≤ s.ecc.words + 1) ∧
    (∃ (s : State) (mem : Fin 10) (addr : Word), (s.flag F.ECC_CFG_SCRUB_EN = true ∨ s.flag F.ECC_SCRUB_START = true) ∧ BitVec.toNat addr < eccWords ↑mem) ∧
    (∃ (s : State) (mem : Fin 10) (addr : Word) (use : EccUse), (s.flag F.ECC_CFG_SCRUB_EN = true ∨ s.flag F.ECC_SCRUB_START = true) ∧ BitVec.toNat addr <
      eccWords ↑mem ∧ use = EccUse.nothing) ∧
    (∃ (s : State) (mem : Fin 10) (addr : Word) (use : EccUse) (i : BitVec 14), (s.flag F.ECC_CFG_SCRUB_EN = true ∨ s.flag F.ECC_SCRUB_START = true) ∧
      BitVec.toNat addr < eccWords ↑mem ∧ use = EccUse.rule i ∧ (s.rule i.toNat).gen ≠ 0) ∧
    (∃ (s : State) (mem : Fin 10) (addr : Word) (use : EccUse) (i : BitVec 13), (s.flag F.ECC_CFG_SCRUB_EN = true ∨ s.flag F.ECC_SCRUB_START = true) ∧
      BitVec.toNat addr < eccWords ↑mem ∧ use = EccUse.counter i) ∧
    (∃ (s : State) (mem : Fin 10) (addr : Word) (use : EccUse) (sa : BitVec 18) (k : Fin 7), (s.flag F.ECC_CFG_SCRUB_EN = true ∨ s.flag F.ECC_SCRUB_START
      = true) ∧ BitVec.toNat addr < eccWords ↑mem ∧ use = EccUse.statistics sa k) ∧
    (∃ (s : State) (mem : Fin 10) (addr : Word) (use : EccUse), (s.flag F.ECC_CFG_SCRUB_EN = true ∨ s.flag F.ECC_SCRUB_START = true) ∧ BitVec.toNat addr <
      eccWords ↑mem ∧ use = EccUse.monitor) ∧
    (∃ (s : State) (v : Word), s.flag F.ECC_SCRUB_START = false ∧ bitsOf v 31 1 = 1) ∧
    (∃ (s : State) (v : Word), s.flag F.ECC_SCRUB_START = false ∧ bitsOf v 31 1 = 0) ∧
    (∃ (v : Word), bitsOf v 31 1 = 1) ∧
    (∃ (v : Word), bitsOf v 31 1 = 0) ∧
    (∃ (s : State) (v : Word), (s.otp.lcs ≠ 2 ∨ bitsOf v 31 1 = 0)) ∧
    (∃ (s : State) (v : Word), s.otp.lcs = 2 ∧ bitsOf v 31 1 = 1) :=
  ⟨⟨ddr true {}, 16383, by decide +kernel⟩,
   ⟨ddr true { walked := 16383 }, 0, by decide +kernel⟩,
   ⟨ddr true {}, 0, by decide +kernel⟩,
   ⟨up, 0x80000000, by decide +kernel⟩,
   ⟨up, 0, by decide +kernel⟩,
   ⟨scrubbing 0, 0, 8388607, by decide +kernel⟩,
   ⟨scrubbing 11108351, 9, 32767, by decide +kernel⟩,
   ⟨scrubbing 0, 4, 65535, by decide +kernel⟩,
   ⟨scrubbing 0, 4, 0, .nothing, by decide +kernel⟩,
   ⟨{ scrubbing 0 with rules := [(16383, { gen := 3 })] }, 4, 0, .rule 16383, 16383, by decide +kernel⟩,
   ⟨scrubbing 0, 4, 0, .counter 8191, 8191, by decide +kernel⟩,
   ⟨scrubbing 0, 4, 0, .statistics 32 6, 32, 6, by decide +kernel⟩,
   ⟨scrubbing 0, 4, 0, .monitor, by decide +kernel⟩,
   ⟨up, 0x80000000, by decide +kernel⟩,
   ⟨up, 0, by decide +kernel⟩,
   ⟨0x80000000, by decide +kernel⟩,
   ⟨0, by decide +kernel⟩,
   ⟨up, 0x80000000, by decide +kernel⟩,
   ⟨{ up with otp := { up.otp with isSealed := true } }, 0x80000000, by decide +kernel⟩⟩

/-- The hypotheses of the clauses of MonitorAlarmsAndResponses, each met. -/
theorem MonitorAlarmsAndResponses_met :
    (∃ (s : State) (i : Fin 11) (v : BitVec 16) (crossing : Bool), s.srcOn ↑i = true ∧ s.envCond ↑i ≠ 2 ∧ s.condOf (↑i) v crossing = 2) ∧
    (∃ (s : State) (i : Fin 11) (v : BitVec 16), s.srcOn ↑i = true ∧ s.envCond ↑i ≠ 1 ∧ s.condOf (↑i) v false = 1) ∧
    (∃ (s : State) (i : Fin 11) (v : BitVec 16), s.envCond ↑i ≠ 0 ∧ s.condOf (↑i) v false = 0) :=
  ⟨⟨up, 0, 600, false, by decide +kernel⟩,
   ⟨up, 0, 700, by decide +kernel⟩,
   ⟨{ up with env := { up.env with cond := [(0, 1)] } }, 0, 760, by decide +kernel⟩⟩

/-- The hypotheses of the clauses of RequestsAndZeroizeDecisions, each met. -/
theorem RequestsAndZeroizeDecisions_met :
    (∃ (s : State) (r : RespReq) (rest : List RespReq), s.requests = r :: rest ∧ s.srcOn r.source = false) ∧
    (∃ (s : State) (r : RespReq) (rest : List RespReq), s.requests = r :: rest ∧ s.srcOn r.source = true ∧ r.source ≠ 11) ∧
    (∃ (s : State) (r : RespReq) (rest : List RespReq), s.requests = r :: rest ∧ s.srcOn r.source = true ∧ r.source = 11) ∧
    (∃ (s : State) (d : Dec), (List.find? (fun (d : Dec) ↦ s.passed d.start d.delay) s.env.decs = some d) ∧ 3 ≤ d.scope ∧ d.scope ≤ 5 ∧ ((s.hrt.quench.any
      fun (q : Quench) ↦ decide (4 ≤ d.scope ∧ d.scope ≤ q.scope)) = false)) ∧
    (∃ (s : State), (List.find? (fun (d : Dec) ↦ s.passed d.start d.delay) s.env.decs = none)) :=
  ⟨⟨{ put up [(F.ENV_SRC_W0_EN 12, 0)] with requests := [⟨12, 2, 0x34C, 4⟩] }, ⟨12, 2, 0x34C, 4⟩, [], by decide +kernel⟩,
   ⟨{ put up [(F.ENV_SRC_W0_EN 12, 1)] with requests := [⟨12, 2, 0x34C, 4⟩] }, ⟨12, 2, 0x34C, 4⟩, [], by decide +kernel⟩,
   ⟨{ put up [(F.ENV_SRC_W0_EN 11, 1)] with requests := [⟨11, 1, 0x3D5, 4⟩] }, ⟨11, 1, 0x3D5, 4⟩, [], by decide +kernel⟩,
   ⟨{ up with env := { up.env with decs := [dec 5] }, cyc := 255 }, dec 5, by decide +kernel⟩,
   ⟨{ up with env := { up.env with decs := [dec 5] }, cyc := 254 }, by decide +kernel⟩⟩

/-- The hypotheses of the clauses of EvidenceAndBattery, each met. -/
theorem EvidenceAndBattery_met :
    (∃ (s : State) (i : Nat) (rest : List Nat) (t0 : BitVec 64), s.env.evAt = some t0 ∧ 30000 ≤ (s.cyc - t0).toNat ∧ s.evPending = i :: rest ∧
      s.otp.evidence < 2048) ∧
    (∃ (s : State) (i : Nat) (rest : List Nat) (t0 : BitVec 64), s.env.evAt = some t0 ∧ 30000 ≤ (s.cyc - t0).toNat ∧ s.evPending = i :: rest ∧ 2048 ≤
      s.otp.evidence) ∧
    (∃ (s : State) (k : Fin 5), s.env.held = true ∧ s.batWatches ↑k = true) ∧
    (∃ (s : State) (k : Fin 5), (s.env.held = false ∨ s.batWatches ↑k = false)) ∧
    (∃ (s : State), s.env.held = true) :=
  ⟨⟨owed 2047, 15, [], 0, by decide +kernel⟩,
   ⟨owed 2048, 15, [], 0, by decide +kernel⟩,
   ⟨{ put State.reset [(F.ENV_BAT_CFG_VBAT_EN, 1)] with env := { held := true } }, 4, by decide +kernel⟩,
   ⟨up, 0, .inl (by decide +kernel)⟩,
   ⟨State.reset, by decide +kernel⟩⟩

/-- One of a linked pair of units in this role, long after its reset. -/
def pair (role : Nat) (l : List (Fld × Nat)) (x : Tie) : State :=
  { put up ([(F.TIE_CFG_EN, 1), (F.TIE_STATUS_LINK_UP, 1), (F.TIE_STATUS_ROLE, role)] ++ l) with tie := x, cyc := 1000000000000 }

/-- A block of the sequence of class 7 of port 63, closed then. -/
def blk (closed : BitVec 64) : TieBlk := { num := 1, digest := 5, first := 0, closed := closed, excused := false }
def blocks (own : List TieBlk) (theirs : List (Nat × BitVec 64)) : State := pair 2 [] { seqs := [(511, { own := own, theirs := theirs })] }

/-- A failure recognised, of this cause. -/
def failed (cause : Nat) : TieFail := { at_ := 0, cause := cause, wide := false }

/-- An active unit that a planned swap may be asked of. -/
def swappable (days : Nat) : State :=
  pair 2 [(F.TIE_CFG_SWAP_DAYS, days), (F.TIE_STATUS_COMPARE_OK, 1), (F.DAT_STATUS_SYNC, 1)] { standby := true, pSync := true }
def swapping (lead : Bool) (l : List (Fld × Nat)) : State := pair 7 l { swap := some 0, swapActive := lead }

/-- Port 63 in this state, its timers long past. -/
def port63 (st : Nat) : State := { put up [(F.PRT_PORT_W2_STATE 63, st)] with cyc := 1000000000000 }
def soon (s : State) : State := { s with cyc := 0 }
/-- The hypotheses of the clauses of TieLinkAndFormation, each met. -/
theorem TieLinkAndFormation_met :
    (∃ (s : State), s.tieOn = false) ∧
    (∃ (s : State), s.tieOn = true) ∧
    (∃ (s : State), s.hears = true ∧ s.role ≠ Role.alone ∧ 750 ≤ (s.cyc - s.tie.beat).toNat) ∧
    (∃ (s : State), s.hears = true ∧ (s.cyc - s.tie.beat).toNat < 750) ∧
    (∃ (s : State), s.hears = true ∧ (s.role = Role.forming ∨ s.leads = true)) ∧
    (∃ (s : State), s.hears = true ∧ s.role = Role.forming ∧ s.tie.checked = true ∧ s.holdOut = false ∧ s.holdIn = true) ∧
    (∃ (s : State), s.hears = true ∧ s.role = Role.forming ∧ s.tie.checked = true ∧ s.holdOut = false) ∧
    (∃ (s : State) (t0 : BitVec 64), s.tie.since = some t0 ∧ s.role = Role.forming ∧ s.tie.faulted = false ∧ ((if s.strap = 0 then 1500000000 else
      3000000000) ≤ (s.cyc - t0).toNat) ∧ s.holdIn = true) ∧
    (∃ (s : State) (t0 : BitVec 64), s.tie.since = some t0 ∧ s.role = Role.forming ∧ s.tie.faulted = false ∧ ((if s.strap = 0 then 1500000000 else
      3000000000) ≤ (s.cyc - t0).toNat) ∧ s.holdIn = false) ∧
    (∃ (s : State), s.hears = true ∧ s.follows = true ∧ s.role ≠ Role.forming) ∧
    (∃ (s : State) (m : Mirrored), s.hears = true ∧ s.follows = true ∧ s.role ≠ Role.forming ∧ m.opcode.toNat = 4867) ∧
    (∃ (s : State), s.hears = true ∧ (s.follows = false ∨ s.fld F.DAT_CFG_SRC ≠ 2)) ∧
    (∃ (s : State) (e : BitVec 64), s.hears = true ∧ s.follows = true ∧ s.fld F.DAT_CFG_SRC = 2 ∧ s.fld F.DAT_STATUS_STATE = 2 ∧ e.toInt.natAbs ≤
      s.fld F.DAT_SYNC_UNSYNC_NS) :=
  ⟨⟨State.reset, by decide +kernel⟩,
   ⟨pair 1 [] {}, by decide +kernel⟩,
   ⟨pair 3 [] {}, by decide +kernel⟩,
   ⟨pair 3 [] { beat := 999999999251 }, by decide +kernel⟩,
   ⟨pair 1 [(F.TIE_STATUS_STRAP, 1)] {}, by decide +kernel⟩,
   ⟨pair 1 [(F.TIE_STATUS_HOLD_IN, 1), (F.TIE_STATUS_HOLD_OUT, 0)] { checked := true }, by decide +kernel⟩,
   ⟨pair 1 [(F.TIE_STATUS_HOLD_OUT, 0)] { checked := true }, by decide +kernel⟩,
   ⟨pair 1 [(F.TIE_STATUS_HOLD_IN, 1)] { since := some 997000000000 }, 997000000000, by decide +kernel⟩,
   ⟨pair 1 [(F.TIE_STATUS_HOLD_IN, 0), (F.TIE_STATUS_STRAP, 0)] { since := some 998500000000 }, 998500000000, by decide +kernel⟩,
   ⟨pair 3 [] {}, by decide +kernel⟩,
   ⟨pair 3 [] {}, { opcode := 4867, idx := 0, arg := 0, payload := [], blob := [], agree := true }, by decide +kernel⟩,
   ⟨pair 2 [] {}, by decide +kernel⟩,
   ⟨pair 3 [(F.DAT_CFG_SRC, 2), (F.DAT_STATUS_STATE, 2), (F.DAT_SYNC_UNSYNC_NS, 100)] {}, BitVec.ofInt 64 (-100), by decide +kernel⟩⟩

/-- The hypotheses of the clauses of TieInterlockAndHeartbeats, each met. -/
theorem TieInterlockAndHeartbeats_met :
    (∃ (s : State) (asserted : Bool), s.holdIn = asserted) ∧
    (∃ (s : State) (asserted : Bool), s.holdIn ≠ asserted ∧ s.tieOn = false) ∧
    (∃ (s : State), s.holdIn = false ∧ s.tieOn = true ∧ s.tie.wait ≠ none ∧ s.strap = 0) ∧
    (∃ (s : State), s.holdIn = false ∧ s.tieOn = true ∧ s.tie.wait ≠ none ∧ s.strap ≠ 0) ∧
    (∃ (s : State), s.holdIn = false ∧ s.tieOn = true ∧ s.tie.wait = none ∧ s.holdOut = true) ∧
    (∃ (s : State), s.holdIn = false ∧ s.tieOn = true ∧ s.tie.wait = none ∧ s.holdOut = false) ∧
    (∃ (s : State) (t0 : BitVec 64), s.holdIn = true ∧ s.tieOn = true ∧ s.tie.wait = some t0) ∧
    (∃ (s : State), s.holdIn = true ∧ s.tieOn = true ∧ s.tie.wait = none ∧ s.tie.faulted = false ∧ (s.role = Role.standby ∨ s.role = Role.standbyIso) ∧
      s.tie.fail = none) ∧
    (∃ (s : State), s.holdIn = true ∧ s.tieOn = true ∧ s.tie.wait = none ∧ s.tie.faulted = false ∧ s.role = Role.forming ∧ s.tie.checked = true ∧ s.strap
      = 0 ∧ s.holdOut = false) ∧
    (∃ (s : State), s.tieOn = true ∧ s.holdOut = true) ∧
    (∃ (s : State), (s.tieOn = false ∨ s.holdOut = false)) ∧
    (∃ (s : State) (marks : List Mark) (m : Mark), s.hears = true ∧ marks = [m] ∧ s.follows = true) ∧
    (∃ (s : State) (marks : List Mark), s.hears = true ∧ marks = [] ∧ s.follows = true) ∧
    (∃ (s : State) (role : Fin 8), s.hears = true ∧ (s.role = Role.active ∨ s.role = Role.activeIso) ∧ s.tie.checked = true ∧ s.tie.standby = false ∧
      (↑role = Role.standby ∨ ↑role = Role.swapping)) ∧
    (∃ (s : State) (role : Fin 8), s.hears = true ∧ s.role = Role.active ∧ ↑role = Role.forming) ∧
    (∃ (s : State), s.tieOn = true ∧ s.tie.faulted = false ∧ 3000 ≤ (s.cyc - s.tie.heard).toNat ∧ s.role = Role.active) ∧
    (∃ (s : State), s.tieOn = true ∧ s.tie.faulted = false ∧ 3000 ≤ (s.cyc - s.tie.heard).toNat ∧ s.role = Role.standby ∧ s.holdIn = true) ∧
    (∃ (s : State), s.tieOn = true ∧ s.tie.faulted = false ∧ 3000 ≤ (s.cyc - s.tie.heard).toNat ∧ s.role = Role.standby ∧ s.holdIn = false ∧ s.tie.fail =
      none) ∧
    (∃ (s : State), s.tieOn = true ∧ s.tie.faulted = false ∧ 3000 ≤ (s.cyc - s.tie.heard).toNat ∧ s.role ≠ Role.active ∧ s.role ≠ Role.standby ∧ s.role ≠
      Role.swapping) ∧
    (∃ (s : State), (s.cyc - s.tie.heard).toNat < 3000) ∧
    (∃ (s : State), s.hears = true ∧ s.role = Role.standby ∧ s.tie.fail = none) ∧
    (∃ (s : State), s.hears = true ∧ s.role = Role.active) ∧
    (∃ (s : State), s.hears = true ∧ s.role ≠ Role.active ∧ s.role ≠ Role.standby ∧ s.role ≠ Role.swapping) :=
  ⟨⟨pair 3 [(F.TIE_STATUS_HOLD_IN, 1)] {}, true, by decide +kernel⟩,
   ⟨put up [(F.TIE_CFG_EN, 0), (F.TIE_STATUS_HOLD_IN, 0)], true, by decide +kernel⟩,
   ⟨pair 1 [(F.TIE_STATUS_HOLD_IN, 0), (F.TIE_STATUS_STRAP, 0)] { wait := some 0 }, by decide +kernel⟩,
   ⟨pair 1 [(F.TIE_STATUS_HOLD_IN, 0), (F.TIE_STATUS_STRAP, 1)] { wait := some 0 }, by decide +kernel⟩,
   ⟨pair 2 [(F.TIE_STATUS_HOLD_IN, 0), (F.TIE_STATUS_HOLD_OUT, 1)] {}, by decide +kernel⟩,
   ⟨pair 3 [(F.TIE_STATUS_HOLD_IN, 0), (F.TIE_STATUS_HOLD_OUT, 0)] {}, by decide +kernel⟩,
   ⟨pair 1 [(F.TIE_STATUS_HOLD_IN, 1)] { wait := some 0 }, 0, by decide +kernel⟩,
   ⟨pair 5 [(F.TIE_STATUS_HOLD_IN, 1)] {}, by decide +kernel⟩,
   ⟨pair 1 [(F.TIE_STATUS_HOLD_IN, 1), (F.TIE_STATUS_STRAP, 0), (F.TIE_STATUS_HOLD_OUT, 0)] { checked := true }, by decide +kernel⟩,
   ⟨pair 2 [(F.TIE_STATUS_HOLD_OUT, 1)] {}, by decide +kernel⟩,
   ⟨pair 3 [(F.TIE_STATUS_HOLD_OUT, 0)] {}, by decide +kernel⟩,
   ⟨pair 3 [] {}, [{ sa := 0, rx := false, pn := 1 }], { sa := 0, rx := false, pn := 1 }, by decide +kernel⟩,
   ⟨pair 3 [] {}, [], by decide +kernel⟩,
   ⟨pair 4 [] { checked := true }, 7, by decide +kernel⟩,
   ⟨pair 2 [] {}, 1, by decide +kernel⟩,
   ⟨pair 2 [] { heard := 999999997000 }, by decide +kernel⟩,
   ⟨pair 3 [(F.TIE_STATUS_HOLD_IN, 1)] { heard := 999999997000 }, by decide +kernel⟩,
   ⟨pair 3 [(F.TIE_STATUS_HOLD_IN, 0)] { heard := 999999997000 }, by decide +kernel⟩,
   ⟨pair 1 [] { heard := 999999997000 }, by decide +kernel⟩,
   ⟨pair 2 [] { heard := 999999997001 }, by decide +kernel⟩,
   ⟨pair 3 [] {}, by decide +kernel⟩,
   ⟨pair 2 [] {}, by decide +kernel⟩,
   ⟨pair 1 [] {}, by decide +kernel⟩⟩

/-- The hypotheses of the clauses of TieTakeover, each met. -/
theorem TieTakeover_met :
    (∃ (s : State) (d : Dec) (f : TieFail), (List.find? (fun (d : Dec) ↦ s.passed d.start d.delay) s.env.decs = some d) ∧ d.scope = 0 ∧ s.tie.fail = some
      f) ∧
    (∃ (s : State) (d : Dec) (f : TieFail), (List.find? (fun (d : Dec) ↦ s.passed d.start d.delay) s.env.decs = some d) ∧ d.scope = 0 ∧ s.tie.fail = some
      f) ∧
    (∃ (s : State) (f : TieFail), s.tie.fail = some f ∧ s.role ≠ Role.taking ∧ ((s.env.decs.any fun (d : Dec) ↦ d.scope == 0) = false) ∧ 15000 ≤ (s.cyc -
      s.tie.decided).toNat ∧ ((f.cause = 1 → 3000 ≤ (s.cyc - s.tie.heard).toNat) ∧ (f.cause = 3 → s.holdIn = false))) ∧
    (∃ (s : State) (f : TieFail), s.tie.fail = some f ∧ s.role ≠ Role.taking ∧ ((s.env.decs.any fun (d : Dec) ↦ d.scope == 0) = false) ∧ 15000 ≤ (s.cyc -
      s.tie.decided).toNat ∧ (¬((f.cause = 1 → 3000 ≤ (s.cyc - s.tie.heard).toNat) ∧ (f.cause = 3 → s.holdIn = false)))) ∧
    (∃ (s : State), s.tie.fail = none) ∧
    (∃ (s : State) (t0 : BitVec 64), s.tie.wait = some t0 ∧ s.holdOut = true ∧ s.holdIn = false ∧ 150 ≤ (s.cyc - t0).toNat ∧ s.role = Role.forming) ∧
    (∃ (s : State) (t0 : BitVec 64), s.tie.wait = some t0 ∧ s.holdOut = true ∧ s.holdIn = false ∧ 150 ≤ (s.cyc - t0).toNat ∧ s.role = Role.activeIso) ∧
    (∃ (s : State) (t0 : BitVec 64), s.tie.wait = some t0 ∧ s.holdOut = true ∧ s.holdIn = false ∧ 150 ≤ (s.cyc - t0).toNat ∧ (s.role = Role.taking ∨
      s.role = Role.swapping)) ∧
    (∃ (s : State) (t0 : BitVec 64), s.tie.wait = some t0 ∧ (s.cyc - t0).toNat < 150) ∧
    (∃ (s : State) (f : TieFail), s.tie.fail = some f ∧ s.role = Role.taking ∧ s.holdOut = true ∧ s.tie.wait = none ∧ s.holdIn = false) ∧
    (∃ (s : State), (s.tie.fail = none ∨ s.role ≠ Role.taking)) ∧
    (∃ (s : State), (s.tie.faulted = false ∨ s.holdOut = true ∨ s.flag F.TIE_CFG_RESTART_EN = false)) ∧
    (∃ (s : State), (∀ (t0 : BitVec 64), s.tie.restarted = some t0 → 900000000000 ≤ (s.cyc - t0).toNat) ∧ s.tie.faulted = true ∧ s.holdOut = false ∧
      s.flag F.TIE_CFG_RESTART_EN = true ∧ s.env.held = false ∧ s.env.pll = true) ∧
    (∃ (s : State) (t0 : BitVec 64), s.tie.faulted = true ∧ s.holdOut = false ∧ s.flag F.TIE_CFG_RESTART_EN = true ∧ s.tie.restarted = some t0 ∧ (s.cyc -
      t0).toNat < 900000000000 ∧ s.role ≠ Role.forming) :=
  ⟨⟨{ pair 3 [] { fail := some (failed 1) } with env := { up.env with decs := [dec 0] } }, dec 0, failed 1, by decide +kernel⟩,
   ⟨{ pair 3 [] { fail := some (failed 1) } with env := { up.env with decs := [dec 0] } }, dec 0, failed 1, by decide +kernel⟩,
   ⟨pair 3 [(F.TIE_STATUS_HOLD_IN, 0)] { fail := some (failed 1), decided := 999999985000, heard := 999999997000 }, failed 1, by decide +kernel⟩,
   ⟨pair 3 [(F.TIE_STATUS_HOLD_IN, 1)] { fail := some (failed 3), decided := 999999985000 }, failed 3, by decide +kernel⟩,
   ⟨pair 3 [] {}, by decide +kernel⟩,
   ⟨pair 1 [(F.TIE_STATUS_HOLD_OUT, 1), (F.TIE_STATUS_HOLD_IN, 0)] { wait := some 999999999850 }, 999999999850, by decide +kernel⟩,
   ⟨pair 4 [(F.TIE_STATUS_HOLD_OUT, 1), (F.TIE_STATUS_HOLD_IN, 0)] { wait := some 999999999850 }, 999999999850, by decide +kernel⟩,
   ⟨pair 7 [(F.TIE_STATUS_HOLD_OUT, 1), (F.TIE_STATUS_HOLD_IN, 0)] { wait := some 999999999850 }, 999999999850, by decide +kernel⟩,
   ⟨pair 1 [] { wait := some 999999999851 }, 999999999851, by decide +kernel⟩,
   ⟨pair 6 [(F.TIE_STATUS_HOLD_OUT, 1), (F.TIE_STATUS_HOLD_IN, 0)] { fail := some (failed 1) }, failed 1, by decide +kernel⟩,
   ⟨pair 6 [] {}, by decide +kernel⟩,
   ⟨pair 3 [] {}, by decide +kernel⟩,
   ⟨pair 1 [(F.TIE_STATUS_HOLD_OUT, 0), (F.TIE_CFG_RESTART_EN, 1)] { faulted := true, restarted := some 100000000000 }, of_some 100000000000 (by
      decide +kernel), by decide +kernel⟩,
   ⟨pair 3 [(F.TIE_STATUS_HOLD_OUT, 0), (F.TIE_CFG_RESTART_EN, 1)] { faulted := true, restarted := some 100000000001 }, 100000000001, by decide +kernel⟩⟩

/-- The hypotheses of the clauses of TieComparison, each met. -/
theorem TieComparison_met :
    (∃ (s : State) (n : Fin 64) (c : Fin 8) (num : BitVec 32), s.hears = true ∧ (List.find? (fun (b : TieBlk) ↦ b.num == num.toNat) (s.tieSeq (8 * n.val +
      c.val)).own = none)) ∧
    (∃ (s : State) (n : Fin 64) (c : Fin 8) (num : BitVec 32) (digest : BitVec 64) (b : TieBlk), s.hears = true ∧ (List.find? (fun (b : TieBlk) ↦ b.num ==
      num.toNat) (s.tieSeq (8 * n.val + c.val)).own = some b) ∧ (List.find? (fun (d : Nat × BitVec 64) ↦ d.fst == num.toNat) (s.tieSeq (8 * n.val +
      c.val)).theirs = none) ∧ b.digest = digest) ∧
    (∃ (s : State) (n : Fin 64) (c : Fin 8) (num : BitVec 32) (digest : BitVec 64) (b : TieBlk), s.hears = true ∧ (List.find? (fun (b : TieBlk) ↦ b.num ==
      num.toNat) (s.tieSeq (8 * n.val + c.val)).own = some b) ∧ (List.find? (fun (d : Nat × BitVec 64) ↦ d.fst == num.toNat) (s.tieSeq (8 * n.val +
      c.val)).theirs = none) ∧ b.digest ≠ digest) ∧
    (∃ (s : State) (n : Fin 64) (c : Fin 8) (b : TieBlk) (rest : List TieBlk), (s.tieSeq (8 * n.val + c.val)).own = b :: rest ∧ 1500000 ≤ (s.cyc -
      b.closed).toNat) ∧
    (∃ (s : State) (n : Fin 64) (c : Fin 8), (∀ (b : TieBlk) (rest : List TieBlk), (s.tieSeq (8 * n.val + c.val)).own = b :: rest → (s.cyc -
      b.closed).toNat < 1500000)) ∧
    (∃ (s : State), s.hears = true) ∧
    (∃ (s : State), s.hears = true) ∧
    (∃ (s : State) (T : BitVec 64), s.tie.all = some T ∧ s.until_ T ≤ 0) ∧
    (∃ (s : State) (T : BitVec 64), s.tie.all = some T ∧ 0 < s.until_ T) ∧
    (∃ (s : State), s.tie.all = none ∧ (tabWf (fun _ ↦ { }) s.tie.seqs = true)) ∧
    (∃ (s : State), s.role = Role.active) ∧
    (∃ (s : State), s.role ≠ Role.active) ∧
    (∃ (s : State), s.tie.check ≠ none ∧ s.tie.own = none) ∧
    (∃ (s : State), (∀ (t0 : BitVec 64), s.tie.checkAt = some t0 → 15000000 ≤ (s.cyc - t0).toNat) ∧ s.hears = true ∧ s.tie.check = none) ∧
    (∃ (s : State), s.hears = true ∧ s.tie.check ≠ none ∧ s.tie.own = none) ∧
    (∃ (s : State) (o : Bool), s.hears = true ∧ s.tie.check ≠ none ∧ s.tie.own = some o) ∧
    (∃ (s : State), s.hears = true ∧ s.tie.check = none) :=
  ⟨⟨blocks [] [], 63, 7, 1, by decide +kernel⟩,
   ⟨blocks [blk 0] [], 63, 7, 1, 5, blk 0, by decide +kernel⟩,
   ⟨blocks [blk 0] [], 63, 7, 1, 6, blk 0, by decide +kernel⟩,
   ⟨blocks [blk 999998500000] [], 63, 7, blk 999998500000, [], by decide +kernel⟩,
   ⟨blocks [] [], 63, 7, fun _ _ h => nomatch h⟩,
   ⟨pair 3 [] {}, by decide +kernel⟩,
   ⟨pair 3 [] {}, by decide +kernel⟩,
   ⟨pair 3 [] { all := some 0 }, 0, by decide +kernel⟩,
   ⟨pair 3 [] { all := some 1 }, 1, by decide +kernel⟩,
   ⟨blocks [blk 0] [], by decide +kernel⟩,
   ⟨pair 2 [] {}, by decide +kernel⟩,
   ⟨pair 3 [] {}, by decide +kernel⟩,
   ⟨pair 3 [] { check := some 0 }, by decide +kernel⟩,
   ⟨pair 3 [] { checkAt := some 999985000000 }, of_some 999985000000 (by decide +kernel), by decide +kernel⟩,
   ⟨pair 3 [] { check := some 0 }, by decide +kernel⟩,
   ⟨pair 3 [] { check := some 0, own := some true }, true, by decide +kernel⟩,
   ⟨pair 3 [] {}, by decide +kernel⟩⟩

/-- The hypotheses of the clauses of PlannedSwaps, each met. -/
theorem PlannedSwaps_met :
    (∃ (s : State), swapAccepted s) ∧
    (∃ (s : State), (¬swapAccepted s) ∧ s.role ≠ Role.swapping) ∧
    (∃ (s : State), s.role = Role.swapping) ∧
    (∃ (s : State), swapAccepted s ∧ 0 < s.fld F.TIE_CFG_SWAP_DAYS ∧ 1440 * s.fld F.TIE_CFG_SWAP_DAYS ≤ s.opMin - s.tie.swapMin) ∧
    (∃ (s : State), (s.fld F.TIE_CFG_SWAP_DAYS = 0 ∨ s.opMin - s.tie.swapMin < 1440 * s.fld F.TIE_CFG_SWAP_DAYS ∨ ¬swapAccepted s)) ∧
    (∃ (s : State), s.hears = true ∧ s.role = Role.standby) ∧
    (∃ (s : State), s.hears = true ∧ s.role ≠ Role.standby) ∧
    (∃ (s : State) (x : BitVec 64), s.role = Role.swapping ∧ s.tie.swap = some x ∧ s.until_ x ≤ 0 ∧ s.tie.swapActive = true ∧ s.holdOut = true) ∧
    (∃ (s : State) (x : BitVec 64), s.role = Role.swapping ∧ s.tie.swap = some x ∧ s.until_ x ≤ 0 ∧ s.tie.swapActive = false ∧ s.holdOut = false ∧
      s.holdIn = false) ∧
    (∃ (s : State) (x : BitVec 64), s.role = Role.swapping ∧ s.tie.swap = some x ∧ 0 < s.until_ x) ∧
    (∃ (s : State) (x : BitVec 64), s.role = Role.swapping ∧ s.tie.swap = some x ∧ s.until_ x ≤ -1000 ∧ (if s.tie.swapActive = true then s.holdOut = false
      ∧ s.holdIn = true else s.holdOut = true ∧ s.tie.wait = none)) ∧
    (∃ (s : State) (x : BitVec 64), s.role = Role.swapping ∧ s.tie.swap = some x ∧ -1000 < s.until_ x) :=
  ⟨⟨swappable 0, by unfold swapAccepted; decide +kernel⟩,
   ⟨pair 3 [] {}, by unfold swapAccepted; decide +kernel, by decide +kernel⟩,
   ⟨pair 7 [] {}, by decide +kernel⟩,
   ⟨{ swappable 1 with opMin := 1440 }, by unfold swapAccepted; decide +kernel, by decide +kernel⟩,
   ⟨swappable 1, .inr (.inl (by decide +kernel))⟩,
   ⟨pair 3 [] {}, by decide +kernel⟩,
   ⟨pair 1 [] {}, by decide +kernel⟩,
   ⟨swapping true [(F.TIE_STATUS_HOLD_OUT, 1)], 0, by decide +kernel⟩,
   ⟨swapping false [(F.TIE_STATUS_HOLD_OUT, 0), (F.TIE_STATUS_HOLD_IN, 0)], 0, by decide +kernel⟩,
   ⟨pair 7 [] { swap := some 1 }, 1, by decide +kernel⟩,
   ⟨pair 7 [(F.TIE_STATUS_HOLD_OUT, 0), (F.TIE_STATUS_HOLD_IN, 1)] { swap := some (BitVec.ofInt 64 (-1000)), swapActive := true }, BitVec.ofInt 64
      (-1000), by decide +kernel⟩,
   ⟨pair 7 [] { swap := some (BitVec.ofInt 64 (-999)) }, BitVec.ofInt 64 (-999), by decide +kernel⟩⟩

/-- The hypotheses of the clauses of PortsComeUpAndGoDown, each met. -/
theorem PortsComeUpAndGoDown_met :
    (∃ (s : State) (i : Fin 64), s.rxAwake ↑i = false) ∧
    (∃ (s : State) (i : Fin 64), s.rxAwake ↑i = true) ∧
    (∃ (s : State) (n : Fin 64), s.portState ↑n = 2) ∧
    (∃ (s : State) (n : Fin 64), s.portState ↑n ≠ 2) ∧
    (∃ (s : State) (n : Fin 64), s.portState ↑n = 2 ∧ 750000000 ≤ (s.cyc - tabGet 0 s.prt.since ↑n).toNat) ∧
    (∃ (s : State) (n : Fin 64), (s.portState ↑n ≠ 2 ∨ (s.cyc - tabGet 0 s.prt.since ↑n).toNat < 750000000)) ∧
    (∃ (s : State) (n : Fin 64), s.portState ↑n = 3) ∧
    (∃ (s : State) (n : Fin 64), s.portState ↑n ≠ 3) ∧
    (∃ (s : State) (n : Fin 64), s.portState ↑n = 3 ∧ 150000000 ≤ (s.cyc - tabGet 0 s.prt.since ↑n).toNat) ∧
    (∃ (s : State) (n : Fin 64), (s.portState ↑n ≠ 3 ∨ (s.cyc - tabGet 0 s.prt.since ↑n).toNat < 150000000)) ∧
    (∃ (s : State) (n : Fin 64), s.portState ↑n = 4) ∧
    (∃ (s : State) (n : Fin 64), s.portState ↑n ≠ 4) ∧
    (∃ (s : State) (n : Fin 64), s.portState ↑n = 4) ∧
    (∃ (s : State) (n : Fin 64), s.portState ↑n ≠ 4) ∧
    (∃ (s : State) (n : Fin 64), 1 ≤ s.portState ↑n ∧ s.portState ↑n ≤ 4) ∧
    (∃ (s : State) (n : Fin 64), (s.portState ↑n = 0 ∨ 5 ≤ s.portState ↑n)) ∧
    (∃ (w : World), w.isSecure = false) :=
  ⟨⟨up, 63, by decide +kernel⟩,
   ⟨put up [(F.SRD_LANE_W2_RX_AWAKE 63, 1)], 63, by decide +kernel⟩,
   ⟨port63 2, 63, by decide +kernel⟩,
   ⟨port63 3, 63, by decide +kernel⟩,
   ⟨port63 2, 63, by decide +kernel⟩,
   ⟨soon (port63 2), 63, by decide +kernel⟩,
   ⟨port63 3, 63, by decide +kernel⟩,
   ⟨port63 4, 63, by decide +kernel⟩,
   ⟨port63 3, 63, by decide +kernel⟩,
   ⟨soon (port63 3), 63, by decide +kernel⟩,
   ⟨port63 4, 63, by decide +kernel⟩,
   ⟨port63 2, 63, by decide +kernel⟩,
   ⟨port63 4, 63, by decide +kernel⟩,
   ⟨port63 3, 63, by decide +kernel⟩,
   ⟨port63 4, 63, by decide +kernel⟩,
   ⟨port63 5, 63, by decide +kernel⟩,
   ⟨.nonSecure, by decide +kernel⟩⟩

/-- The hypotheses of the clauses of LanesSleepAndLoop, each met. -/
theorem LanesSleepAndLoop_met :
    (∃ (s : State) (i : Fin 64), s.prt.refGone.getLsbD (↑i / 16) = true) ∧
    (∃ (s : State) (i : Fin 64), s.prt.refGone.getLsbD (↑i / 16) = false ∧ s.flag (F.SRD_LANE_W1_RX_SLEEP ↑i) = false ∧ s.rxAwake ↑i = false) ∧
    (∃ (s : State) (i : Fin 64), s.prt.refGone.getLsbD (↑i / 16) = false ∧ (s.flag (F.SRD_LANE_W1_RX_SLEEP ↑i) = true ∨ s.rxAwake ↑i = true)) ∧
    (∃ (s : State) (i : Fin 64), s.prt.refGone.getLsbD (↑i / 16) = false ∧ s.flag (F.SRD_LANE_W1_TX_SLEEP ↑i) = false ∧ s.txAwake ↑i = false) ∧
    (∃ (s : State) (i : Fin 64), s.prt.refGone.getLsbD (↑i / 16) = false ∧ (s.flag (F.SRD_LANE_W1_TX_SLEEP ↑i) = true ∨ s.txAwake ↑i = true)) ∧
    (∃ (w : World) (i : Fin 64) (v : Word) (c : Instr), c ∈ [Instr.laneSleepWrite w i v, Instr.testFieldWrite w i false v]) :=
  ⟨⟨{ up with prt := { up.prt with refGone := 8 } }, 63, by decide +kernel⟩,
   ⟨put up [(F.SRD_LANE_W1_RX_SLEEP 63, 0), (F.SRD_LANE_W2_RX_AWAKE 63, 0)], 63, by decide +kernel⟩,
   ⟨put up [(F.SRD_LANE_W1_RX_SLEEP 63, 1)], 63, by decide +kernel⟩,
   ⟨put up [(F.SRD_LANE_W1_TX_SLEEP 63, 0), (F.SRD_LANE_W2_TX_AWAKE 63, 0)], 63, by decide +kernel⟩,
   ⟨put up [(F.SRD_LANE_W1_TX_SLEEP 63, 1)], 63, by decide +kernel⟩,
   ⟨.nonSecure, 63, 0, .testFieldWrite .nonSecure 63 false 0, by decide +kernel⟩⟩

/-- The hypotheses of the clauses of PatternTestsAndFec, each met. -/
theorem PatternTestsAndFec_met :
    (∃ (s : State) (i : Fin 64), 1536000 ≤ (s.cyc - tabGet 0 s.prt.qualAt ↑i).toNat) ∧
    (∃ (s : State) (i : Fin 64), (s.cyc - tabGet 0 s.prt.qualAt ↑i).toNat < 1536000) ∧
    (∃ (s : State) (i : Fin 64), s.portState ↑i = 4 ∧ 1536 ≤ (s.cyc - tabGet 0 s.prt.fecAt ↑i).toNat) ∧
    (∃ (s : State) (i : Fin 64), (s.portState ↑i ≠ 4 ∨ (s.cyc - tabGet 0 s.prt.fecAt ↑i).toNat < 1536)) :=
  ⟨⟨{ up with cyc := 1536000 }, 63, by decide +kernel⟩,
   ⟨{ up with cyc := 1535999 }, 63, by decide +kernel⟩,
   ⟨{ port63 4 with cyc := 1536 }, 63, by decide +kernel⟩,
   ⟨{ port63 4 with cyc := 1535 }, 63, by decide +kernel⟩⟩

/-- The hypotheses of the clauses of OneTimeMemoryOnlyGains, each met. -/
theorem OneTimeMemoryOnlyGains_met :
    (∃ (s t : State), s.otp.Ok ∧ step s = Host.Outcome.next t) ∧
    (∃ (s t : State), s.otp.Ok ∧ step s = Host.Outcome.next t) :=
  ⟨⟨State.reset, State.reset.tick, ⟨by decide, by decide, by decide⟩, rfl⟩,
   ⟨State.reset, State.reset.tick, ⟨by decide, by decide, by decide⟩, rfl⟩⟩

/-! ## Ill-formed terms are refused -/

/-- RULE_READ is OP 1 of its command register. -/
theorem test_wf_accepts_op : (Instr.ruleRead (.reg .secure (word [(F.TRV_RULE_CMD_OP, 1)]))).wf = true := by decide +kernel

theorem test_wf_refuses_another_op : (Instr.ruleRead (.reg .secure (word [(F.TRV_RULE_CMD_OP, 2)]))).wf = false := by decide +kernel

theorem test_wf_refuses_op_zero : (Instr.slotAttr (.reg .secure 0)).wf = false := by decide +kernel

theorem test_wf_accepts_nop : (Instr.cmdNop (desc [])).wf = true := by decide +kernel

/-- A payload of 4 GiB or more does not fit LEN. -/
theorem test_wf_refuses_long_payload (p : List Byte) (h : 2 ^ 32 ≤ p.length) : (Instr.cmdNop (desc p)).wf = false :=
  decide_eq_false (Nat.not_lt.mpr h)

theorem test_wf_refuses_long_ring_payload (p : List Byte) (h : 2 ^ 32 ≤ p.length) : (Instr.ruleRead (.ring (desc p))).wf = false := by
  have h : (desc p).wf = false := test_wf_refuses_long_payload p h
  show ((desc p).wf && true) = false
  rw [h]
  rfl

theorem test_wf_refuses_long_image (d : Desc) (p : List Byte) (agree : Bool) (h : 2 ^ 32 ≤ p.length) :
    (Instr.parcelRestore d p agree).wf = false := by
  have h : decide (p.length < 2 ^ 32) = false := decide_eq_false (Nat.not_lt.mpr h)
  show (d.wf && decide (p.length < 2 ^ 32)) = false
  rw [h, Bool.and_false]

theorem test_wf_refuses_runt_frame : (Instr.controlFrameOriginate 0 0 (zeros 63)).wf = false := by decide +kernel

theorem test_wf_accepts_least_frame : (Instr.controlFrameOriginate 0 0 (zeros 64)).wf = true := by decide +kernel

theorem test_wf_refuses_short_tod : (Instr.todMessage (zeros 15)).wf = false := by decide +kernel

theorem test_wf_refuses_temper_crossing : (Instr.temperWrite .monitor 0 63 (zeros 2) .clean).wf = false := by decide +kernel

theorem test_wf_refuses_empty_temper_write : (Instr.temperWrite .monitor 0 0 [] .clean).wf = false := by decide +kernel

theorem test_wf_refuses_short_kcv : (Instr.tieHello 0 0 false (zeros 48) (zeros 48) (zeros 7)).wf = false := by decide +kernel

theorem test_wf_refuses_nine_marks :
    (Instr.tieHeartbeat 0 3 true false false (List.replicate 9 { sa := 0, rx := false, pn := 1 })).wf = false := by decide +kernel

theorem test_wf_refuses_33_marks :
    (Instr.tieBlock 0 0 0 0 0 (List.replicate 33 { sa := 0, rx := false, pn := 1 })).wf = false := by decide +kernel

theorem test_wf_refuses_long_blob :
    (Instr.tieMirror 0 { opcode := 0, idx := 0, arg := 0, payload := [], blob := zeros 2049, agree := true }).wf = false := by decide +kernel

theorem test_wf_refuses_short_context : (Instr.tieSnapshot 0 [.assoc 0 (zeros 63) []] true).wf = false := by decide +kernel

theorem test_wf_refuses_long_slot_blob : (Instr.tieSnapshot 0 [.slot 0 0 (zeros 2049)] true).wf = false := by decide +kernel

/-! ## Steps -/

/-- The table gives its rows no bits. -/
theorem test_no_word_spells_a_command : decodeTableWord 32 0 = none := by decide +kernel

/-- R13: an access that is not aligned is counted (GLB_BADACC_CNT). -/
theorem test_unaligned_access_counted : (match step { up with pending := [.unalignedAccess 0 false] } with
    | .next t => t.count C.GLB_BADACC_CNT | _ => 0) = 1 := by decide +kernel

/-- R11: one core cycle passes. -/
theorem test_empty_queue_ticks : (match step up with | .next t => t.cyc | _ => 0) = 1 := by decide +kernel


end Sys2Proof.Tests
end

section
/-! The words of registers, field by field (spec/00_scope.md, R14 to R16): the tables give every register fields of its word that share no
bit, so a word that is written field by field shows in each field what that field took. -/

namespace Sys2Proof.Machine

/-! ## The tables -/

/-- Every field lies within the word and shares no bit with another, and every copy of the register stands at a whole word (R12). -/
abbrev RegD.Wf (d : RegD) : Prop :=
  (∀ x ∈ d.fields, x.lo ≤ x.hi ∧ x.hi < 32) ∧ (d.fields.Pairwise fun x y => x.hi < y.lo ∨ y.hi < x.lo) ∧
    d.base % 4 = 0 ∧ d.stride % 4 = 0

theorem regsOf_wf (a : Nat) : ∀ d ∈ regsOf a, d.Wf := by
  unfold regsOf
  split <;> decide +kernel

theorem mem_regsOf_of_regDesc {a : Nat} {d : RegD} (h : regDesc a = some d) : d ∈ regsOf a :=
  List.mem_of_find?_eq_some h

theorem wf_of_regDesc {a : Nat} {d : RegD} (h : regDesc a = some d) : d.Wf :=
  regsOf_wf a d (mem_regsOf_of_regDesc h)

/-- A key that a table describes is aligned (R12, R13). -/
theorem aligned_of_regDesc {a : Nat} {d : RegD} (h : regDesc a = some d) : a % 4 = 0 := by
  obtain ⟨-, -, hbase, hstride⟩ := wf_of_regDesc h
  have hcov : d.covers a = true := by simpa using List.find?_some h
  simp only [RegD.covers, Bool.and_eq_true, decide_eq_true_eq] at hcov
  obtain ⟨⟨hle, hmod⟩, -⟩ := hcov
  have h4 : 4 ∣ a - d.base := Nat.dvd_trans (Nat.dvd_of_mod_eq_zero hstride) (Nat.dvd_of_mod_eq_zero hmod)
  omega

theorem apart_of_pairwise {l : List FieldD} (hp : l.Pairwise fun x y => x.hi < y.lo ∨ y.hi < x.lo) {x y : FieldD}
    (hx : x ∈ l) (hy : y ∈ l) (hne : x ≠ y) : x.hi < y.lo ∨ y.hi < x.lo := by
  induction hp with
  | nil => cases hx
  | cons hz _ ih =>
    rcases List.mem_cons.mp hx with rfl | hx'
    · exact hz y ((List.mem_cons.mp hy).resolve_left fun h => hne h.symm)
    · rcases List.mem_cons.mp hy with rfl | hy'
      · exact (hz x hx').symm
      · exact ih hx' hy'

/-- The lowest bit tells the fields of a register apart. -/
theorem RegD.Wf.apart {d : RegD} (hw : d.Wf) {x y : FieldD} (hx : x ∈ d.fields) (hy : y ∈ d.fields) (hne : x.lo ≠ y.lo) :
    x.hi < y.lo ∨ y.hi < x.lo :=
  apart_of_pairwise hw.2.1 hx hy fun h => hne (congrArg FieldD.lo h)

theorem FieldD.lo_add_width {x : FieldD} (h : x.lo ≤ x.hi) : x.lo + x.width = x.hi + 1 := by
  rw [FieldD.width]
  omega

/-! ## A word filled field by field -/

/-- The word `w` with every field of `l` replaced by the value `g` gives it: what a reset, a write and a read make of a word. -/
def putFields (g : FieldD → Nat) (l : List FieldD) (w : Word) : Word :=
  l.foldl (fun r x => putBits r x.lo x.width (g x)) w

theorem RegD.writeWord_eq (d : RegD) (secure : Bool) (old v : Word) : d.writeWord secure old v =
    putFields (fun x => x.written secure (bitsOf old x.lo x.width) (bitsOf v x.lo x.width)) d.fields old := rfl

theorem RegD.readWord_eq (d : RegD) (secure : Bool) (w : Word) : d.readWord secure w =
    putFields (fun x => x.shown secure (bitsOf w x.lo x.width)) d.fields 0 := rfl

/-- Bits outside the fields stay. -/
theorem bitsOf_putFields_outside (g : FieldD → Nat) (l : List FieldD) (w : Word) {lo width : Nat}
    (hl : ∀ x ∈ l, x.lo ≤ x.hi ∧ x.hi < 32) (hd : ∀ x ∈ l, x.hi < lo ∨ lo + width ≤ x.lo) :
    bitsOf (putFields g l w) lo width = bitsOf w lo width := by
  induction l generalizing w with
  | nil => rfl
  | cons y l ih =>
    obtain ⟨⟨hy, hy32⟩, hl⟩ := List.forall_mem_cons.mp hl
    obtain ⟨hyd, hd⟩ := List.forall_mem_cons.mp hd
    have he := FieldD.lo_add_width hy
    exact (ih _ hl hd).trans (bitsOf_putBits_disj _ _ _ _ _ _ (by omega) (by omega))

/-- A field takes the value given it, in its width. -/
theorem bitsOf_putFields_field (g : FieldD → Nat) (l : List FieldD) (w : Word) {x : FieldD} (hx : x ∈ l)
    (hl : ∀ x ∈ l, x.lo ≤ x.hi ∧ x.hi < 32) (hp : l.Pairwise fun x y => x.hi < y.lo ∨ y.hi < x.lo) :
    bitsOf (putFields g l w) x.lo x.width = g x % 2 ^ x.width := by
  induction l generalizing w with
  | nil => cases hx
  | cons y l ih =>
    obtain ⟨hyb, hl'⟩ := List.forall_mem_cons.mp hl
    obtain ⟨hyp, hp⟩ := List.pairwise_cons.mp hp
    have he := FieldD.lo_add_width hyb.1
    rcases List.mem_cons.mp hx with rfl | hx
    · have hout := bitsOf_putFields_outside g l (putBits w x.lo x.width (g x)) (lo := x.lo) (width := x.width) hl'
        fun z hz => (hyp z hz).symm.imp_right fun h => by omega
      exact hout.trans (bitsOf_putBits_same _ _ _ _ (by omega))
    · exact ih _ hx hl' hp

/-! ## What a field takes and shows -/

/-- Clearing the bits of `old` where `v` holds a 1 takes away those they share. -/
theorem land_complement {width old v : Nat} (ho : old < 2 ^ width) (hv : v < 2 ^ width) :
    Nat.land old (2 ^ width - 1 - v) = old - (old &&& v) := by
  have hsum : ∀ x y : BitVec width, (x &&& ~~~y) + (x &&& y) = x := by
    intro x y
    have hdisj : (x &&& ~~~y) &&& (x &&& y) = 0#width := by
      ext i hi
      cases hy : y[i] <;> simp [hy]
    rw [BitVec.add_eq_or_of_and_eq_zero _ _ hdisj]
    ext i hi
    cases hy : y[i] <;> simp [hy]
  have hx := BitVec.eq_sub_iff_add_eq.mpr (hsum (BitVec.ofNat width old) (BitVec.ofNat width v))
  have hle : old &&& v ≤ old := Nat.and_le_left
  have hn := congrArg BitVec.toNat hx
  simp only [BitVec.toNat_and, BitVec.toNat_not, BitVec.toNat_ofNat, BitVec.toNat_sub, Nat.mod_eq_of_lt ho, Nat.mod_eq_of_lt hv] at hn
  have hm : 2 ^ width - (old &&& v) + old = old - (old &&& v) + 2 ^ width := by omega
  rw [hm, Nat.add_mod_right, Nat.mod_eq_of_lt (by omega)] at hn
  exact hn

theorem bitsOf_lt (w : Word) (lo width : Nat) : bitsOf w lo width < 2 ^ width := Nat.mod_lt _ (Nat.two_pow_pos width)

/-- What a field holds after a write, by its access type (R14, R15). -/
theorem FieldD.written_mod (x : FieldD) (secure : Bool) (old v : Word) :
    let o := bitsOf old x.lo x.width
    let n := bitsOf v x.lo x.width
    x.written secure o n % 2 ^ x.width = (if x.sec && !secure then o else
      match x.acc with
      | .ro => o
      | .rw | .wo => n
      | .rw1c => o - (o &&& n)
      | .w1s => o ||| n) := by
  intro o n
  have ho : o < 2 ^ x.width := bitsOf_lt _ _ _
  have hn : n < 2 ^ x.width := bitsOf_lt _ _ _
  unfold FieldD.written
  by_cases hs : (x.sec && !secure) = true
  · rw [if_pos hs, if_pos hs, Nat.mod_eq_of_lt ho]
  · rw [if_neg hs, if_neg hs]
    cases x.acc with
    | ro => exact Nat.mod_eq_of_lt ho
    | rw => exact Nat.mod_eq_of_lt hn
    | wo => exact Nat.mod_eq_of_lt hn
    | w1s => exact Nat.mod_eq_of_lt (Nat.or_lt_two_pow ho hn)
    | rw1c =>
      change Nat.land o (2 ^ x.width - 1 - n % 2 ^ x.width) % 2 ^ x.width = o - (o &&& n)
      rw [Nat.mod_eq_of_lt hn, land_complement ho hn, Nat.mod_eq_of_lt (by omega)]

/-- What a field shows a reader (R14, R15). -/
theorem FieldD.shown_eq (x : FieldD) (secure : Bool) (v : Nat) :
    x.shown secure v = if (x.sec && !secure) || x.acc == .wo then 0 else v := by
  unfold FieldD.shown
  by_cases hs : (x.sec && !secure) = true
  · simp [hs]
  · cases h : x.acc <;> simp [hs]

/-! ## Whole words -/

/-- A field of a word that was written takes what its access type makes of the value. -/
theorem RegD.Wf.bitsOf_writeWord {d : RegD} (hw : d.Wf) {x : FieldD} (hx : x ∈ d.fields) (secure : Bool) (old v : Word) :
    bitsOf (d.writeWord secure old v) x.lo x.width =
      x.written secure (bitsOf old x.lo x.width) (bitsOf v x.lo x.width) % 2 ^ x.width := by
  rw [RegD.writeWord_eq, bitsOf_putFields_field _ _ _ hx hw.1 hw.2.1]

/-- A field of a word as it is read (R14, R15). -/
theorem RegD.Wf.bitsOf_readWord {d : RegD} (hw : d.Wf) {x : FieldD} (hx : x ∈ d.fields) (secure : Bool) (old : Word) :
    bitsOf (d.readWord secure old) x.lo x.width =
      if (x.sec && !secure) || x.acc == .wo then 0 else bitsOf old x.lo x.width := by
  rw [RegD.readWord_eq, bitsOf_putFields_field _ _ _ hx hw.1 hw.2.1, FieldD.shown_eq]
  split
  · exact Nat.zero_mod _
  · exact Nat.mod_eq_of_lt (bitsOf_lt _ _ _)

/-- A reserved bit keeps its value when the word is written, and reads zero (R16). -/
theorem RegD.Wf.bitsOf_reserved {d : RegD} (hw : d.Wf) (secure : Bool) (old v : Word) {j : Nat}
    (hj : ∀ x ∈ d.fields, j < x.lo ∨ x.hi < j) :
    bitsOf (d.writeWord secure old v) j 1 = bitsOf old j 1 ∧ bitsOf (d.readWord secure old) j 1 = 0 := by
  have hd : ∀ x ∈ d.fields, x.hi < j ∨ j + 1 ≤ x.lo := fun x hx => (hj x hx).symm
  rw [RegD.writeWord_eq, RegD.readWord_eq, bitsOf_putFields_outside _ _ _ hw.1 hd, bitsOf_putFields_outside _ _ _ hw.1 hd]
  exact ⟨rfl, by simp [bitsOf]⟩

/-! ## The obligation -/

/-- Settles O4: the tables' fields share no bit, so a word written or read field by field shows in each what its access type gives it. -/
theorem registerFieldsFollowTheirAccessType : Obligations.RegisterFieldsFollowTheirAccessType := by
  intro a d hd
  have hw := wf_of_regDesc hd
  refine ⟨fun secure old v x hx => ⟨?_, hw.bitsOf_readWord hx secure old⟩,
    fun secure old v j _ hj => hw.bitsOf_reserved secure old v hj⟩
  exact (hw.bitsOf_writeWord hx secure old v).trans (x.written_mod secure old v)

end Sys2Proof.Machine
end

section
/-! A word written to a register: what reaches its fields, what the security log records of it, and what else changes (R13 to R16, R391;
log entry 29). -/

namespace Sys2Proof.Machine

variable {ps : List Part} {ks : List Nat} {s t u : State} {w : World} {a : Nat} {v : Word} {d : RegD}

/-! ## Frames -/

theorem Only.setTie (s : State) (x : Tie) (h : .tie ∈ ps) : Only ps ks s { s with tie := x } :=
  .of_regs rfl fun p h1 h2 => by
    cases p
    case tie => exact absurd h h1
    case block b => exact absurd rfl (h2 b)
    all_goals simp [Part.same]

theorem tieMirror_only (h : .tie ∈ ps) (s : State) (opcode idx arg : Nat) (b : List Byte) :
    Only ps ks s (s.tieMirror opcode idx arg b) := by
  unfold State.tieMirror
  split
  · exact (Only.setTie _ _ h).trans (Only.setTie _ _ h)
  · exact Only.refl _ _ _

theorem mirrorReg_only (h : .tie ∈ ps) (s : State) (a : Nat) (v : Word) : Only ps ks s (s.mirrorReg a v) := by
  unfold State.mirrorReg
  split
  · exact tieMirror_only h _ _ _ _ _
  · exact Only.refl _ _ _

theorem State.mirrorReg_fbk (s : State) (a : Nat) (v : Word) : (s.mirrorReg a v).fbk = s.fbk :=
  (mirrorReg_only (ps := [.tie]) (ks := []) (by simp) s a v).part .fbk (by simp) (by simp)

theorem State.word_mirrorReg (s : State) (a : Nat) (v : Word) (b : Nat) : (s.mirrorReg a v).word b = s.word b :=
  (mirrorReg_only (ps := [.tie]) (ks := []) (by simp) s a v).word b (by simp) (by simp)

/-- Registers of the other blocks do not travel to the standby (R391). -/
theorem State.mirrorReg_eq_self (s : State) (v : Word) (h : a / 0x100000 ∉ [3, 4, 5, 7, 8]) : s.mirrorReg a v = s := by
  unfold State.mirrorReg
  exact if_neg (by simpa using h)

/-! ## Logs -/

theorem Logged.of_fbk {num scope : Nat} (h : Logged num scope t) (e : u.fbk = t.fbk) : Logged num scope u := by
  unfold Logged at h ⊢
  rwa [e]

theorem LoggedSec.of_fbk {num scope : Nat} (h : LoggedSec num scope s t) (e : u.fbk = t.fbk) : LoggedSec num scope s u := by
  unfold LoggedSec at h ⊢
  rwa [e]

theorem blockOf_bar0 (h : a / 0x100000 < 16) : blockOf a = a / 0x100000 := if_pos (by omega)

theorem secureRefused_logged (s : State) (w : World) (h : a / 0x100000 < 16) :
    LoggedSec 0x010 (a / 0x100000) s (s.secureRefused a w) := by
  have hlog := raiseSec_loggedSec s { num := 0x010, scope := a / 0x100000, arg := a % 0x100000 }
    (leBytes 1 (a / 0x100000) ++ leBytes 4 (a % 0x100000) ++ leBytes 1 (worldCode w))
  have hmod : a / 0x100000 % 2 ^ 32 = a / 0x100000 := Nat.mod_eq_of_lt (by omega)
  change LoggedSec 0x010 (a / 0x100000 % 2 ^ 32) s _ at hlog
  rwa [hmod] at hlog

/-- The record of a refused access moves the two registers of the security log, and no other below BAR2. -/
theorem word_secureRefused (s : State) (w : World) (h : a / 0x100000 < 16) (h1 : a ≠ 0xF00000) (h2 : a ≠ 0xF00004) :
    (s.secureRefused a w).word a = s.word a :=
  State.word_raiseSec _ _ _ (by rw [blockOf_bar0 h]; omega) h1 h2

/-! ## Whole words -/

theorem secureReg_eq (hd : regDesc a = some d) : secureReg a = d.hasSecure := by
  simp only [secureReg, hd]

theorem State.writeReg_eq (s : State) (w : World) (v : Word) (hd : regDesc a = some d) :
    s.writeReg w a v = s.setWord a (d.writeWord w.isSecure (s.word a) v) := by
  simp only [State.writeReg, hd]

theorem State.word_writeReg (s : State) (w : World) (v : Word) (hd : regDesc a = some d) :
    (s.writeReg w a v).word a = d.writeWord w.isSecure (s.word a) v := by
  rw [State.writeReg_eq s w v hd, State.word_setWord_same]

theorem writeReg_only (s : State) (w : World) (a : Nat) (v : Word) (h : a ∈ ks) : Only ps ks s (s.writeReg w a v) := by
  unfold State.writeReg
  split
  · exact Only.setWord _ _ _ (.inl h)
  · exact Only.refl _ _ _

@[simp] theorem State.writeReg_fbk (s : State) (w : World) (a : Nat) (v : Word) : (s.writeReg w a v).fbk = s.fbk :=
  (writeReg_only (ps := []) (ks := [a]) s w a v (by simp)).part .fbk (by simp) (by simp)

/-- A field after a write of its word. -/
theorem fld_writeReg (s : State) (w : World) (v : Word) (hd : regDesc a = some d) {x : FieldD} (hx : x ∈ d.fields) :
    (s.writeReg w a v).fld ⟨a, x.lo, x.width⟩ =
      x.written w.isSecure (s.fld ⟨a, x.lo, x.width⟩) (bitsOf v x.lo x.width) % 2 ^ x.width := by
  change bitsOf ((s.writeReg w a v).word a) x.lo x.width = _
  rw [State.word_writeReg s w v hd, (wf_of_regDesc hd).bitsOf_writeWord hx]
  rfl

theorem fld_lt (s : State) (f : Fld) : s.fld f < 2 ^ f.width := bitsOf_lt _ _ _

/-- A secure field keeps its value when a word is written from outside the secure world (R15). -/
theorem fld_writeReg_secure (s : State) (v : Word) (hd : regDesc a = some d) {x : FieldD} (hx : x ∈ d.fields)
    (hs : x.sec = true) (hw : w.isSecure = false) : (s.writeReg w a v).fld ⟨a, x.lo, x.width⟩ = s.fld ⟨a, x.lo, x.width⟩ := by
  rw [fld_writeReg s w v hd hx, FieldD.written, if_pos (by simp [hs, hw])]
  exact Nat.mod_eq_of_lt (fld_lt s ⟨a, x.lo, x.width⟩)

/-- A field that its access type lets nobody write keeps its value (R14). -/
theorem fld_writeReg_ro (s : State) (w : World) (v : Word) (hd : regDesc a = some d) {x : FieldD} (hx : x ∈ d.fields)
    (hacc : x.acc = .ro) : (s.writeReg w a v).fld ⟨a, x.lo, x.width⟩ = s.fld ⟨a, x.lo, x.width⟩ := by
  rw [fld_writeReg s w v hd hx]
  simp only [FieldD.written, hacc, ite_self]
  exact Nat.mod_eq_of_lt (fld_lt s ⟨a, x.lo, x.width⟩)

/-- A writable field that the writer reaches takes what is written (R14). -/
theorem fld_writeReg_rw (s : State) (v : Word) (hd : regDesc a = some d) {x : FieldD} (hx : x ∈ d.fields)
    (hacc : x.acc = .rw) (hs : x.sec = false ∨ w.isSecure = true) :
    (s.writeReg w a v).fld ⟨a, x.lo, x.width⟩ = bitsOf v x.lo x.width := by
  have hopen : ¬(x.sec && !w.isSecure) = true := by rcases hs with h | h <;> simp [h]
  rw [fld_writeReg s w v hd hx]
  simp only [FieldD.written, hacc, if_neg hopen]
  exact Nat.mod_eq_of_lt (bitsOf_lt _ _ _)

/-! ## Plain writes -/

theorem plainWrite_of_open (s : State) (v : Word) (h : secureReg a = false ∨ w.isSecure = true) :
    s.plainWrite w a v = (s.writeReg w a v).mirrorReg a v := by
  rw [State.plainWrite, if_neg (by rcases h with h | h <;> simp [h])]

theorem plainWrite_of_refused (s : State) (v : Word) (h1 : secureReg a = true) (h2 : w.isSecure = false) :
    s.plainWrite w a v = ((s.secureRefused a w).writeReg w a v).mirrorReg a v := by
  rw [State.plainWrite, if_pos (by simp [h1, h2])]

/-- A word of GLB or ENV that starts nothing is a plain write. -/
theorem access_eq_plainWrite (s : State) (v : Word) (b : BootIn) (good : Bool) (ha : a % 4 = 0) (hans : s.answers w a = true)
    (hb : a / 0x100000 = 0 ∨ a / 0x100000 = 14) (hrst : a ≠ F.GLB_RST_CHIP.addr) (hrec : a ≠ F.GLB_RECOVERY_CTL_ERASE.addr) :
    s.access w a v b good = s.plainWrite w a v := by
  rw [State.access, if_neg (by simp [ha, hans]), if_neg (by omega), if_neg (by omega)]
  rcases hb with hb | hb
  · rw [if_pos hb, State.putGlb, if_neg hrst, if_neg hrec]
  · have htie : a ≠ F.TIE_CTL_SWAP.addr := by
      change a ≠ 0xD00020
      omega
    rw [if_neg (by omega), if_neg htie, State.regPut, hb]
    rfl

/-! ## REGISTER_WRITE, UNALIGNED_ACCESS and SECURE_ACCESS_REFUSED -/

/-- REGISTER_WRITE of a word of GLB or ENV that starts nothing (R14 to R16). -/
theorem registerWrite_completes (s : State) (w : World) (a : BitVec 32) (v : Word) (b : BootIn) (good : Bool) (d : RegD)
    (hd : regDesc a.toNat = some d) (hans : s.answers w a.toNat = true)
    (hb : a.toNat / 0x100000 = 0 ∨ a.toNat / 0x100000 = 14) (hrst : a.toNat ≠ F.GLB_RST_CHIP.addr)
    (hrec : a.toNat ≠ F.GLB_RECOVERY_CTL_ERASE.addr) :
    Completes (.registerWrite w a v b good) s fun t =>
      t.word a.toNat = d.writeWord w.isSecure (s.word a.toNat) v ∧
      (d.hasSecure = true ∧ w.isSecure = false → LoggedSec 0x010 (a.toNat / 0x100000) s t ∧ Only evts (evtKeys ++ [a.toNat]) s t) ∧
      (d.hasSecure = false ∨ w.isSecure = true → Only [] [a.toNat] s t) := by
  have hplain := access_eq_plainWrite s v b good (aligned_of_regDesc hd) hans hb hrst hrec
  have hmirror : a.toNat / 0x100000 ∉ [3, 4, 5, 7, 8] := by rcases hb with h | h <;> simp [h]
  refine ⟨s.plainWrite w a.toNat v, congrArg _ hplain, ?_⟩
  by_cases href : d.hasSecure = true ∧ w.isSecure = false
  · rw [plainWrite_of_refused s v ((secureReg_eq hd).trans href.1) href.2, State.mirrorReg_eq_self _ v hmirror]
    have hword := word_secureRefused s w (a := a.toNat) (by omega) (by omega) (by omega)
    have hlog := secureRefused_logged s w (a := a.toNat) (by omega)
    refine ⟨?_, fun _ => ⟨hlog.of_fbk (State.writeReg_fbk _ _ _ _), ?_⟩, fun hopen => ?_⟩
    · rw [State.word_writeReg _ _ _ hd, hword]
    · exact (secureRefused_only (evts_append [] [a.toNat]) s _ w).trans (writeReg_only _ _ _ _ (by simp))
    · simp [href] at hopen
  · have hopen : d.hasSecure = false ∨ w.isSecure = true := by
      cases hs : d.hasSecure with
      | false => exact .inl rfl
      | true => exact .inr (eq_true_of_ne_false fun hw => href ⟨hs, hw⟩)
    rw [plainWrite_of_open s v (hopen.imp_left (secureReg_eq hd).trans), State.mirrorReg_eq_self _ v hmirror]
    exact ⟨State.word_writeReg _ _ _ hd, fun h => absurd h href, fun _ => writeReg_only _ _ _ _ (by simp)⟩

/-- UNALIGNED_ACCESS (R13). -/
theorem unalignedAccess_completes (s : State) (f : Fin 64) (bar2 : Bool) :
    Completes (.unalignedAccess f bar2) s fun t =>
      t.count C.GLB_BADACC_CNT = s.count C.GLB_BADACC_CNT + 1 ∧ (∀ i, i ≠ C.GLB_BADACC_CNT → t.count i = s.count i) ∧
        Only [.cnt] [] s t :=
  ⟨s.bump C.GLB_BADACC_CNT, rfl, State.count_bump_same _ _, fun _ => State.count_bump_ne _, Only.bump _ _ (by simp)⟩

/-- What a non-secure write of a register with secure fields does to the state (R15). -/
theorem refusedWrite_effect (s : State) (v : Word) (hd : regDesc a = some d) (hs : d.hasSecure = true) (hw : w.isSecure = false)
    (hb : a / 0x100000 < 16) :
    LoggedSec 0x010 (a / 0x100000) s (s.plainWrite w a v) ∧
      (∀ x ∈ d.fields, x.sec = true →
        (s.plainWrite w a v).fld ⟨a, x.lo, x.width⟩ = s.fld ⟨a, x.lo, x.width⟩ ∨ a = 0xF00000 ∨ a = 0xF00004) ∧
      Only (evts ++ [Part.tie]) (evtKeys ++ [a]) s (s.plainWrite w a v) := by
  rw [plainWrite_of_refused s v ((secureReg_eq hd).trans hs) hw]
  refine ⟨?_, fun x hx hsec => ?_, ?_⟩
  · refine (secureRefused_logged s w hb).of_fbk ?_
    rw [State.mirrorReg_fbk, State.writeReg_fbk]
  · by_cases hkey : a = 0xF00000 ∨ a = 0xF00004
    · exact .inr hkey
    · obtain ⟨h1, h2⟩ := not_or.mp hkey
      left
      have hmirror : (((s.secureRefused a w).writeReg w a v).mirrorReg a v).fld ⟨a, x.lo, x.width⟩ =
          ((s.secureRefused a w).writeReg w a v).fld ⟨a, x.lo, x.width⟩ := by
        simp only [State.fld, State.word_mirrorReg]
      rw [hmirror, fld_writeReg_secure _ v hd hx hsec hw]
      simp only [State.fld, word_secureRefused s w hb h1 h2]
  · exact ((secureRefused_only (evts_append [.tie] [a]) s a w).trans (writeReg_only _ _ _ _ (by simp))).trans
      (mirrorReg_only (by simp) _ _ _)

/-- The access that SECURE_ACCESS_REFUSED performs: a read is recorded, a write recorded and its other fields written. -/
theorem execSecureAccessRefused_eq (s : State) (w : World) (a : BitVec 32) (write : Option Word) (hs : secureReg a.toNat = true)
    (hw : w.isSecure = false) (hans : s.answers w a.toNat = true) (hb : a.toNat / 0x100000 < 16) :
    execSecureAccessRefused w a write s =
      .next (write.elim (s.secureRefused a.toNat w) (s.plainWrite w a.toNat)) := by
  have hbar2 : (a.toNat / 0x100000 == 0x100) = false := beq_eq_false_iff_ne.mpr (by omega)
  unfold execSecureAccessRefused
  simp only [hs, hw, hans, hbar2]
  cases write <;> rfl

/-- SECURE_ACCESS_REFUSED (R15). -/
theorem secureAccessRefused_completes (s : State) (w : World) (a : BitVec 32) (d : RegD) (hd : regDesc a.toNat = some d)
    (hs : d.hasSecure = true) (hw : w.isSecure = false) (hans : s.answers w a.toNat = true) (hb : a.toNat / 0x100000 < 16) :
    (Completes (.secureAccessRefused w a none) s fun t => LoggedSec 0x010 (a.toNat / 0x100000) s t ∧ Only evts evtKeys s t) ∧
    ∀ v : Word, Completes (.secureAccessRefused w a (some v)) s fun t => LoggedSec 0x010 (a.toNat / 0x100000) s t ∧
      (∀ x ∈ d.fields, x.sec = true →
        t.fld ⟨a.toNat, x.lo, x.width⟩ = s.fld ⟨a.toNat, x.lo, x.width⟩ ∨ a.toNat = 0xF00000 ∨ a.toNat = 0xF00004) ∧
      Only (evts ++ [Part.tie]) (evtKeys ++ [a.toNat]) s t := by
  have hexec := fun write => execSecureAccessRefused_eq s w a write ((secureReg_eq hd).trans hs) hw hans hb
  exact ⟨⟨_, hexec none, secureRefused_logged s w hb, secureRefused_only evts_ok s _ w⟩,
    fun v => ⟨_, hexec (some v), refusedWrite_effect s v hd hs hw hb⟩⟩

end Sys2Proof.Machine
end

section
/-! Writes of command registers (R505): the register's other fields, and what the seven blocks answer to an OP that they do not list. -/

namespace Sys2Proof.Machine

variable {s u : State} {w : World} {v : Word} {f opF busy : Fld} {acc : Acc} {op : Nat} {ks : List Nat}

/-! ## Fields of the tables by name -/

/-- Whether the tables list the field `f` with access type `acc`. -/
def listed (f : Fld) (acc : Acc) : Bool :=
  (regDesc f.addr).any fun d => d.fields.any fun x => x.lo == f.lo && x.width == f.width && x.acc == acc

theorem exists_of_listed (h : listed f acc = true) :
    ∃ d, regDesc f.addr = some d ∧ ∃ x ∈ d.fields, x.acc = acc ∧ f = ⟨f.addr, x.lo, x.width⟩ := by
  obtain ⟨d, hd, hany⟩ := (Option.any_eq_true _ _).mp h
  obtain ⟨x, hx, heq⟩ := List.any_eq_true.mp hany
  simp only [Bool.and_eq_true, beq_iff_eq] at heq
  obtain ⟨⟨hlo, hwidth⟩, hacc⟩ := heq
  exact ⟨d, hd, x, hx, hacc, by rw [hlo, hwidth]⟩

theorem ok_of_listed (h : listed f acc = true) : f.Ok := by
  obtain ⟨d, hd, x, hx, -, hf⟩ := exists_of_listed h
  obtain ⟨hle, hlt⟩ := (wf_of_regDesc hd).1 x hx
  have hwidth := FieldD.lo_add_width hle
  rw [hf]
  change x.lo + x.width ≤ 32
  omega

theorem fld_writeReg_of_listed_ro (s : State) (w : World) (v : Word) (h : listed f .ro = true) :
    (s.writeReg w f.addr v).fld f = s.fld f := by
  obtain ⟨d, hd, x, hx, hacc, hf⟩ := exists_of_listed h
  rw [hf]
  exact fld_writeReg_ro s w v hd hx hacc

theorem fld_writeReg_of_listed_rw (s : State) (v : Word) (h : listed f .rw = true) (hw : w.isSecure = true) :
    (s.writeReg w f.addr v).fld f = bitsOf v f.lo f.width := by
  obtain ⟨d, hd, x, hx, hacc, hf⟩ := exists_of_listed h
  rw [hf]
  exact fld_writeReg_rw s v hd hx hacc (.inr hw)

/-! ## A command register that has taken a word -/

/-- The state in which a command register has taken the word `v`, its OP field reading 0. -/
def State.cmdTaken (s : State) (w : World) (opF : Fld) (v : Word) : State := (s.writeReg w opF.addr v).setFld opF 0

theorem opZero_eq_cmdTaken (s : State) (v : Word) (h : secureReg opF.addr = false ∨ w.isSecure = true) :
    s.opZero w opF v = s.cmdTaken w opF v :=
  if_neg (by rcases h with h | h <;> simp [h])

theorem cmdTaken_only (s : State) (w : World) (opF : Fld) (v : Word) : Only [] [opF.addr] s (s.cmdTaken w opF v) :=
  (writeReg_only _ _ _ _ (by simp)).trans (Only.setFld _ _ _ (by simp))

theorem fld_op_cmdTaken (s : State) (w : World) (v : Word) (hop : listed opF .wo = true) :
    (s.cmdTaken w opF v).fld opF = 0 := by
  rw [State.cmdTaken, State.fld_setFld_same _ _ _ (ok_of_listed hop), Nat.zero_mod]

/-- The other fields of the register stand as the write left them. -/
theorem fld_cmdTaken (s : State) (w : World) (v : Word) (hop : listed opF .wo = true) (hd : opF.Disj f) :
    (s.cmdTaken w opF v).fld f = (s.writeReg w opF.addr v).fld f :=
  State.fld_setFld_disj _ _ _ _ (ok_of_listed hop) hd

theorem fld_cmdTaken_rw (s : State) (v : Word) (hop : listed opF .wo = true) (hf : listed f .rw = true)
    (ha : f.addr = opF.addr) (hd : opF.Disj f) (hw : w.isSecure = true) :
    (s.cmdTaken w opF v).fld f = bitsOf v f.lo f.width := by
  rw [fld_cmdTaken s w v hop hd, ← ha]
  exact fld_writeReg_of_listed_rw s v hf hw

theorem fld_cmdTaken_ro (s : State) (w : World) (v : Word) (hop : listed opF .wo = true) (hf : listed f .ro = true)
    (ha : f.addr = opF.addr) (hd : opF.Disj f) : (s.cmdTaken w opF v).fld f = s.fld f := by
  rw [fld_cmdTaken s w v hop hd, ← ha]
  exact fld_writeReg_of_listed_ro s w v hf

/-- The OP and BUSY fields of a command register: OP is written and reads zero, BUSY is the hardware's (R505). -/
structure IsCmdReg (opF busy : Fld) : Prop where
  opListed : listed opF .wo = true
  busyListed : listed busy .ro = true
  sameWord : busy.addr = opF.addr
  apart : opF.lo + opF.width ≤ busy.lo

/-- A secure write of an idle command register starts its OP on the word taken. -/
theorem cmdReg_idle (h : IsCmdReg opF busy) (busyCase run : State → State) (v : Word) (hw : w.isSecure = true)
    (hb : s.flag busy = false) : cmdReg opF busy busyCase w v run s = run (s.cmdTaken w opF v) := by
  have hidle : ((s.writeReg w opF.addr v).setFld opF 0).flag busy = false := by
    have hfld := fld_cmdTaken_ro s w v h.opListed h.busyListed h.sameWord (.inr (.inl h.apart))
    rw [State.cmdTaken] at hfld
    rwa [State.flag, hfld]
  unfold cmdReg
  rw [if_neg (by simp [hw])]
  simp only [hidle]
  rfl

/-! ## OP_ZERO_WRITE -/

theorem cmdRegOf_addr : ∀ e ∈ cmdRegs, cmdRegOf e.1.addr = some e := by decide

theorem cmdRegs_op_listed : ∀ e ∈ cmdRegs, listed e.1 .wo = true := by decide

/-- Beside OP a command register has fields that are written or that are the hardware's, and no others. -/
theorem cmdRegs_other_fields : ∀ e ∈ cmdRegs, ((regDesc e.1.addr).all fun d =>
    d.fields.all fun x => x.lo == e.1.lo || x.acc == .rw || x.acc == .ro) = true := by decide

theorem regPut_rule (s : State) (w : World) (v : Word) : s.regPut w F.TRV_RULE_CMD_OP.addr v =
    s.cmdWrite w F.TRV_RULE_CMD_OP v fun op s => ruleCmd op (.reg w v) s := rfl

theorem regPut_plat (s : State) (w : World) (v : Word) : s.regPut w F.PLT_CMD_OP.addr v =
    s.cmdWrite w F.PLT_CMD_OP v fun op s => s.pltReg w v op none := rfl

theorem regPut_sec (s : State) (w : World) (v : Word) : s.regPut w F.SEC_CMD_OP.addr v =
    s.cmdWrite w F.SEC_CMD_OP v fun op s => secCmd op (.reg w v) s := rfl

theorem regPut_queue (s : State) (w : World) (v : Word) : s.regPut w F.BLW_QCMD_OP.addr v =
    s.cmdWrite w F.BLW_QCMD_OP v fun op s => s.queueReg w v op none := rfl

theorem regPut_gcl (s : State) (w : World) (v : Word) : s.regPut w F.GAT_GCL_CMD_OP.addr v =
    s.cmdWrite w F.GAT_GCL_CMD_OP v fun op s => gclCmd op (.reg w v) s := rfl

theorem regPut_datum (s : State) (w : World) (v : Word) : s.regPut w F.DAT_CMD_OP.addr v =
    s.cmdWrite w F.DAT_CMD_OP v fun op s => datCmd op (.reg w v) s := rfl

theorem regPut_hearth (s : State) (w : World) (v : Word) : s.regPut w F.HRT_CMD_OP.addr v =
    s.cmdWrite w F.HRT_CMD_OP v fun op s =>
      hrtCmd op (if op = 0x12 then s.fld F.HRT_CMD_ARG / 2 ^ 29 else s.fld F.HRT_CMD_ARG / 65536 % 4) (.reg w v) s := rfl

/-- A command register takes OP 0 as R505 says, whatever its block. -/
theorem regPut_of_op_zero (s : State) (w : World) (v : Word) {e : Fld × Nat} (he : e ∈ cmdRegs) (hop : opOf e.1 v = 0) :
    s.regPut w e.1.addr v = s.opZero w e.1 v := by
  simp only [cmdRegs, List.mem_cons, List.not_mem_nil, or_false] at he
  rcases he with rfl | rfl | rfl | rfl | rfl | rfl | rfl
  · exact (regPut_rule s w v).trans (if_pos hop)
  · exact (regPut_plat s w v).trans (if_pos hop)
  · exact (regPut_sec s w v).trans (if_pos hop)
  · exact (regPut_queue s w v).trans (if_pos hop)
  · exact (regPut_gcl s w v).trans (if_pos hop)
  · exact (regPut_datum s w v).trans (if_pos hop)
  · exact (regPut_hearth s w v).trans (if_pos hop)

/-- OP_ZERO_WRITE (R505). -/
theorem opZeroWrite_completes (s : State) (w : World) (a : BitVec 32) (e : Fld × Nat) (d : RegD) (v : Word) (he : e ∈ cmdRegs)
    (ha : a.toNat = e.1.addr) (hd : regDesc a.toNat = some d) (hans : s.answers w a.toNat = true)
    (hs : d.hasSecure = false ∨ w.isSecure = true) (hop : opOf e.1 v = 0) :
    Completes (.opZeroWrite w a v) s fun t =>
      (∀ x ∈ d.fields, x.lo ≠ e.1.lo →
        t.fld ⟨a.toNat, x.lo, x.width⟩ = (if x.acc = .rw then bitsOf v x.lo x.width else s.fld ⟨a.toNat, x.lo, x.width⟩)) ∧
      t.fld e.1 = 0 ∧ Only [] [a.toNat] s t := by
  rw [ha] at hd hans ⊢
  have hlist := cmdRegs_op_listed e he
  have hexec : exec (.opZeroWrite w a v) s = .next (s.cmdTaken w e.1 v) := by
    change execOpZeroWrite w a v s = _
    simp only [execOpZeroWrite, ha, cmdRegOf_addr e he, hop, hans, and_self, if_true]
    rw [regPut_of_op_zero s w v he hop, opZero_eq_cmdTaken s v (hs.imp_left (secureReg_eq hd).trans)]
  refine ⟨_, hexec, fun x hx hlo => ?_, fld_op_cmdTaken s w v hlist, cmdTaken_only s w e.1 v⟩
  have hdisj : e.1.Disj ⟨e.1.addr, x.lo, x.width⟩ := by
    obtain ⟨d', hd', y, hy, -, hey⟩ := exists_of_listed hlist
    obtain rfl : d' = d := Option.some.inj (hd'.symm.trans hd)
    have hylo : y.lo = e.1.lo := (congrArg Fld.lo hey).symm
    have hywidth : y.width = e.1.width := (congrArg Fld.width hey).symm
    have hwf := wf_of_regDesc hd
    have hapart := hwf.apart hx hy fun h => hlo (h.trans hylo)
    have hxw := FieldD.lo_add_width (hwf.1 x hx).1
    have hyw := FieldD.lo_add_width (hwf.1 y hy).1
    refine .inr ?_
    change e.1.lo + e.1.width ≤ x.lo ∨ x.lo + x.width ≤ e.1.lo
    omega
  have hopen : x.sec = false ∨ w.isSecure = true := hs.imp_left fun h => by
    simpa using List.any_eq_false.mp h x hx
  have hacc : x.acc = .rw ∨ x.acc = .ro := by
    have hall := cmdRegs_other_fields e he
    rw [hd, Option.all_some] at hall
    simpa [hlo] using List.all_eq_true.mp hall x hx
  rw [fld_cmdTaken s w v hlist hdisj]
  rcases hacc with hacc | hacc
  · rw [if_pos hacc]
    exact fld_writeReg_rw s v hd hx hacc hopen
  · rw [if_neg (by simp [hacc])]
    exact fld_writeReg_ro s w v hd hx hacc

/-! ## RESERVED_OP_WRITE: what each block makes of an OP that its chapter does not list -/

theorem isCmdReg_rule : IsCmdReg F.TRV_RULE_CMD_OP F.TRV_RULE_CMD_BUSY := ⟨by decide, by decide, rfl, by decide⟩
theorem isCmdReg_plat : IsCmdReg F.PLT_CMD_OP F.PLT_CMD_BUSY := ⟨by decide, by decide, rfl, by decide⟩
theorem isCmdReg_sec : IsCmdReg F.SEC_CMD_OP F.SEC_CMD_BUSY := ⟨by decide, by decide, rfl, by decide⟩
theorem isCmdReg_queue : IsCmdReg F.BLW_QCMD_OP F.BLW_QCMD_BUSY := ⟨by decide, by decide, rfl, by decide⟩
theorem isCmdReg_gcl : IsCmdReg F.GAT_GCL_CMD_OP F.GAT_GCL_CMD_BUSY := ⟨by decide, by decide, rfl, by decide⟩
theorem isCmdReg_datum : IsCmdReg F.DAT_CMD_OP F.DAT_CMD_BUSY := ⟨by decide, by decide, rfl, by decide⟩
theorem isCmdReg_hearth : IsCmdReg F.HRT_CMD_OP F.HRT_CMD_BUSY := ⟨by decide, by decide, rfl, by decide⟩

theorem ruleOp_reserved (s : State) (i : Nat) (h : 4 < op) : s.ruleOp op i = (s.ruleErr op i, 1) := by
  unfold State.ruleOp
  split
  case h_5 => rfl
  all_goals omega

theorem ruleDone_refused (s : State) (op i : Nat) : State.ruleDone (s, 1) op i = s := if_pos (.inr (by simp))

theorem ruleCmd_reserved (hw : w.isSecure = true) (h : 4 < op) (hb : s.flag F.TRV_RULE_CMD_BUSY = false) :
    ruleCmd op (.reg w v) s = (s.cmdTaken w F.TRV_RULE_CMD_OP v).ruleErr op (bitsOf v 0 14) := by
  have hidx : (s.cmdTaken w F.TRV_RULE_CMD_OP v).fld F.TRV_RULE_CMD_INDEX = bitsOf v 0 14 :=
    fld_cmdTaken_rw s v isCmdReg_rule.opListed (by decide) rfl (.inr (.inr (by decide))) hw
  unfold ruleCmd
  simp only [cmdReg_idle isCmdReg_rule _ _ v hw hb, hidx, ruleOp_reserved _ _ h, ruleDone_refused]

theorem pltOp_reserved (s : State) (x : Word) (tag : Option Nat) (ring : Bool) (h : 7 < op) :
    s.pltOp op x tag ring = (s, Pc.badOp) := by
  unfold State.pltOp
  split
  case h_8 => rfl
  all_goals omega

theorem pltDone_badOp (s : State) (op : Nat) (x : Word) (tag : Option Nat) : State.pltDone (s, Pc.badOp) op x tag =
    (s.setFld F.PLT_CMD_BUSY 0).setFld F.PLT_CMD_STATUS 6 := by
  simp only [State.pltDone, Pc.badOp, Pc.busy, Nat.reduceEqDiff, if_false]

theorem pltReg_reserved (hw : w.isSecure = true) (h : 7 < op) (hb : s.flag F.PLT_CMD_BUSY = false) :
    s.pltReg w v op none = ((s.cmdTaken w F.PLT_CMD_OP v).setFld F.PLT_CMD_BUSY 0).setFld F.PLT_CMD_STATUS 6 := by
  unfold State.pltReg
  simp only [cmdReg_idle isCmdReg_plat _ _ v hw hb, pltOp_reserved _ _ _ _ h, pltDone_badOp]

theorem secOp_reserved (s : State) (idx hand : Nat) (h : 14 < op) : s.secOp op idx hand = (s, Sc.badOp) := by
  have hsa : [4, 6, 7, 0xB, 0xC, 0xD, 0xE].contains op = false := by
    simp only [List.contains_eq_mem, List.mem_cons, List.not_mem_nil, or_false, decide_eq_false_iff_not]
    omega
  simp only [State.secOp, hsa, Bool.false_and, Bool.false_eq_true, if_false]
  split
  case h_15 => rfl
  all_goals omega

theorem secDone_badOp (s : State) (op idx : Nat) : State.secDone (s, Sc.badOp) op idx =
    ((s.setFld F.SEC_CMD_BUSY 0).setFld F.SEC_CMD_STATUS 1).secRefused op idx 1 := by
  simp only [State.secDone, Sc.badOp, Sc.busy, Sc.ok, Nat.reduceEqDiff, ne_eq, Nat.one_ne_zero, not_false_eq_true, if_true, if_false]

theorem secCmd_reserved (hw : w.isSecure = true) (h : 14 < op) (hb : s.flag F.SEC_CMD_BUSY = false) :
    secCmd op (.reg w v) s =
      (((s.cmdTaken w F.SEC_CMD_OP v).setFld F.SEC_CMD_BUSY 0).setFld F.SEC_CMD_STATUS 1).secRefused op (bitsOf v 0 18) 1 := by
  have hidx : (s.cmdTaken w F.SEC_CMD_OP v).fld F.SEC_CMD_INDEX = bitsOf v 0 18 :=
    fld_cmdTaken_rw s v isCmdReg_sec.opListed (by decide) rfl (.inr (.inr (by decide))) hw
  unfold secCmd
  simp only [cmdReg_idle isCmdReg_sec _ _ v hw hb, hidx, secOp_reserved _ _ _ h, secDone_badOp]

theorem queueOp_reserved (s : State) (q : Nat) (may : Bool) (h : 3 < op) : s.queueOp op q may = (s, Qc.badOp) := by
  unfold State.queueOp
  split
  case h_4 => rfl
  all_goals omega

theorem queueDone_badOp (s : State) (op q : Nat) : State.queueDone (s, Qc.badOp) op q =
    (s.setFld F.BLW_QCMD_STATUS 1).raise { num := 0x28C, scope := q, arg := op + 16 * 1 } := by
  simp only [State.queueDone, Qc.badOp, Qc.ok, ne_eq, Nat.one_ne_zero, not_false_eq_true, if_true]

theorem queueReg_reserved (hw : w.isSecure = true) (h : 3 < op) (hb : s.flag F.BLW_QCMD_BUSY = false) :
    s.queueReg w v op none = ((s.cmdTaken w F.BLW_QCMD_OP v).setFld F.BLW_QCMD_STATUS 1).raise
      { num := 0x28C, scope := bitsOf v 0 16, arg := op + 16 * 1 } := by
  have hidx : (s.cmdTaken w F.BLW_QCMD_OP v).fld F.BLW_QCMD_QUEUE = bitsOf v 0 16 :=
    fld_cmdTaken_rw s v isCmdReg_queue.opListed (by decide) rfl (.inr (.inr (by decide))) hw
  unfold State.queueReg
  simp only [cmdReg_idle isCmdReg_queue _ _ v hw hb, hidx, queueOp_reserved _ _ _ h, queueDone_badOp]

theorem gclOp_reserved (s : State) (n i : Nat) (h : 5 < op) : s.gclOp op n i = (s, Gc.badOp) := by
  unfold State.gclOp
  split
  case h_6 => rfl
  all_goals omega

theorem gclDone_badOp (s : State) (op n i : Nat) : State.gclDone (s, Gc.badOp) op n i =
    (s.setFld F.GAT_GCL_CMD_STATUS 1).raise { num := 0x286, scope := n, arg := op + 16 * 1 } := by
  simp only [State.gclDone, Gc.badOp, Gc.ok, ne_eq, Nat.one_ne_zero, not_false_eq_true, if_true]

theorem gclCmd_reserved (hw : w.isSecure = true) (h : 5 < op) (hb : s.flag F.GAT_GCL_CMD_BUSY = false) :
    gclCmd op (.reg w v) s = ((s.cmdTaken w F.GAT_GCL_CMD_OP v).setFld F.GAT_GCL_CMD_STATUS 1).raise
      { num := 0x286, scope := bitsOf v 16 6, arg := op + 16 * 1 } := by
  have hport : (s.cmdTaken w F.GAT_GCL_CMD_OP v).fld F.GAT_GCL_CMD_PORT = bitsOf v 16 6 :=
    fld_cmdTaken_rw s v isCmdReg_gcl.opListed (by decide) rfl (.inr (.inr (by decide))) hw
  unfold gclCmd
  simp only [cmdReg_idle isCmdReg_gcl _ _ v hw hb, hport, gclOp_reserved _ _ _ h, gclDone_badOp]

theorem datOp_reserved (s : State) (h : 5 < op) : s.datOp op = (s, Dc.badOp) := by
  unfold State.datOp
  split
  case h_6 => rfl
  all_goals omega

theorem datDone_badOp (s : State) (op : Nat) : State.datDone (s, Dc.badOp) op =
    (s.setFld F.DAT_CMD_STATUS 1).raise { num := 0x306, arg := op + 16 * 1 } := by
  simp only [State.datDone, Dc.badOp, Dc.ok, Nat.one_ne_zero, if_false]

theorem datCmd_reserved (hw : w.isSecure = true) (h : 5 < op) (hb : s.flag F.DAT_CMD_BUSY = false) :
    datCmd op (.reg w v) s = ((s.cmdTaken w F.DAT_CMD_OP v).setFld F.DAT_CMD_STATUS 1).raise { num := 0x306, arg := op + 16 * 1 } := by
  unfold datCmd
  simp only [cmdReg_idle isCmdReg_datum _ _ v hw hb, datOp_reserved _ h, datDone_badOp]

theorem hrtOp_reserved (s : State) (sel : Nat) (r : HReq) (hserves : s.hrtServes = true) (h : 18 < op) :
    s.hrtOp op sel r = (s, Hc.badOp, 0) := by
  simp only [State.hrtOp, hserves, Bool.not_true, Bool.false_eq_true, if_false]
  split
  case h_19 => rfl
  all_goals omega

theorem hrtDone_badOp (s : State) (op sel : Nat) (r : HReq) : State.hrtDone (s, Hc.badOp, 0) op sel r =
    ((s.setFld F.HRT_CMD_BUSY 0).setFld F.HRT_CMD_STATUS 1).hrtRefused op r.slot 1 := by
  simp only [State.hrtDone, Hc.badOp, Hc.busy, Hc.ok, Hc.auth, Hc.replayed, Nat.reduceEqDiff, if_false]

/-- A write of HRT_CMD leaves open whether key commands are served. -/
theorem hrtServes_cmdTaken (s : State) (w : World) (v : Word) :
    (s.cmdTaken w F.HRT_CMD_OP v).hrtServes = s.hrtServes := by
  have honly := cmdTaken_only s w F.HRT_CMD_OP v
  have hotp : (s.cmdTaken w F.HRT_CMD_OP v).otp = s.otp := honly.part .otp (by simp) (by simp)
  have hhrt : (s.cmdTaken w F.HRT_CMD_OP v).hrt = s.hrt := honly.part .hrt (by simp) (by simp)
  have hword := honly.word F.HRT_STATUS_HUK_OK.addr (by decide) (by simp)
  simp only [State.hrtServes, State.flag, State.fld, hotp, hhrt, hword]

theorem hrtCmd_reserved (sel : Nat) (hw : w.isSecure = true) (h : 18 < op) (hb : s.flag F.HRT_CMD_BUSY = false)
    (hserves : s.hrtServes = true) :
    hrtCmd op sel (.reg w v) s =
      (((s.cmdTaken w F.HRT_CMD_OP v).setFld F.HRT_CMD_BUSY 0).setFld F.HRT_CMD_STATUS 1).hrtRefused op (bitsOf v 0 12) 1 := by
  have hslot : (s.cmdTaken w F.HRT_CMD_OP v).fld F.HRT_CMD_SLOT = bitsOf v 0 12 :=
    fld_cmdTaken_rw s v isCmdReg_hearth.opListed (by decide) rfl (.inr (.inr (by decide))) hw
  unfold hrtCmd
  simp only [cmdReg_idle isCmdReg_hearth _ _ v hw hb, hslot, hrtOp_reserved _ _ _ ((hrtServes_cmdTaken s w v).trans hserves) h, hrtDone_badOp]

end Sys2Proof.Machine
end

section
/-! RESERVED_OP_WRITE (R505): the status, the event and the frame of a refused operation, for each of the seven command registers; and the
obligation on register accesses. -/

namespace Sys2Proof.Machine

variable {s u : State} {w : World} {v : Word} {f : Fld} {ks ls : List Nat} {a : BitVec 32}

/-! ## From the access to the block -/

theorem answers_of_secure (s : State) (k : Nat) (hw : w.isSecure = true) : s.answers w k = true := by
  cases w with
  | secure => rfl
  | nonSecure => cases hw
  | service => cases hw

/-- A secure write of an OP beyond those that the chapter lists runs the block's command. -/
theorem exec_reservedOpWrite {e : Fld × Nat} {run : Nat → State → State} (he : e ∈ cmdRegs) (ha : a.toNat = e.1.addr)
    (hop : e.2 < opOf e.1 v) (hw : w.isSecure = true) (hput : s.regPut w e.1.addr v = s.cmdWrite w e.1 v run) :
    exec (.reservedOpWrite w a v) s = .next (run (opOf e.1 v) s) := by
  change execReservedOpWrite w a v s = _
  simp only [execReservedOpWrite, ha, cmdRegOf_addr e he, hop, answers_of_secure s _ hw, and_self, if_true]
  rw [hput, State.cmdWrite, if_neg (by omega)]

/-! ## What a refusal leaves -/

/-- The event of a refusal is the newest of the operational log; raising it moves nothing but what every event moves. -/
theorem raise_refusal {o : Occ} (hu : Only [] ks s u) (halarm : o.alarm = false) (hscope : o.scope < 2 ^ 32) :
    Logged o.num o.scope (u.raise o) ∧ Only evts (evtKeys ++ ks) s (u.raise o) := by
  refine ⟨?_, (hu.mono (by simp) fun k h => .inl (by simp [h])).trans (raise_only (evts_append [] ks) u o)⟩
  have hlog := raise_logged u o halarm
  rwa [Nat.mod_eq_of_lt hscope] at hlog

/-- A field of BAR0 below the field book reads the same after an event. -/
theorem fld_raise_bar0 (u : State) (o : Occ) (hb : f.addr / 0x100000 < 15) : (u.raise o).fld f = u.fld f := by
  have hblock : blockOf f.addr = f.addr / 0x100000 := blockOf_bar0 (by omega)
  exact State.fld_raise _ _ (by omega) (by omega) (by omega)

/-- A refusal that a field of the block shows as 1 (BAD_OP, ERR), with its event. -/
theorem shown_refusal {o : Occ} (hu : Only [] ks s u) (hf : f.addr ∈ ks) (hok : f.Ok) (hone : 0 < f.width)
    (hb : f.addr / 0x100000 < 15) (halarm : o.alarm = false) (hscope : o.scope < 2 ^ 32) :
    ((u.setFld f 1).raise o).fld f = 1 ∧ Logged o.num o.scope ((u.setFld f 1).raise o) ∧
      Only evts (evtKeys ++ ks) s ((u.setFld f 1).raise o) := by
  refine ⟨?_, raise_refusal (hu.trans (Only.setFld u f 1 (.inl hf))) halarm hscope⟩
  rw [fld_raise_bar0 _ _ hb, State.fld_setFld_same _ _ _ hok]
  exact Nat.one_mod_two_pow hone

theorem bitsOf_lt_scope (v : Word) (lo : Nat) {width : Nat} (h : width ≤ 32) : bitsOf v lo width < 2 ^ 32 :=
  Nat.lt_of_lt_of_le (bitsOf_lt v lo width) (Nat.pow_le_pow_right (by decide) h)

theorem hrtErr_only (s : State) (num slot : Nat) : Only [] [F.HRT_ERR_VALID.addr] s (s.hrtErr num slot) := by
  unfold State.hrtErr
  split
  · exact Only.refl _ _ _
  · exact ((Only.setFld _ _ _ (by decide)).trans (Only.setFld _ _ _ (by decide))).trans (Only.setFld _ _ _ (by decide))

/-- A Hearth refusal moves, beside what its event moves, HRT_ERR (R262). -/
theorem hrtRefused_effect (op code : Nat) {slot : Nat} (hu : Only [] ks s u) (hslot : slot < 2 ^ 32) :
    Logged 0x350 slot (u.hrtRefused op slot code) ∧
      Only evts (F.HRT_ERR_VALID.addr :: evtKeys ++ ks) s (u.hrtRefused op slot code) := by
  have herr : Only [] (F.HRT_ERR_VALID.addr :: ks) s (u.hrtErr 0x350 slot) :=
    (hu.mono (by simp) (by simp +contextual)).trans ((hrtErr_only u 0x350 slot).mono (by simp) (by simp))
  obtain ⟨hlog, honly⟩ := raise_refusal (o := { num := 0x350, scope := slot, arg := op + 256 * code }) herr rfl hslot
  exact ⟨hlog, honly.mono (fun _ => id) fun k hk => .inl (by simpa [or_left_comm] using hk)⟩

theorem fld_status_hrtRefused (u : State) (op slot code : Nat) :
    (u.hrtRefused op slot code).fld F.HRT_CMD_STATUS = u.fld F.HRT_CMD_STATUS := by
  rw [State.hrtRefused, State.hrtEvent, fld_raise_bar0 _ _ (by decide), State.fld, (hrtErr_only u _ slot).word _ (by decide) (by simp)]
  rfl

/-! ## The seven command registers -/

theorem reservedOpWrite_rule (hw : w.isSecure = true) (ha : a.toNat = F.TRV_RULE_CMD_OP.addr)
    (hop : 4 < opOf F.TRV_RULE_CMD_OP v) (hb : s.flag F.TRV_RULE_CMD_BUSY = false) :
    Completes (.reservedOpWrite w a v) s fun t => t.flag F.TRV_RULE_STAT_ERR = true ∧
      Logged 0x104 (bitsOf v 0 14) t ∧ Only evts (evtKeys ++ [a.toNat, F.TRV_RULE_STAT_ERR.addr]) s t := by
  have hexec := exec_reservedOpWrite (e := (F.TRV_RULE_CMD_OP, 4)) (by decide) ha hop hw (regPut_rule s w v)
  rw [ruleCmd_reserved hw hop hb] at hexec
  rw [ha]
  have hu : Only [] [F.TRV_RULE_CMD_OP.addr, F.TRV_RULE_STAT_ERR.addr] s (s.cmdTaken w F.TRV_RULE_CMD_OP v) :=
    (cmdTaken_only s w F.TRV_RULE_CMD_OP v).mono (by simp) (by simp)
  obtain ⟨herr, heffect⟩ := shown_refusal (f := F.TRV_RULE_STAT_ERR)
    (o := { num := 0x104, scope := bitsOf v 0 14, arg := opOf F.TRV_RULE_CMD_OP v }) hu (by decide) (ok_of_listed (acc := .rw1c) (by decide)) (by decide) (by decide) rfl (bitsOf_lt_scope v 0 (by decide))
  refine ⟨_, hexec, ?_, heffect⟩
  rw [State.flag, State.ruleErr, herr]
  rfl

theorem reservedOpWrite_plat (hw : w.isSecure = true) (ha : a.toNat = F.PLT_CMD_OP.addr)
    (hop : 7 < opOf F.PLT_CMD_OP v) (hb : s.flag F.PLT_CMD_BUSY = false) :
    Completes (.reservedOpWrite w a v) s fun t => t.fld F.PLT_CMD_STATUS = 6 ∧ Only [] [a.toNat] s t := by
  have hexec := exec_reservedOpWrite (e := (F.PLT_CMD_OP, 7)) (by decide) ha hop hw (regPut_plat s w v)
  rw [pltReg_reserved hw hop hb] at hexec
  rw [ha]
  refine ⟨_, hexec, ?_, ?_⟩
  · rw [State.fld_setFld_same _ _ _ (ok_of_listed (acc := .ro) (by decide))]
    rfl
  · exact ((cmdTaken_only s w F.PLT_CMD_OP v).trans (Only.setFld _ _ _ (by decide))).trans (Only.setFld _ _ _ (by decide))

theorem reservedOpWrite_sec (hw : w.isSecure = true) (ha : a.toNat = F.SEC_CMD_OP.addr)
    (hop : 14 < opOf F.SEC_CMD_OP v) (hb : s.flag F.SEC_CMD_BUSY = false) :
    Completes (.reservedOpWrite w a v) s fun t => t.fld F.SEC_CMD_STATUS = 1 ∧ Logged 0x18F (bitsOf v 0 18) t ∧
      Only evts (evtKeys ++ [a.toNat]) s t := by
  have hexec := exec_reservedOpWrite (e := (F.SEC_CMD_OP, 14)) (by decide) ha hop hw (regPut_sec s w v)
  rw [secCmd_reserved hw hop hb] at hexec
  rw [ha]
  have hu : Only [] [F.SEC_CMD_OP.addr] s ((s.cmdTaken w F.SEC_CMD_OP v).setFld F.SEC_CMD_BUSY 0) :=
    (cmdTaken_only s w F.SEC_CMD_OP v).trans (Only.setFld _ _ _ (by decide))
  exact ⟨_, hexec, shown_refusal hu (by decide) (ok_of_listed (acc := .ro) (by decide)) (by decide) (by decide) rfl
    (bitsOf_lt_scope v 0 (by decide))⟩

theorem reservedOpWrite_queue (hw : w.isSecure = true) (ha : a.toNat = F.BLW_QCMD_OP.addr)
    (hop : 3 < opOf F.BLW_QCMD_OP v) (hb : s.flag F.BLW_QCMD_BUSY = false) :
    Completes (.reservedOpWrite w a v) s fun t => t.fld F.BLW_QCMD_STATUS = 1 ∧ Logged 0x28C (bitsOf v 0 16) t ∧
      Only evts (evtKeys ++ [a.toNat]) s t := by
  have hexec := exec_reservedOpWrite (e := (F.BLW_QCMD_OP, 3)) (by decide) ha hop hw (regPut_queue s w v)
  rw [queueReg_reserved hw hop hb] at hexec
  rw [ha]
  exact ⟨_, hexec, shown_refusal (cmdTaken_only s w F.BLW_QCMD_OP v) (by decide) (ok_of_listed (acc := .ro) (by decide))
    (by decide) (by decide) rfl (bitsOf_lt_scope v 0 (by decide))⟩

theorem reservedOpWrite_gcl (hw : w.isSecure = true) (ha : a.toNat = F.GAT_GCL_CMD_OP.addr)
    (hop : 5 < opOf F.GAT_GCL_CMD_OP v) (hb : s.flag F.GAT_GCL_CMD_BUSY = false) :
    Completes (.reservedOpWrite w a v) s fun t => t.fld F.GAT_GCL_CMD_STATUS = 1 ∧ Logged 0x286 (bitsOf v 16 6) t ∧
      Only evts (evtKeys ++ [a.toNat]) s t := by
  have hexec := exec_reservedOpWrite (e := (F.GAT_GCL_CMD_OP, 5)) (by decide) ha hop hw (regPut_gcl s w v)
  rw [gclCmd_reserved hw hop hb] at hexec
  rw [ha]
  exact ⟨_, hexec, shown_refusal (cmdTaken_only s w F.GAT_GCL_CMD_OP v) (by decide) (ok_of_listed (acc := .ro) (by decide))
    (by decide) (by decide) rfl (bitsOf_lt_scope v 16 (by decide))⟩

theorem reservedOpWrite_datum (hw : w.isSecure = true) (ha : a.toNat = F.DAT_CMD_OP.addr)
    (hop : 5 < opOf F.DAT_CMD_OP v) (hb : s.flag F.DAT_CMD_BUSY = false) :
    Completes (.reservedOpWrite w a v) s fun t => t.fld F.DAT_CMD_STATUS = 1 ∧ Logged 0x306 0 t ∧
      Only evts (evtKeys ++ [a.toNat]) s t := by
  have hexec := exec_reservedOpWrite (e := (F.DAT_CMD_OP, 5)) (by decide) ha hop hw (regPut_datum s w v)
  rw [datCmd_reserved hw hop hb] at hexec
  rw [ha]
  exact ⟨_, hexec, shown_refusal (cmdTaken_only s w F.DAT_CMD_OP v) (by decide) (ok_of_listed (acc := .ro) (by decide))
    (by decide) (by decide) rfl (Nat.two_pow_pos 32)⟩

theorem reservedOpWrite_hearth (hw : w.isSecure = true) (ha : a.toNat = F.HRT_CMD_OP.addr)
    (hop : 18 < opOf F.HRT_CMD_OP v) (hb : s.flag F.HRT_CMD_BUSY = false) (hserves : s.hrtServes = true) :
    Completes (.reservedOpWrite w a v) s fun t => t.fld F.HRT_CMD_STATUS = 1 ∧ Logged 0x350 (bitsOf v 0 12) t ∧
      Only evts (F.HRT_ERR_VALID.addr :: evtKeys ++ [a.toNat]) s t := by
  have hexec := exec_reservedOpWrite (e := (F.HRT_CMD_OP, 0x12)) (by decide) ha hop hw (regPut_hearth s w v)
  rw [hrtCmd_reserved _ hw hop hb hserves] at hexec
  rw [ha]
  have hstatus : Only [] [F.HRT_CMD_OP.addr] s
      (((s.cmdTaken w F.HRT_CMD_OP v).setFld F.HRT_CMD_BUSY 0).setFld F.HRT_CMD_STATUS 1) :=
    ((cmdTaken_only s w F.HRT_CMD_OP v).trans (Only.setFld _ _ _ (by decide))).trans (Only.setFld _ _ _ (by decide))
  refine ⟨_, hexec, ?_, hrtRefused_effect _ _ hstatus (bitsOf_lt_scope v 0 (by decide))⟩
  rw [fld_status_hrtRefused]
  exact State.fld_setFld_same _ _ _ (ok_of_listed (acc := .ro) (by decide))

/-! ## The obligation -/

/-- Settles O5: a plain write, an unaligned access and a refused access are what `State.plainWrite` makes of them; a command register takes
OP 0 as any other field, and gives an OP that its chapter does not list to its block, which refuses it. -/
theorem registerAccesses : Obligations.RegisterAccesses := by
  intro s w a
  refine ⟨registerWrite_completes s w a, unalignedAccess_completes s, secureAccessRefused_completes s w a,
    opZeroWrite_completes s w a, fun v hw _ => ⟨?_, ?_, ?_, ?_, ?_, ?_, ?_⟩⟩
  · exact reservedOpWrite_rule hw
  · exact reservedOpWrite_plat hw
  · exact reservedOpWrite_sec hw
  · exact reservedOpWrite_queue hw
  · exact reservedOpWrite_gcl hw
  · exact reservedOpWrite_datum hw
  · exact reservedOpWrite_hearth hw

end Sys2Proof.Machine
end
